-- ==== Sys2Proof/Word.lean ====
section
/-! DEFINITION. The widths of the host line's fields: bytes, 16-bit words and 32-bit words (R168). -/

namespace Sys2Proof

/-- One byte of the host line. -/
abbrev Byte := BitVec 8

/-- A two-byte field: a checksum or a message CRC. -/
abbrev Word16 := BitVec 16

/-- A four-byte field: a label or a value of the time base. -/
abbrev Word32 := BitVec 32

end Sys2Proof
end

