-- ==== Sys2Proof/Syntax.lean ====
section
/-! DEFINITION. The commands of the part: one constructor for each row of the table of operations and
events. A row that a host command gives rise to has no operand of its own: its fields stand in the
COMMAND frame at the head of the inbound FIFO, and the row is the command interpreter's taking of that
frame (R165, R166; log entry 2). -/

namespace Sys2Proof

/-- A slot of the code table, 0 to 127 (R1). -/
abbrev SlotNo := Fin 128

/-- A zone, 0 to 7 (R55). -/
abbrev ZoneNo := Fin 8

/-- A receive input: 0 is RX0, 1 is RX1 (R124). -/
abbrev InputNo := Fin 2

/-- The level of a receive line: low is mark, high is space (R124). -/
inductive Level where
  | mark
  | space
  deriving DecidableEq, Repr

/-- The bytes of one message frame that follow SYNC (R163). -/
structure WireFrame where
  len : Byte
  kind : Byte
  tag : Byte
  type : Byte
  payload : List Byte
  crc : Word16
  deriving DecidableEq, Repr

/-- The operations and events of the part, one constructor for each row of the table, in its order. -/
inductive Instr where
  /-- POWER_ON: the supply rises, with the straps BAUD1:BAUD0 and the two receive lines as they stand. -/
  | powerOn (straps : BitVec 2) (rx0 rx1 : Level)
  /-- RESET_PIN: RESETn is released, with the straps and the receive lines as they stand. -/
  | resetPin (straps : BitVec 2) (rx0 rx1 : Level)
  /-- MESSAGE_FRAME: the bytes of one message frame arrive on HRX without a gap. -/
  | messageFrame (frame : WireFrame)
  /-- BYTE_TIMEOUT: a gap of more than 10 ms inside a partial frame. -/
  | byteTimeout
  /-- BAD_MESSAGE: the interpreter takes a frame whose TYPE is no command type. -/
  | badMessage
  | identify
  | time
  | setParam
  | getParam
  | reportSelect
  | restartLink
  | restartActivity
  | restartFull
  | codeOpen
  | codeData
  | codeClose
  | codeErase
  | codeAmend
  | codeInfo
  | codeRead
  | poolInfo
  | emit
  | jobKeep
  | jobRelease
  | jobCancel
  | jobInfo
  | jobList
  | zoneEnable
  | zoneDisable
  | zoneInfo
  | derateSet
  | derateGet
  | inputMode
  | inputInfo
  | learn
  | learnCancel
  /-- HTX_FRAME_SENT: the frame under way on HTX has been sent to its end. -/
  | htxFrameSent
  | reportSend
  | ackTimerExpiry
  | loadIdleTimerExpiry
  | keepTimerExpiry (job : Nat)
  | holdLimitExpiry (job : Nat)
  | pauseLimitExpiry (job : Nat)
  | guardExpiry (zone : ZoneNo)
  | jobStart (job : Nat)
  | cellEnd (job : Nat)
  | frameBoundary (job : Nat)
  | codeRetired (slot : SlotNo)
  | decayStep (zone : ZoneNo)
  | pauseClear (job : Nat)
  /-- RX_RAW_EDGE: the raw line of an input moves to a level. -/
  | rxRawEdge (input : InputNo) (level : Level)
  | acceptedChange (input : InputNo)
  | endGapClose (input : InputNo)
  | stuckMark (input : InputNo)
  | discardEnd (input : InputNo)
  | captureDispatch
  | verifyVerdict (input : InputNo)
  | learnDeadline
  | repeatWindowElapse (input : InputNo)
  | rxRunEnd (input : InputNo)
  /-- HRX_BYTE: a byte arrives on HRX; `stopHigh` says whether its stop bit was found high (R162). -/
  | hrxByte (byte : Byte) (stopHigh : Bool)
  deriving DecidableEq, Repr

end Sys2Proof
end

