-- ==== Sys2Proof/Decode.lean ====
section
/-! DEFINITION. The command that a word spells by the table's bits. No row of this part's table gives
bits (commands arrive as message frames and events), so no word spells a command. -/

namespace Sys2Proof

/-- The command spelled by the `nbits` low bits of `w`: none, since no row of the table gives bits. -/
def decodeTableWord (_nbits _w : Nat) : Option Instr :=
  none

end Sys2Proof
end

