-- ==== Sys2Proof/Config.lean ====
section
/-! DEFINITION. The capacities of the part (R175) and the values the manual leaves open. -/

namespace Sys2Proof.Config

/-- Places in the job queue (R34). -/
def jobPlaces : Nat := 16

/-- Pool blocks (R8). -/
def poolBlocks : Nat := 256

/-- Cells of one pool block (R8). -/
def cellsPerBlock : Nat := 16

/-- Cells of the capture buffer (R132). -/
def captureCells : Nat := 2048

/-- Entries of the capture queue (R132). -/
def captureEntries : Nat := 8

/-- Entries of the report queue (R169). -/
def reportEntries : Nat := 32

/-- Report entries that capture-derived reports leave free (R170). -/
def captureReserve : Nat := 8

/-- Reports that may be outstanding at once (R169). -/
def reportWindow : Nat := 8

/-- Frames of the inbound command FIFO (R165). -/
def fifoFrames : Nat := 4

/-- Link errors that may wait for HTX (R167). -/
def waitingLinkErrors : Nat := 4

/-- Most cells of a captured frame (R129). -/
def capturedCells : Nat := 511

/-- Most cells of one RX_RAW part or CODE_DATA segment (R135, R22). -/
def segmentCells : Nat := 112

/-- Counters that saturate stop here (R82, R127, R133, R144, R156, R170). -/
def counterTop : Nat := 65535

/-- FREE VALUE (log entry 5). The offset of zone `z`'s first decay step after the `n`th power-up, in µs
beyond the first millisecond: the manual gives only the range 1 to 10 ms (R112). -/
opaque decayOffset (n : Nat) (z : Fin 8) : Fin 9001

/-- FREE VALUE (log entry 6). Which of the happenings that are due at one instant is taken first: the
manual leaves the order open (R31, R73, R94, R101, R119, R123, R137). -/
opaque firstTaken (n : Nat) : Nat

/-- FREE VALUE (log entry 28). Whether a decided run end that waits for report space stands while a frame of its input is
open: R145 says that the opening undoes it, and the last row of R147 that entries freed before the frame closes still
create RX_RUN_END. -/
opaque runEndStands : Bool

end Sys2Proof.Config
end

