-- ==== Sys2Proof/Machine/Defaults.lean ====
section
/-! DEFINITION. The parameters (R176) and the derate groups (R113): their ranges, their defaults, and
reading and writing one of them. -/

namespace Sys2Proof.Machine

/-- A set of zones: bit `n` stands for zone `n` (R38). -/
abbrev ZoneSet := BitVec 8

/-- A derate group, G0 to G3 (R113). -/
abbrev GroupNo := Fin 4

/-- The seventeen parameters (R176). -/
inductive ParamId where
  | guardTime
  | keepInterval
  | holdLimit
  | pauseLimit
  | loadTimeout
  | matchTolerance
  | repeatWindow
  | endGapRx0
  | endGapRx1
  | glitchLimit
  | verifyTolerance
  | loadDecay
  | derateHysteresis
  | ackTimeout
  | retryLimit
  | unknownForward
  | learnTimeout
  deriving DecidableEq, Repr

/-- The parameter an *id* byte names, if any (R176). -/
def ParamId.ofId : Nat → Option ParamId
  | 0x01 => some .guardTime
  | 0x02 => some .keepInterval
  | 0x03 => some .holdLimit
  | 0x04 => some .pauseLimit
  | 0x05 => some .loadTimeout
  | 0x06 => some .matchTolerance
  | 0x07 => some .repeatWindow
  | 0x08 => some .endGapRx0
  | 0x09 => some .endGapRx1
  | 0x0A => some .glitchLimit
  | 0x0B => some .verifyTolerance
  | 0x0C => some .loadDecay
  | 0x0D => some .derateHysteresis
  | 0x0E => some .ackTimeout
  | 0x0F => some .retryLimit
  | 0x10 => some .unknownForward
  | 0x11 => some .learnTimeout
  | _ => none

/-- The lowest and highest value of a parameter (R176). -/
def ParamId.range : ParamId → Nat × Nat
  | .guardTime => (0, 100)
  | .keepInterval => (50, 2000)
  | .holdLimit => (1, 120)
  | .pauseLimit => (100, 10000)
  | .loadTimeout => (200, 10000)
  | .matchTolerance => (5, 50)
  | .repeatWindow => (50, 1000)
  | .endGapRx0 => (2, 100)
  | .endGapRx1 => (2, 100)
  | .glitchLimit => (0, 200)
  | .verifyTolerance => (5, 50)
  | .loadDecay => (0, 1000)
  | .derateHysteresis => (0, 10000)
  | .ackTimeout => (50, 5000)
  | .retryLimit => (1, 15)
  | .unknownForward => (0, 1)
  | .learnTimeout => (1, 30)

/-- Whether a value lies in a parameter's range (R176). -/
def ParamId.inRange (p : ParamId) (v : Nat) : Bool :=
  decide (p.range.1 ≤ v) && decide (v ≤ p.range.2)

/-- The values of the parameters (R176), each in the unit of its row. -/
structure Params where
  guardTime : Nat
  keepInterval : Nat
  holdLimit : Nat
  pauseLimit : Nat
  loadTimeout : Nat
  matchTolerance : Nat
  repeatWindow : Nat
  endGapRx0 : Nat
  endGapRx1 : Nat
  glitchLimit : Nat
  verifyTolerance : Nat
  loadDecay : Nat
  derateHysteresis : Nat
  ackTimeout : Nat
  retryLimit : Nat
  unknownForward : Nat
  learnTimeout : Nat
  deriving DecidableEq, Repr

/-- The default of every parameter (R176). -/
def defaultParams : Params where
  guardTime := 10
  keepInterval := 300
  holdLimit := 20
  pauseLimit := 1000
  loadTimeout := 2000
  matchTolerance := 20
  repeatWindow := 250
  endGapRx0 := 15
  endGapRx1 := 15
  glitchLimit := 50
  verifyTolerance := 25
  loadDecay := 20
  derateHysteresis := 50
  ackTimeout := 500
  retryLimit := 6
  unknownForward := 0
  learnTimeout := 10

/-- The value of one parameter (R176, GET_PARAM). -/
def Params.get (ps : Params) : ParamId → Nat
  | .guardTime => ps.guardTime
  | .keepInterval => ps.keepInterval
  | .holdLimit => ps.holdLimit
  | .pauseLimit => ps.pauseLimit
  | .loadTimeout => ps.loadTimeout
  | .matchTolerance => ps.matchTolerance
  | .repeatWindow => ps.repeatWindow
  | .endGapRx0 => ps.endGapRx0
  | .endGapRx1 => ps.endGapRx1
  | .glitchLimit => ps.glitchLimit
  | .verifyTolerance => ps.verifyTolerance
  | .loadDecay => ps.loadDecay
  | .derateHysteresis => ps.derateHysteresis
  | .ackTimeout => ps.ackTimeout
  | .retryLimit => ps.retryLimit
  | .unknownForward => ps.unknownForward
  | .learnTimeout => ps.learnTimeout

/-- The parameters with one value stored (R176, SET_PARAM). -/
def Params.set (ps : Params) (p : ParamId) (v : Nat) : Params :=
  match p with
  | .guardTime => { ps with guardTime := v }
  | .keepInterval => { ps with keepInterval := v }
  | .holdLimit => { ps with holdLimit := v }
  | .pauseLimit => { ps with pauseLimit := v }
  | .loadTimeout => { ps with loadTimeout := v }
  | .matchTolerance => { ps with matchTolerance := v }
  | .repeatWindow => { ps with repeatWindow := v }
  | .endGapRx0 => { ps with endGapRx0 := v }
  | .endGapRx1 => { ps with endGapRx1 := v }
  | .glitchLimit => { ps with glitchLimit := v }
  | .verifyTolerance => { ps with verifyTolerance := v }
  | .loadDecay => { ps with loadDecay := v }
  | .derateHysteresis => { ps with derateHysteresis := v }
  | .ackTimeout => { ps with ackTimeout := v }
  | .retryLimit => { ps with retryLimit := v }
  | .unknownForward => { ps with unknownForward := v }
  | .learnTimeout => { ps with learnTimeout := v }

/-- What a derate group does to a zone under it (R113). -/
inductive Action where
  | holdOff
  | drive (level : Nat)
  deriving DecidableEq, Repr

/-- One derate group (R113). -/
structure Group where
  enabled : Bool
  threshold : Nat
  action : Action
  mask : ZoneSet
  deriving DecidableEq, Repr

/-- The default of every derate group (R113). -/
def defaultGroups : Vector Group 4 :=
  #v[{ enabled := true, threshold := 6000, action := .holdOff, mask := 0xFF#8 },
     { enabled := true, threshold := 4000, action := .drive 5, mask := 0xFF#8 },
     { enabled := false, threshold := 65535, action := .drive 7, mask := 0#8 },
     { enabled := false, threshold := 65535, action := .drive 7, mask := 0#8 }]

end Sys2Proof.Machine
end

