-- ==== Sys2Proof/Machine/State.lean ====
section
/-! DEFINITION. The state of the part, as plain data, and its value right after power-on. -/

namespace Sys2Proof.Machine

/-! ### Timers -/

/-- A running timer: the time base value at its start and its length in ms. It is reached when the time
elapsed since its start, modulo 2^32, reaches its length (R175). -/
structure Timer where
  start : Word32
  length : Nat
  deriving DecidableEq, Repr

/-! ### The code table (chapters 1 and 2) -/

/-- How the number of frames of a code is decided (R2). -/
inductive CodeMode where
  | count
  | hold
  deriving DecidableEq, Repr

/-- The header fields of a code (R2). Frequencies are in Hz, the trail gap in µs. -/
structure Header where
  label : Word32
  frequency : Nat
  duty : Nat
  mode : CodeMode
  repeatFigure : Nat
  leadCells : Nat
  repeatCells : Nat
  trailGap : Nat
  matchable : Bool
  tolerance : Nat
  deriving DecidableEq, Repr

/-- A complete code: header, cells in index order, checksum and reference count (R2, R7, R9). -/
structure Code where
  header : Header
  cells : List Nat
  checksum : Word16
  refs : Nat
  deriving DecidableEq, Repr

/-- One slot of the code table in its state (R1). A LOADING slot holds its header and the cells received
so far. -/
inductive Slot where
  | empty
  | loading (header : Header) (cells : List Nat)
  | learning
  | ready (code : Code)
  | retiring (code : Code)
  deriving DecidableEq, Repr

/-- The load context in use (R18). Its idle timer's start is the *last activity time*. -/
structure LoadContext where
  slot : SlotNo
  header : Header
  nextOffset : Nat
  checksum : Word16
  idle : Timer
  deriving DecidableEq, Repr

/-- A pattern of the learner: the sum of each cell, in µs, and the number of frames summed (R148). -/
structure Pattern where
  sums : List Nat
  frames : Nat
  deriving DecidableEq, Repr

/-- Whether a frame has been put in pattern B (R148). -/
inductive LearnPhase where
  | aOnly
  | bSeen
  deriving DecidableEq, Repr

/-- The learn context in use (R148). -/
structure LearnContext where
  input : InputNo
  slot : SlotNo
  frequency : Nat
  duty : Nat
  wanted : Nat
  firstFrame : Nat
  patternA : Option Pattern
  patternB : Option Pattern
  phase : LearnPhase
  minimumGap : Option Nat
  deadline : Timer
  deriving DecidableEq, Repr

/-- The code table, the pool's free count and the load and learn contexts (R1, R8, R18, R148). -/
structure CodeTable where
  slots : Vector Slot 128
  freeBlocks : Nat
  load : Option LoadContext
  learn : Option LearnContext
  deriving DecidableEq, Repr

/-! ### Jobs and frame sequencers (chapters 3, 5 and 6) -/

/-- The class of a job (R35). -/
inductive JobClass where
  | normal
  | urgent
  deriving DecidableEq, Repr

/-- The state of a live job (R36). -/
inductive JobState where
  | waiting
  | running
  | draining
  | settling
  deriving DecidableEq, Repr

/-- Why a job drains or has ended (chapter 6, End reasons). -/
inductive EndReason where
  | completed
  | released
  | keepLapsed
  | holdLimit
  | cancelled
  | preempted
  | zoneDisabled
  | dutyLimit
  deriving DecidableEq, Repr

/-- The section a frame plays (R74). -/
inductive FrameKind where
  | lead
  | rep
  deriving DecidableEq, Repr

/-- Where in a frame the sequencer stands (R74). The cell index is present in SECTION only. -/
inductive PlayPhase where
  | inSection (cell : Nat)
  | trail
  | atBoundary
  deriving DecidableEq, Repr

/-- The play position of a frame sequencer (R74): `since` is the µs instant at which the current cell or
trail gap began, and `sampled` the drive each zone took at the start of the current mark, empty while no
mark is played. -/
structure Play where
  kind : FrameKind
  phase : PlayPhase
  since : Nat
  sampled : List (ZoneNo × Nat)
  deriving DecidableEq, Repr

/-- The result of a verify (R159, R107). -/
inductive VerifyResult where
  | none
  | pass
  | partly
  | noSignal
  | fail
  | abandoned
  deriving DecidableEq, Repr

/-- Where a comparison failed: at a cell, on the cell count, or as an extra frame (R156). -/
inductive MismatchAt where
  | cell (index : Nat)
  | count
  | extra
  deriving DecidableEq, Repr

/-- A mismatch record (R156). -/
structure Mismatch where
  frameIndex : Nat
  place : MismatchAt
  expected : Nat
  measured : Nat
  deriving DecidableEq, Repr

/-- The verify fields a job carries into its JOB_END (R107, R159). -/
structure VerifyOutcome where
  result : VerifyResult
  seen : Nat
  matched : Nat
  mismatch : Option Mismatch
  deriving DecidableEq, Repr

/-- A job record (R35), with its keep, hold limit and pause timers (R90, R91, R120), its end time (R104),
its sequencer's play position (R74) and its verify outcome (R159). -/
structure Job where
  id : Nat
  slot : SlotNo
  zones : ZoneSet
  cls : JobClass
  hold : Bool
  repeatOverride : Option Nat
  keepInterval : Option Nat
  keepLength : Option Nat
  verifyInput : Option InputNo
  state : JobState
  paused : Bool
  preemptPending : Bool
  released : Bool
  framesSent : Nat
  repeatsSent : Nat
  generator : Option (Fin 4)
  admissionTime : Word32
  startTime : Option Word32
  endReason : Option EndReason
  endTime : Option Word32
  keepTimer : Option Timer
  holdTimer : Option Timer
  pauseTimer : Option Timer
  play : Option Play
  verify : VerifyOutcome
  deriving DecidableEq, Repr

/-! ### Zones and carrier generators (chapters 4 and 7) -/

/-- The state of a zone, with its *owner job* in ACTIVE and its running guard in GUARD (R55, R56). -/
inductive ZoneState where
  | off
  | idle
  | active (owner : Nat)
  | guard (timer : Timer)
  deriving DecidableEq, Repr

/-- A zone record (R55). `inForce` is the *group in force* with the action recorded with it (R116), and
`nextDecay` the µs instant of the zone's next decay step (R112). -/
structure Zone where
  state : ZoneState
  drive : Nat
  load : Nat
  inForce : Option (GroupNo × Action)
  nextDecay : Nat
  deriving DecidableEq, Repr

/-- An IN_USE carrier generator (R66). -/
structure Carrier where
  frequency : Nat
  duty : Nat
  users : Nat
  deriving DecidableEq, Repr

/-! ### Receive inputs and the capture store (chapters 8, 9 and 10) -/

/-- The mode of an input (R125). -/
inductive InputMode where
  | off
  | matching
  | raw
  | learn
  | verify
  deriving DecidableEq, Repr

/-- The block a captured frame goes to (R129). -/
inductive Consumer where
  | recognizer
  | rawForwarder
  | learner
  | verifier
  deriving DecidableEq, Repr

/-- The flags of a captured frame (R129). -/
structure FrameFlags where
  truncated : Bool
  stuck : Bool
  longMark : Bool
  deriving DecidableEq, Repr

/-- A pending trial of the glitch filter: the µs instant of its raw edge and the GLITCH_LIMIT in force
then (R124). -/
structure Trial where
  edge : Nat
  limit : Nat
  deriving DecidableEq, Repr

/-- An open frame (R127, R128). Instants, gaps and cells are in µs. -/
structure OpenFrame where
  number : Nat
  startInstant : Nat
  gapBefore : Option Nat
  endGap : Nat
  cells : List Nat
  longMark : Bool
  deriving DecidableEq, Repr

/-- The state of a capture engine (R127); DISCARDING holds the end gap it waits for, in µs (R131). -/
inductive Engine where
  | quiet
  | inFrame (frame : OpenFrame)
  | discarding (endGap : Nat)
  deriving DecidableEq, Repr

/-- A closed captured frame (R129). -/
structure CapturedFrame where
  input : InputNo
  number : Nat
  startTime : Word32
  endInstant : Nat
  gapBefore : Option Nat
  cells : List Nat
  flags : FrameFlags
  consumer : Consumer
  deriving DecidableEq, Repr

/-- An active run (R144). `windowPassed` says that the timed check of its present window has been made,
and `endDecided` that its end was decided at a time base value and waits for report space (R145). -/
structure Run where
  slot : SlotNo
  count : Nat
  lastMarkEnd : Nat
  windowPassed : Bool
  endDecided : Option Word32
  deriving DecidableEq, Repr

/-- The verify record of an input (R156). -/
structure VerifyRecord where
  job : Nat
  firstFrame : Nat
  emitted : Nat
  seen : Nat
  matched : Nat
  mismatch : Option Mismatch
  deriving DecidableEq, Repr

/-- One receive input: its line and glitch filter (R124), its mode (R125), its capture engine (R127), its
counts (R127, R133), its run context (R144) and its verify record (R156). `levelSince` is the µs instant
of the raw edge at which the accepted level began. -/
structure RxInput where
  raw : Level
  accepted : Level
  levelSince : Nat
  trial : Option Trial
  lastMarkEnd : Option Nat
  mode : InputMode
  savedMode : Option InputMode
  mask : ZoneSet
  engine : Engine
  frameNext : Nat
  drops : Nat
  suppressed : Nat
  episodeOpen : Bool
  run : Option Run
  verify : Option VerifyRecord
  deriving DecidableEq, Repr

/-! ### The host line (chapter 11) -/

/-- The receive framer (R164). The bytes are those from KIND on; CRC holds its first byte once received. -/
inductive Framer where
  | hunt
  | length
  | body (len : Byte) (bytes : List Byte)
  | crc (len : Byte) (bytes : List Byte) (first : Option Byte)
  deriving DecidableEq, Repr

/-- A COMMAND frame of the inbound FIFO (R165). -/
structure CommandFrame where
  tag : Byte
  type : Byte
  payload : List Byte
  crc : Word16
  deriving DecidableEq, Repr

/-- The kinds of frame the part sends (R163). -/
inductive OutKind where
  | reply
  | report
  | linkError
  deriving DecidableEq, Repr

/-- A frame the part sends, less LEN and CRC, which follow from it (R163). -/
structure OutFrame where
  kind : OutKind
  tag : Byte
  type : Byte
  payload : List Byte
  deriving DecidableEq, Repr

/-- The replay record (R166). -/
structure Replay where
  tag : Byte
  crc : Word16
  reply : OutFrame
  deriving DecidableEq, Repr

/-- An entry of the report queue (R169). -/
structure ReportEntry where
  sequence : Nat
  type : Byte
  payload : List Byte
  timesSent : Nat
  sent : Bool
  deriving DecidableEq, Repr

/-- The host line: the sampled straps (R162), the framer and the µs instant of its last byte (R164), the
inbound FIFO (R165), the replay record (R166), the outbound arbiter's waiting list with the frame under way
on HTX and the µs instant it began (R167), the report queue (R169), the window's acknowledgement timer,
round count and HELD condition (R172), the lost count (R170) and the category selection (R173). -/
structure HostLine where
  straps : BitVec 2
  framer : Framer
  lastByte : Nat
  fifo : List CommandFrame
  replay : Option Replay
  waiting : List OutFrame
  sending : Option OutFrame
  sendingSince : Nat
  reports : List ReportEntry
  nextSequence : Nat
  ackTimer : Option Timer
  rounds : Nat
  held : Bool
  lost : Nat
  categories : Byte
  deriving DecidableEq, Repr

/-! ### The whole state -/

/-- The state of the part. `pending` and `draws` are the model's own: the commands that wait, first in
first out, and how many free values have been drawn. `clock` counts µs since the time base was last set to
zero; the time base is its whole ms modulo 2^32 (R175). -/
structure State where
  pending : List Instr
  draws : Nat
  clock : Nat
  table : CodeTable
  jobs : List Job
  nextId : Nat
  zones : Vector Zone 8
  generators : Vector (Option Carrier) 4
  groups : Vector Group 4
  inputs : Vector RxInput 2
  captures : List CapturedFrame
  line : HostLine
  params : Params
  deriving DecidableEq, Repr

/-- Why the machine stops with a fault. The manual stops the part nowhere: errors of the host are answered
with a reply status or a link error, so there is no fault. -/
inductive Fault where
  deriving DecidableEq, Repr

/-- Why a command is refused. -/
inductive Refusal where
  /-- Raised by exec for a row that has no meaning yet; no row is left so. Safe: the machine stops. -/
  | notModelled (mnemonic : String)
  deriving DecidableEq, Repr

/-! ### The state after power-on -/

/-- A zone after power-on (R65), its first decay step falling 1 to 10 ms later (R112, log entry 5). -/
def resetZone (z : ZoneNo) (draw : Nat) : Zone where
  state := .idle
  drive := 8
  load := 0
  inForce := none
  nextDecay := 1000 + (Config.decayOffset draw z).val

/-- An input after power-on with its line at a level: the accepted level is the line's, and the engine
discards while the line is at mark (R124, R125, R132). -/
def resetInput (line : Level) (endGap : Nat) : RxInput where
  raw := line
  accepted := line
  levelSince := 0
  trial := none
  lastMarkEnd := none
  mode := .off
  savedMode := none
  mask := 0#8
  engine := match line with
    | .space => .quiet
    | .mark => .discarding endGap
  frameNext := 0
  drops := 0
  suppressed := 0
  episodeOpen := false
  run := none
  verify := none

/-- The host line after power-on or RESET pin release: STARTED with a cause and time 0 stands at sequence
0 (R174), every category is selected (R173), and everything else is empty. DESIGN CHOICE, unsafe (log entry 30): a frame
under way on HTX when the RESET pin is released is dropped. -/
def resetLine (straps : BitVec 2) (cause : Byte) : HostLine where
  straps := straps
  framer := .hunt
  lastByte := 0
  fifo := []
  replay := none
  waiting := []
  sending := none
  sendingSince := 0
  reports := [{ sequence := 0, type := 0x80#8, payload := [cause, 0#8, 0#8, 0#8, 0#8], timesSent := 0, sent := false }]
  nextSequence := 1
  ackTimer := none
  rounds := 0
  held := false
  lost := 0
  categories := 0x1F#8

/-- The part right after power-on or RESET pin release, with the straps and receive lines as sampled then
and the commands that wait. -/
def State.powered (straps : BitVec 2) (rx0 rx1 : Level) (cause : Byte) (draw : Nat) (pending : List Instr) : State where
  pending := pending
  draws := draw + 1
  clock := 0
  table := { slots := Vector.replicate 128 .empty, freeBlocks := Config.poolBlocks, load := none, learn := none }
  jobs := []
  nextId := 1
  zones := #v[resetZone 0 draw, resetZone 1 draw, resetZone 2 draw, resetZone 3 draw,
              resetZone 4 draw, resetZone 5 draw, resetZone 6 draw, resetZone 7 draw]
  generators := Vector.replicate 4 none
  groups := defaultGroups
  inputs := #v[resetInput rx0 (defaultParams.endGapRx0 * 1000), resetInput rx1 (defaultParams.endGapRx1 * 1000)]
  captures := []
  line := resetLine straps cause
  params := defaultParams

/-- The part right after power-on (R16, R53, R65, R113, R125, R132, R164 to R176), with nothing commanded.
The straps and the receive lines are inputs: the straps stand at 00 and both lines are at space (log entry
4). -/
def State.reset : State :=
  State.powered 0#2 .space .space 0#8 0 []

end Sys2Proof.Machine
end

