-- ==== Sys2Proof/Machine/Wire.lean ====
section
/-! DEFINITION. Byte order and the CRC of the host line and of code cells (R7, R163). -/

namespace Sys2Proof.Machine

/-- A one-byte field (chapter 11, Field widths). -/
def u8 (n : Nat) : List Byte :=
  [BitVec.ofNat 8 n]

/-- A two-byte field, most significant byte first (Conventions, Byte order). -/
def u16 (n : Nat) : List Byte :=
  [BitVec.ofNat 8 (n / 256), BitVec.ofNat 8 n]

/-- A four-byte field, most significant byte first (Conventions, Byte order). -/
def u32 (w : Word32) : List Byte :=
  [w.extractLsb' 24 8, w.extractLsb' 16 8, w.extractLsb' 8 8, w.extractLsb' 0 8]

/-- A yes/no field: 0 no, 1 yes. -/
def flag (b : Bool) : List Byte :=
  u8 (if b then 1 else 0)

/-- A run of cells, two bytes each. -/
def cellBytes (cells : List Nat) : List Byte :=
  cells.flatMap u16

/-- The byte of a payload at a position, as a number. -/
def byteAt (p : List Byte) (i : Nat) : Nat :=
  (p.getD i 0#8).toNat

/-- The two-byte field of a payload at a position. -/
def wordAt (p : List Byte) (i : Nat) : Nat :=
  byteAt p i * 256 + byteAt p (i + 1)

/-- The four-byte field of a payload at a position. -/
def longAt (p : List Byte) (i : Nat) : Nat :=
  wordAt p i * 65536 + wordAt p (i + 2)

/-- The `n` cells of a payload from a position on. -/
def cellsAt (p : List Byte) (i n : Nat) : List Nat :=
  (List.range n).map fun k => wordAt p (i + 2 * k)

/-- One shift of the CRC register, generator x^16 + x^12 + x^5 + 1 (R7). -/
def crcShift (r : Word16) : Word16 :=
  if r.getLsbD 15 then (r <<< 1) ^^^ 0x1021#16 else r <<< 1

/-- One byte entered into the CRC register, most significant bit first (R7). -/
def crcByte (r : Word16) (b : Byte) : Word16 :=
  let r := r ^^^ (b.setWidth 16 <<< 8)
  crcShift (crcShift (crcShift (crcShift (crcShift (crcShift (crcShift (crcShift r)))))))

/-- The CRC register's start value (R7). -/
def crcStart : Word16 :=
  0xFFFF#16

/-- Bytes entered into the CRC register in order (R163). -/
def crcBytes (r : Word16) (bytes : List Byte) : Word16 :=
  bytes.foldl crcByte r

/-- Cells entered into the CRC register in index order, high byte first (R7). -/
def crcCells (r : Word16) (cells : List Nat) : Word16 :=
  crcBytes r (cellBytes cells)

/-- The CRC of a message frame: over LEN, KIND, TAG, TYPE and payload (R163). -/
def frameCrc (len kind tag type : Byte) (payload : List Byte) : Word16 :=
  crcBytes crcStart (len :: kind :: tag :: type :: payload)

/-- The bytes of a message frame on the line, SYNC first (R163). -/
def frameBytes (f : WireFrame) : List Byte :=
  0xC3#8 :: f.len :: f.kind :: f.tag :: f.type :: (f.payload ++ [f.crc.extractLsb' 8 8, f.crc.extractLsb' 0 8])

/-- The message frame with a kind, tag, type and payload, its LEN and CRC computed (R163). -/
def makeFrame (kind tag type : Byte) (payload : List Byte) : WireFrame :=
  let len := BitVec.ofNat 8 (payload.length + 3)
  { len := len, kind := kind, tag := tag, type := type, payload := payload, crc := frameCrc len kind tag type payload }

end Sys2Proof.Machine
end

