-- ==== Sys2Proof/Machine/Flags.lean ====
section
/-! DEFINITION. How each state, mode, reason and flag reads as a byte (chapter 11, Field widths and
encodings; R168 for absent fields). -/

namespace Sys2Proof.Machine

/-- The reply statuses (chapter 11, Reply statuses). -/
inductive Status where
  | ok
  | badMessage
  | range
  | slotState
  | busy
  | poolFull
  | notLoading
  | sequence
  | incomplete
  | checksum
  | codeUnavailable
  | zoneDisabled
  | queueFull
  | unknownJob
  | mode
  | tooLate
  | inputBusy
  deriving DecidableEq, Repr

/-- The status byte of a reply. -/
def Status.code : Status → Byte
  | .ok => 0x00#8
  | .badMessage => 0x01#8
  | .range => 0x02#8
  | .slotState => 0x03#8
  | .busy => 0x04#8
  | .poolFull => 0x05#8
  | .notLoading => 0x06#8
  | .sequence => 0x07#8
  | .incomplete => 0x08#8
  | .checksum => 0x09#8
  | .codeUnavailable => 0x0A#8
  | .zoneDisabled => 0x0B#8
  | .queueFull => 0x0C#8
  | .unknownJob => 0x0D#8
  | .mode => 0x0E#8
  | .tooLate => 0x0F#8
  | .inputBusy => 0x10#8

/-- A reply payload: its status byte and the fields that follow (R168). -/
def reply (st : Status) (fields : List Byte) : List Byte :=
  st.code :: fields

/-- A one-byte field that may be absent, absent as 0xFF (R168). -/
def optional8 : Option Nat → List Byte
  | some n => u8 n
  | none => [0xFF#8]

/-- A two-byte keep field that may be absent, absent as 0 (R168). -/
def optionalKeep : Option Nat → List Byte
  | some n => u16 n
  | none => u16 0

/-- The byte of a slot state. -/
def Slot.code : Slot → Nat
  | .empty => 0
  | .loading _ _ => 1
  | .learning => 2
  | .ready _ => 3
  | .retiring _ => 4

/-- The byte of a job state. -/
def JobState.code : JobState → Nat
  | .waiting => 0
  | .running => 1
  | .draining => 2
  | .settling => 3

/-- The byte of a zone state. -/
def ZoneState.code : ZoneState → Nat
  | .off => 0
  | .idle => 1
  | .active _ => 2
  | .guard _ => 3

/-- The byte of an input mode. -/
def InputMode.code : InputMode → Nat
  | .off => 0
  | .matching => 1
  | .raw => 2
  | .learn => 3
  | .verify => 4

/-- The byte of an engine state. -/
def Engine.code : Engine → Nat
  | .quiet => 0
  | .inFrame _ => 1
  | .discarding _ => 2

/-- The byte of a job class. -/
def JobClass.code : JobClass → Nat
  | .normal => 0
  | .urgent => 1

/-- The byte of a code mode. -/
def CodeMode.code : CodeMode → Nat
  | .count => 0
  | .hold => 1

/-- The byte of a pattern: the section a captured frame matched. -/
def FrameKind.code : FrameKind → Nat
  | .lead => 0
  | .rep => 1

/-- The byte of an end reason. -/
def EndReason.code : EndReason → Nat
  | .completed => 0
  | .released => 1
  | .keepLapsed => 2
  | .holdLimit => 3
  | .cancelled => 4
  | .preempted => 5
  | .zoneDisabled => 6
  | .dutyLimit => 7

/-- The byte of a verify result. -/
def VerifyResult.code : VerifyResult → Nat
  | .none => 0
  | .pass => 1
  | .partly => 2
  | .noSignal => 3
  | .fail => 4
  | .abandoned => 5

/-- The results of a learn (R153). -/
inductive LearnResult where
  | stored
  | poolFull
  | badFrame
  | inconsistent
  | timeout
  | cancelled
  deriving DecidableEq, Repr

/-- The byte of a learn result. -/
def LearnResult.code : LearnResult → Nat
  | .stored => 0
  | .poolFull => 1
  | .badFrame => 2
  | .inconsistent => 3
  | .timeout => 4
  | .cancelled => 5

/-- Why a captured frame was dropped (R133). -/
inductive DropReason where
  | queueFull
  | bufferFull
  deriving DecidableEq, Repr

/-- The byte of a drop reason. -/
def DropReason.code : DropReason → Nat
  | .queueFull => 0
  | .bufferFull => 1

/-- The byte of a frame's flags: bit 0 TRUNCATED, bit 1 STUCK, bit 2 LONG_MARK. -/
def FrameFlags.code (f : FrameFlags) : Nat :=
  (if f.truncated then 1 else 0) + (if f.stuck then 2 else 0) + (if f.longMark then 4 else 0)

/-- Whether a frame carries any flag (R139). -/
def FrameFlags.any (f : FrameFlags) : Bool :=
  f.truncated || f.stuck || f.longMark

/-- The byte of a derate action: 0 HOLD_OFF, 1 to 7 DRIVE n (R114). -/
def Action.code : Action → Nat
  | .holdOff => 0
  | .drive n => n

/-- The *cell index* field of a mismatch: 0 to 510, 0xFFFE for COUNT, 0xFFFF for EXTRA (JOB_END layout). -/
def MismatchAt.code : MismatchAt → Nat
  | .cell i => i
  | .count => 0xFFFE
  | .extra => 0xFFFF

/-- The KIND byte of a frame the part sends (R163). -/
def OutKind.code : OutKind → Byte
  | .reply => 0x02#8
  | .report => 0x03#8
  | .linkError => 0x05#8

/-- The reasons of a link error, each with its code (R163). -/
inductive LinkFault where
  | badLength
  | badCrc
  | badKind
  | byteTimeout
  | overrun
  deriving DecidableEq, Repr

/-- The code of a link error's reason, sent as its TYPE (R163). -/
def LinkFault.code : LinkFault → Byte
  | .badLength => 0x01#8
  | .badCrc => 0x02#8
  | .badKind => 0x03#8
  | .byteTimeout => 0x04#8
  | .overrun => 0x05#8

end Sys2Proof.Machine
end

