-- ==== Sys2Proof/Machine/Operands.lean ====
section
/-! DEFINITION. The operand fields of the commands: the code header, and numbers that name a slot, a zone,
a group or an input. -/

namespace Sys2Proof.Machine

/-- The slot a number names, if it is 0 to 127. -/
def slotOf (n : Nat) : Option SlotNo :=
  if h : n < 128 then some ⟨n, h⟩ else none

/-- The zone a number names, if it is 0 to 7. -/
def zoneOf (n : Nat) : Option ZoneNo :=
  if h : n < 8 then some ⟨n, h⟩ else none

/-- The derate group a number names, if it is 0 to 3. -/
def groupOf (n : Nat) : Option GroupNo :=
  if h : n < 4 then some ⟨n, h⟩ else none

/-- The input a number names, if it is 0 or 1. -/
def inputOf (n : Nat) : Option InputNo :=
  if h : n < 2 then some ⟨n, h⟩ else none

/-- The total cell count of a code (R2). -/
def Header.total (h : Header) : Nat :=
  h.leadCells + h.repeatCells

/-- The blocks a code of `t` cells holds (R8). -/
def blocksFor (t : Nat) : Nat :=
  (t + (Config.cellsPerBlock - 1)) / Config.cellsPerBlock

/-- The blocks a code holds (R8). -/
def Header.blocks (h : Header) : Nat :=
  blocksFor h.total

/-- A carrier frequency in range: 0, or 15,000 to 500,000 Hz (R2). -/
def frequencyInRange (f : Nat) : Bool :=
  decide (f = 0) || (decide (15000 ≤ f) && decide (f ≤ 500000))

/-- A carrier duty in range: 25, 33 or 50 percent (R3, condition 7). -/
def dutyInRange (d : Nat) : Bool :=
  decide (d = 25) || decide (d = 33) || decide (d = 50)

/-- A tolerance in range: 0, or 5 to 50 percent (R2). -/
def toleranceInRange (t : Nat) : Bool :=
  decide (t = 0) || (decide (5 ≤ t) && decide (t ≤ 50))

/-- A section length in range: 0, or odd and at most 1,023 (R2; R3, condition 2). -/
def sectionInRange (n : Nat) : Bool :=
  decide (n = 0) || (decide (n % 2 = 1) && decide (n ≤ 1023))

/-- Whether a header's sections suit its mode and repeat figure (R3, conditions 4 to 6). -/
def Header.sectionsSuitMode (h : Header) : Bool :=
  match h.mode with
  | .hold => decide (h.repeatCells ≠ 0)
  | .count =>
    (decide (h.leadCells ≠ 0) || decide (1 ≤ h.repeatFigure)) &&
      (decide (h.repeatCells ≠ 0) || decide (h.repeatFigure = 0))

/-- Whether a header is valid (R3), its slot number apart. -/
def Header.valid (h : Header) : Bool :=
  frequencyInRange h.frequency && dutyInRange h.duty && decide (h.repeatFigure ≤ 255) &&
    sectionInRange h.leadCells && sectionInRange h.repeatCells &&
    decide (1 ≤ h.total) && decide (h.total ≤ 1024) && h.sectionsSuitMode &&
    decide (1000 ≤ h.trailGap) && decide (h.trailGap ≤ 500000) && toleranceInRange h.tolerance

/-- The code mode a byte names, if any (R3, condition 8). -/
def codeModeOf : Nat → Option CodeMode
  | 0 => some .count
  | 1 => some .hold
  | _ => none

/-- The truth of a yes/no byte, if it is 0 or 1. -/
def yesNoOf : Nat → Option Bool
  | 0 => some false
  | 1 => some true
  | _ => none

/-- The header in a 22-byte code header, if it is valid (chapter 11, Code header; R3). -/
def headerOf (p : List Byte) : Option Header :=
  match codeModeOf (byteAt p 10), yesNoOf (byteAt p 20) with
  | some mode, some matchable =>
    let h : Header :=
      { label := BitVec.ofNat 32 (longAt p 1)
        frequency := longAt p 5
        duty := byteAt p 9
        mode := mode
        repeatFigure := byteAt p 11
        leadCells := wordAt p 12
        repeatCells := wordAt p 14
        trailGap := longAt p 16
        matchable := matchable
        tolerance := byteAt p 21 }
    if h.valid then some h else none
  | _, _ => none

/-- A code header as its 22 bytes (chapter 11, Code header). -/
def headerBytes (slot : SlotNo) (h : Header) : List Byte :=
  u8 slot.val ++ u32 h.label ++ u32 (BitVec.ofNat 32 h.frequency) ++ u8 h.duty ++
    u8 h.mode.code ++ u8 h.repeatFigure ++ u16 h.leadCells ++ u16 h.repeatCells ++
    u32 (BitVec.ofNat 32 h.trailGap) ++ flag h.matchable ++ u8 h.tolerance

/-- The action a byte of DERATE_SET names, if any (R114). -/
def actionOf (n : Nat) : Option Action :=
  if n = 0 then some .holdOff else if n ≤ 7 then some (.drive n) else none

/-- The class a byte of EMIT names, if any (R38). -/
def classOf : Nat → Option JobClass
  | 0 => some .normal
  | 1 => some .urgent
  | _ => none

/-- The mode a byte of INPUT_MODE names, if any (R126). -/
def inputModeOf : Nat → Option InputMode
  | 0 => some .off
  | 1 => some .matching
  | 2 => some .raw
  | _ => none

/-- The verify input a byte of EMIT names: absent for 0xFF, and nothing for 2 to 254 (R38, R39). -/
def verifyInputOf (n : Nat) : Option (Option InputNo) :=
  if n = 0xFF then some none else (inputOf n).map some

/-- The repeat override a byte of EMIT gives: absent for 0xFF (R38). -/
def repeatOverrideOf (n : Nat) : Option Nat :=
  if n = 0xFF then none else some n

/-- The keep interval a field of EMIT gives: absent for 0 (R38). -/
def keepIntervalOf (n : Nat) : Option Nat :=
  if n = 0 then none else some n

end Sys2Proof.Machine
end

