-- ==== Sys2Proof/Machine/Reports.lean ====
section
/-! DEFINITION. The reports of the part: the category, the type and the payload of each (chapter 11,
Reports and Byte layouts). -/

namespace Sys2Proof.Machine

/-- The report categories (R173). LINK has no bit: it is always selected. -/
inductive Category where
  | link
  | code
  | job
  | zone
  | rx
  | learn
  deriving DecidableEq, Repr

/-- Whether a category is selected in a selection byte (R173). -/
def Category.selectedIn (c : Category) (sel : Byte) : Bool :=
  match c with
  | .link => true
  | .code => sel.getLsbD 0
  | .job => sel.getLsbD 1
  | .zone => sel.getLsbD 2
  | .rx => sel.getLsbD 3
  | .learn => sel.getLsbD 4

/-- The causes of STARTED (R174). -/
inductive StartCause where
  | powerOn
  | pin
  | link
  | full
  deriving DecidableEq, Repr

/-- The byte of a cause of STARTED. -/
def StartCause.code : StartCause → Byte
  | .powerOn => 0#8
  | .pin => 1#8
  | .link => 2#8
  | .full => 3#8

/-- A report, with the fields it carries. -/
inductive Report where
  | started (cause : StartCause) (time : Word32)
  | reportsLost (count : Nat)
  | loadAbandoned (slot : SlotNo) (received : Nat)
  | codeRetired (slot : SlotNo) (label : Word32)
  | jobStart (job : Nat) (slot : SlotNo) (zones : ZoneSet) (time : Word32)
  | jobEnd (job : Job) (label : Word32)
  | zoneDerate (zone : ZoneNo) (group : Option GroupNo) (load : Nat) (time : Word32)
  | rxCode (frame : CapturedFrame) (slot : SlotNo) (label : Word32) (pattern : FrameKind) (score : Nat) (count : Nat)
  | rxUnknown (frame : CapturedFrame)
  | rxRaw (frame : CapturedFrame) (part : Nat) (parts : Nat) (cells : List Nat)
  | rxRunEnd (input : InputNo) (slot : SlotNo) (count : Nat) (time : Word32)
  | captureDrop (input : InputNo) (reason : DropReason) (time : Word32)
  | learnEnd (slot : SlotNo) (input : InputNo) (result : LearnResult) (used lead rep : Nat)
  deriving DecidableEq, Repr

/-- The category of a report (chapter 11, Reports). -/
def Report.category : Report → Category
  | .started _ _ => .link
  | .reportsLost _ => .link
  | .loadAbandoned _ _ => .code
  | .codeRetired _ _ => .code
  | .jobStart _ _ _ _ => .job
  | .jobEnd _ _ => .job
  | .zoneDerate _ _ _ _ => .zone
  | .rxCode _ _ _ _ _ _ => .rx
  | .rxUnknown _ => .rx
  | .rxRaw _ _ _ _ => .rx
  | .rxRunEnd _ _ _ _ => .rx
  | .captureDrop _ _ _ => .rx
  | .learnEnd _ _ _ _ _ _ => .learn

/-- The TYPE of a report (chapter 11, Reports). -/
def Report.type : Report → Byte
  | .started _ _ => 0x80#8
  | .reportsLost _ => 0x81#8
  | .loadAbandoned _ _ => 0x90#8
  | .codeRetired _ _ => 0x91#8
  | .jobStart _ _ _ _ => 0xA0#8
  | .jobEnd _ _ => 0xA1#8
  | .zoneDerate _ _ _ _ => 0xB0#8
  | .rxCode _ _ _ _ _ _ => 0xC0#8
  | .rxUnknown _ => 0xC1#8
  | .rxRaw _ _ _ _ => 0xC2#8
  | .rxRunEnd _ _ _ _ => 0xC3#8
  | .captureDrop _ _ _ => 0xC4#8
  | .learnEnd _ _ _ _ _ _ => 0xD0#8

/-- A *gap before* field, absent as 0xFFFFFFFF (R168). -/
def gapBytes : Option Nat → List Byte
  | some g => u32 (BitVec.ofNat 32 g)
  | none => u32 0xFFFFFFFF#32

/-- The *presence* byte of JOB_END: bit 0 *start time*, bit 1 *frames seen* and *frames matched*, bit 2
*first mismatch* (JOB_END layout). -/
def jobEndPresence (j : Job) : Nat :=
  (if j.startTime.isSome then 1 else 0) + (if j.verifyInput.isSome then 2 else 0) +
    (if j.verify.mismatch.isSome then 4 else 0)

/-- The 34 bytes of JOB_END (R107, JOB_END layout). -/
def jobEndBytes (j : Job) (label : Word32) : List Byte :=
  u8 j.id ++ u8 j.slot.val ++ u32 label ++ [j.zones] ++ u8 ((j.endReason.map EndReason.code).getD 0xFF) ++
    u16 j.framesSent ++ u16 j.repeatsSent ++ u8 (jobEndPresence j) ++ u32 (j.startTime.getD 0#32) ++
    u32 (j.endTime.getD 0#32) ++ u8 j.verify.result.code ++
    (if j.verifyInput.isSome then u16 j.verify.seen ++ u16 j.verify.matched else u16 0 ++ u16 0) ++
    (match j.verify.mismatch with
      | some m => u16 m.frameIndex ++ u16 m.place.code ++ u16 m.expected ++ u16 m.measured
      | none => u16 0 ++ u16 0 ++ u16 0 ++ u16 0)

/-- The payload of a report (chapter 11, Reports and Byte layouts). -/
def Report.payload : Report → List Byte
  | .started cause time => cause.code :: u32 time
  | .reportsLost n => u16 n
  | .loadAbandoned slot n => u8 slot.val ++ u16 n
  | .codeRetired slot label => u8 slot.val ++ u32 label
  | .jobStart job slot zones time => u8 job ++ u8 slot.val ++ [zones] ++ u32 time
  | .jobEnd job label => jobEndBytes job label
  | .zoneDerate zone group load time => u8 zone.val ++ optional8 (group.map Fin.val) ++ u16 load ++ u32 time
  | .rxCode f slot label pattern score count =>
    u8 f.input.val ++ u16 f.number ++ u8 slot.val ++ u32 label ++ u8 pattern.code ++ u16 score ++ u16 count ++
      u32 f.startTime
  | .rxUnknown f => u8 f.input.val ++ u16 f.number ++ u16 f.cells.length ++ u8 f.flags.code ++ u32 f.startTime
  | .rxRaw f part parts cells =>
    u8 f.input.val ++ u16 f.number ++ u8 part ++ u8 parts ++ u32 f.startTime ++ gapBytes f.gapBefore ++
      u8 f.flags.code ++ u16 f.cells.length ++ cellBytes cells
  | .rxRunEnd input slot count time => u8 input.val ++ u8 slot.val ++ u16 count ++ u32 time
  | .captureDrop input reason time => u8 input.val ++ u8 reason.code ++ u32 time
  | .learnEnd slot input result used lead rep =>
    u8 slot.val ++ u8 input.val ++ u8 result.code ++ u8 used ++ u16 lead ++ u16 rep

end Sys2Proof.Machine
end

