-- ==== Sys2Proof/Machine/Ops.lean ====
section
/-! DEFINITION. The named operations that the commands share: the time base and timers, reading and
writing one slot, zone, input or job, report production, and frames handed to the outbound arbiter. -/

namespace Sys2Proof.Machine

/-! ### Writing one part of the state -/

/-- The state with another code table. -/
def State.setTable (s : State) (t : CodeTable) : State := { s with table := t }

/-- The state with another job queue. -/
def State.setJobs (s : State) (js : List Job) : State := { s with jobs := js }

/-- The state with another next-id counter. -/
def State.setNextId (s : State) (n : Nat) : State := { s with nextId := n }

/-- The state with other zone records. -/
def State.setZones (s : State) (zs : Vector Zone 8) : State := { s with zones := zs }

/-- The state with other carrier generators. -/
def State.setGenerators (s : State) (gs : Vector (Option Carrier) 4) : State := { s with generators := gs }

/-- The state with other derate groups. -/
def State.setGroups (s : State) (gs : Vector Group 4) : State := { s with groups := gs }

/-- The state with other receive inputs. -/
def State.setInputs (s : State) (is : Vector RxInput 2) : State := { s with inputs := is }

/-- The state with another capture queue. -/
def State.setCaptures (s : State) (cs : List CapturedFrame) : State := { s with captures := cs }

/-- The state with another host line. -/
def State.setLine (s : State) (l : HostLine) : State := { s with line := l }

/-- The state with other parameters. -/
def State.setParams (s : State) (ps : Params) : State := { s with params := ps }

/-! ### Time -/

/-- The time base: whole ms, modulo 2^32 (R175). -/
def State.now (s : State) : Word32 :=
  BitVec.ofNat 32 (s.clock / 1000)

/-- The time base value at a µs instant of the clock. -/
def timeAt (instant : Nat) : Word32 :=
  BitVec.ofNat 32 (instant / 1000)

/-- A timer of some ms started now. -/
def State.timer (s : State) (ms : Nat) : Timer :=
  { start := s.now, length := ms }

/-- The time base value at which a timer is reached. -/
def Timer.expiry (t : Timer) : Word32 :=
  t.start + BitVec.ofNat 32 t.length

/-- Whether a timer is reached: the time elapsed since its start, modulo 2^32, reaches its length (R175). -/
def Timer.reached (t : Timer) (now : Word32) : Bool :=
  decide (t.length ≤ (now - t.start).toNat)

/-- Whether a timer runs and is reached now. -/
def State.due (s : State) (t : Option Timer) : Bool :=
  t.any fun t => t.reached s.now

/-- A count raised by one that stops at 65,535. -/
def bump (n : Nat) : Nat :=
  if n < Config.counterTop then n + 1 else n

/-! ### Vectors -/

/-- Every element of a vector changed by one function. -/
def mapVector {α β : Type} {n : Nat} (v : Vector α n) (f : α → β) : Vector β n :=
  ⟨⟨v.toList.map f⟩, by simp⟩

/-! ### Zones -/

/-- The zones in order. -/
def allZones : List ZoneNo :=
  [0, 1, 2, 3, 4, 5, 6, 7]

/-- The inputs in order. -/
def allInputs : List InputNo :=
  [0, 1]

/-- Whether a zone is in a set. -/
def ZoneSet.has (zs : ZoneSet) (z : ZoneNo) : Bool :=
  BitVec.getLsbD zs z.val

/-- The zones of a set, in order. -/
def zonesOf (zs : ZoneSet) : List ZoneNo :=
  allZones.filter (ZoneSet.has zs)

/-- Whether two sets share a zone. -/
def meets (a b : ZoneSet) : Bool :=
  decide (a &&& b ≠ 0#8)

/-- The set of the zones that satisfy a test. -/
def zoneSetWhere (p : ZoneNo → Bool) : ZoneSet :=
  allZones.foldl (fun acc z => if p z then acc ||| (1#8 <<< z.val) else acc) 0#8

/-- One zone record. -/
def State.zone (s : State) (z : ZoneNo) : Zone :=
  s.zones[z]

/-- The state with one zone record replaced. -/
def State.setZone (s : State) (z : ZoneNo) (x : Zone) : State :=
  s.setZones (s.zones.set z.val x z.isLt)

/-- Whether a zone is in OFF. -/
def Zone.isOff (z : Zone) : Bool :=
  decide (z.state = .off)

/-- Whether a zone is in IDLE. -/
def Zone.isIdle (z : Zone) : Bool :=
  decide (z.state = .idle)

/-- Whether a zone is ACTIVE. -/
def Zone.isActive (z : Zone) : Bool :=
  match z.state with
  | .active _ => true
  | .off | .idle | .guard _ => false

/-- The zones in OFF, as a set (R60, R61). -/
def State.offZones (s : State) : ZoneSet :=
  zoneSetWhere fun z => (s.zone z).isOff

/-! ### Inputs -/

/-- One receive input. -/
def State.input (s : State) (v : InputNo) : RxInput :=
  s.inputs[v]

/-- The state with one receive input replaced. -/
def State.setInput (s : State) (v : InputNo) (r : RxInput) : State :=
  s.setInputs (s.inputs.set v.val r v.isLt)

/-- Whether a capture engine is IN_FRAME. -/
def Engine.isInFrame : Engine → Bool
  | .inFrame _ => true
  | .quiet => false
  | .discarding _ => false

/-- The value of END_GAP_RX0 or END_GAP_RX1 in force, in µs (R127). -/
def State.endGap (s : State) (v : InputNo) : Nat :=
  (if v = 0 then s.params.endGapRx0 else s.params.endGapRx1) * 1000

/-! ### Jobs -/

/-- The live job with an id, if any (R50). -/
def State.job? (s : State) (id : Nat) : Option Job :=
  s.jobs.find? fun j => j.id == id

/-- The state with the record of the job with an id changed. -/
def State.updateJob (s : State) (id : Nat) (f : Job → Job) : State :=
  s.setJobs (s.jobs.map fun j => if j.id = id then f j else j)

/-- The state without the job with an id: the record leaves the queue, and the others keep their order
(R37). -/
def State.removeJob (s : State) (id : Nat) : State :=
  s.setJobs (s.jobs.filter fun j => decide (j.id ≠ id))

/-! ### Slots and the pool -/

/-- One slot of the code table. -/
def State.slot (s : State) (i : SlotNo) : Slot :=
  s.table.slots[i]

/-- The blocks a slot holds: those of its code's cells in LOADING, READY and RETIRING, none otherwise (R1,
R8). -/
def Slot.blocks : Slot → Nat
  | .empty => 0
  | .loading h _ => h.blocks
  | .learning => 0
  | .ready c => c.header.blocks
  | .retiring c => c.header.blocks

/-- A slot written: the blocks it held return to the pool and the blocks it now holds are taken (R8). The
only operation that writes a slot. -/
def State.putSlot (s : State) (i : SlotNo) (new : Slot) : State :=
  s.setTable { s.table with
    slots := s.table.slots.set i.val new i.isLt
    freeBlocks := s.table.freeBlocks + (s.slot i).blocks - new.blocks }

/-- The state with another load context. -/
def State.setLoad (s : State) (c : Option LoadContext) : State :=
  s.setTable { s.table with load := c }

/-- The state with another learn context. -/
def State.setLearn (s : State) (c : Option LearnContext) : State :=
  s.setTable { s.table with learn := c }

/-- The code of a slot, in READY or RETIRING. -/
def Slot.code? : Slot → Option Code
  | .ready c => some c
  | .retiring c => some c
  | .empty => none
  | .loading _ _ => none
  | .learning => none

/-- The code that a job on a slot plays (R44). -/
def State.code? (s : State) (i : SlotNo) : Option Code :=
  (s.slot i).code?

/-- The label of a slot's code as it stands (R44, R107). -/
def State.label (s : State) (i : SlotNo) : Word32 :=
  match s.code? i with
  | some c => c.header.label
  | none => 0#32

/-- The cells of a code's section: the lead at indexes 0 to *lead cells* − 1, then the repeat (R7). -/
def Code.section (c : Code) : FrameKind → List Nat
  | .lead => c.cells.take c.header.leadCells
  | .rep => c.cells.drop c.header.leadCells

/-! ### Reports -/

/-- A report joins the queue: it takes the next sequence (R169). -/
def HostLine.join (l : HostLine) (r : Report) : HostLine :=
  { l with
    reports := l.reports ++ [{ sequence := l.nextSequence, type := r.type, payload := r.payload, timesSent := 0, sent := false }]
    nextSequence := (l.nextSequence + 1) % 256 }

/-- Whether a category is selected (R173). -/
def HostLine.selects (l : HostLine) (c : Category) : Bool :=
  c.selectedIn l.categories

/-- A report that is not capture-derived: not created when its category is deselected, joining when an
entry is free, and otherwise lost with a rise of the lost count (R170, R173). -/
def HostLine.produce (l : HostLine) (r : Report) : HostLine :=
  if l.selects r.category then
    if l.reports.length < Config.reportEntries then l.join r else { l with lost := bump l.lost }
  else l

/-- Whether `n` capture-derived reports may join: the free entries are at least `n` plus 8 (R170). -/
def HostLine.hasCaptureRoom (l : HostLine) (n : Nat) : Bool :=
  decide (l.reports.length + n + Config.captureReserve ≤ Config.reportEntries)

/-- Capture-derived reports join in order, one behind another; none is created when RX is deselected
(R141, R173). -/
def HostLine.joinCaptured (l : HostLine) (rs : List Report) : HostLine :=
  if l.selects .rx then rs.foldl HostLine.join l else l

/-- A report that is not capture-derived is produced. -/
def State.produce (s : State) (r : Report) : State :=
  s.setLine (s.line.produce r)

/-- Capture-derived reports are created. -/
def State.joinCaptured (s : State) (rs : List Report) : State :=
  s.setLine (s.line.joinCaptured rs)

/-- Whether capture-derived reports may be created now: RX is deselected, or there is room (R134, R170). -/
def State.mayCreate (s : State) (n : Nat) : Bool :=
  !s.line.selects .rx || s.line.hasCaptureRoom n

/-! ### Frames for HTX -/

/-- A frame that the part sends, laid out: its LEN and CRC computed, its KIND as a byte (R163). -/
def OutFrame.wire (f : OutFrame) : WireFrame :=
  makeFrame f.kind.code f.tag f.type f.payload

/-- The bytes of a frame that the part sends, in the order they leave on HTX, SYNC first (R163). -/
def OutFrame.bytes (f : OutFrame) : List Byte :=
  frameBytes f.wire

/-- The bytes of the frame under way on HTX; an idle line carries none (R163, R167). -/
def HostLine.onHtx (l : HostLine) : List Byte :=
  match l.sending with
  | some f => f.bytes
  | none => []

/-- A REPLY or LINK_ERROR is created: it goes out at once on a free line, and otherwise waits behind those
created before it (R167). -/
def HostLine.send (l : HostLine) (clock : Nat) (f : OutFrame) : HostLine :=
  if l.sending.isNone && l.waiting.isEmpty then { l with sending := some f, sendingSince := clock }
  else { l with waiting := l.waiting ++ [f] }

/-- The link errors that wait for HTX. -/
def HostLine.linkErrorsWaiting (l : HostLine) : Nat :=
  l.waiting.countP fun f => decide (f.kind = .linkError)

/-- A link error is produced; it is not created while 4 are waiting (R167). -/
def State.linkError (s : State) (e : LinkFault) (tag : Byte) : State :=
  if s.line.linkErrorsWaiting < Config.waitingLinkErrors then
    s.setLine (s.line.send s.clock { kind := .linkError, tag := tag, type := e.code, payload := [] })
  else s

end Sys2Proof.Machine
end

