-- ==== Sys2Proof/Machine/Inputs.lean ====
section
/-! DEFINITION. Operations on receive inputs that several blocks share: the run-end check (R145),
discarding an open frame (R126), and taking and giving back an input's mode (R125). -/

namespace Sys2Proof.Machine

/-- The value of REPEAT_WINDOW in force, in µs (R144). -/
def State.window (s : State) : Nat :=
  s.params.repeatWindow * 1000

/-- Whether the capture queue holds a closed entry of an input (R145, condition 2). -/
def State.queuedFrom (s : State) (v : InputNo) : Bool :=
  s.captures.any fun f => decide (f.input = v)

/-- Whether both conditions of a run's end hold (R145). -/
def State.runEnds (s : State) (v : InputNo) (r : Run) : Bool :=
  decide (r.lastMarkEnd + s.window ≤ s.clock) && !(s.input v).engine.isInFrame && !s.queuedFrom v

/-- An input's run context replaced. -/
def State.setRun (s : State) (v : InputNo) (r : Option Run) : State :=
  s.setInput v { s.input v with run := r }

/-- A run's end is decided, now unless it has been before (R145): RX_RUN_END is created and the context emptied when
report room allows, and otherwise the end waits. -/
def State.decideRunEnd (s : State) (v : InputNo) (r : Run) : State :=
  let decided := r.endDecided.getD s.now
  if s.mayCreate 1 then (s.joinCaptured [.rxRunEnd v r.slot r.count decided]).setRun v none
  else s.setRun v (some { r with endDecided := some decided })

/-- A run whose end, decided before, is no longer so (R145). -/
def Run.undecided (r : Run) : Run :=
  { r with endDecided := none }

/-- The run-end check for an input (R145): the end is decided when both conditions are met, and is not when one
fails. -/
def State.checkRunEnd (s : State) (v : InputNo) : State :=
  match (s.input v).run with
  | none => s
  | some r => if s.runEnds v r then s.decideRunEnd v r else s.setRun v (some r.undecided)

/-- The run-end check made again for an input whose decided run end waits for space (R145). -/
def State.recheckRunEnd (s : State) (v : InputNo) : State :=
  match (s.input v).run with
  | some r => if r.endDecided.isSome then s.checkRunEnd v else s
  | none => s

/-- Whether entries freed while a frame of the input is open still create the RX_RUN_END of a decided end (R147, last row;
the free value of log entry 28). -/
def State.endStands (s : State) (v : InputNo) : Bool :=
  (s.input v).engine.isInFrame && s.line.selects .rx && Config.runEndStands

/-- Report entries are freed for an input whose decided run end waits for space: the check is made again (R145, R170), or a
decision that stands is carried out without it (R147, last row). -/
def State.retryRunEnd (s : State) (v : InputNo) : State :=
  match (s.input v).run with
  | some r => if r.endDecided.isSome && s.endStands v then s.decideRunEnd v r else s.recheckRunEnd v
  | none => s

/-- An open frame is discarded (R126): its cells and its entry are freed, the engine enters DISCARDING, no
drop is counted, and the run-end check is made. -/
def State.discardOpen (s : State) (v : InputNo) : State :=
  if (s.input v).engine.isInFrame then
    (s.setInput v { s.input v with engine := .discarding (s.endGap v) }).checkRunEnd v
  else s

/-- An input is taken by the learner or the verifier: its mode is saved (R125). -/
def State.takeInput (s : State) (v : InputNo) (m : InputMode) : State :=
  s.setInput v { s.input v with savedMode := some (s.input v).mode, mode := m }

/-- An input is given back: its mode returns to the saved mode, and an open frame is discarded when that is
OFF (R125, R153, R160). -/
def State.giveBackInput (s : State) (v : InputNo) : State :=
  let back := (s.input v).savedMode.getD (s.input v).mode
  let s' := s.setInput v { s.input v with mode := back, savedMode := none }
  if back = .off then s'.discardOpen v else s'

end Sys2Proof.Machine
end

