-- ==== Sys2Proof/Machine/Load.lean ====
section
/-! DEFINITION. The zone load monitor: the load estimate, the group in force and the drive level (R111 to
R118). -/

namespace Sys2Proof.Machine

/-- Whether a group qualifies for a zone (R116): on its plain threshold, or, when it is the zone's present
group, on the threshold less the hysteresis. -/
def Group.qualifies (g : Group) (z : ZoneNo) (load : Nat) (present : Bool) (hysteresis : Nat) : Bool :=
  g.enabled && ZoneSet.has g.mask z &&
    (decide (g.threshold ≤ load) || (present && decide (g.threshold - hysteresis ≤ load)))

/-- Whether a group is the one in force for a zone. -/
def Zone.isUnder (x : Zone) (g : GroupNo) : Bool :=
  match x.inForce with
  | some (g', _) => decide (g' = g)
  | none => false

/-- The derate groups in order of priority, G0 to G3 (R113). -/
def allGroups : List GroupNo :=
  [0, 1, 2, 3]

/-- The first group, G0 to G3, that qualifies for a zone with a record (R116). -/
def State.chooseGroup (s : State) (z : ZoneNo) (x : Zone) : Option GroupNo :=
  allGroups.find? fun g => (s.groups[g]).qualifies z x.load (x.isUnder g) s.params.derateHysteresis

/-- The drive level under a group in force: `n` under DRIVE `n`, 8 under HOLD_OFF or none (R117). -/
def driveUnder : Option (GroupNo × Action) → Nat
  | some (_, .drive n) => n
  | some (_, .holdOff) => 8
  | none => 8

/-- A zone's group in force evaluated: the choice and its action are recorded, the drive level follows, and
ZONE_DERATE is produced when the group has changed (R116, R117, R118). -/
def State.evaluate (s : State) (z : ZoneNo) : State :=
  let x := s.zone z
  let chosen := s.chooseGroup z x
  let inForce := chosen.map fun g => (g, (s.groups[g]).action)
  let s' := s.setZone z { x with inForce := inForce, drive := driveUnder inForce }
  if chosen = x.inForce.map Prod.fst then s' else s'.produce (.zoneDerate z chosen x.load s.now)

/-- The rise of a mark end of `d` µs at drive `v` (R111). -/
def loadRise (d v : Nat) : Nat :=
  d * v / 800

/-- A mark end of `d` µs at drive `v` on a zone: the load estimate rises, saturating, and the group in force
is evaluated (R111, R80). -/
def State.markEnd (s : State) (z : ZoneNo) (d v : Nat) : State :=
  let x := s.zone z
  (s.setZone z { x with load := min Config.counterTop (x.load + loadRise d v) }).evaluate z

/-- A mark of `d` µs ends on every zone that sampled a drive for it (R80), the lowest zone first (log entry 26). -/
def State.markEnds (s : State) (d : Nat) (sampled : List (ZoneNo × Nat)) : State :=
  sampled.foldl (fun s p => s.markEnd p.1 d p.2) s

/-- Whether a zone has a HOLD_OFF group in force (R85, R117). -/
def Zone.isHeldOff (x : Zone) : Bool :=
  match x.inForce with
  | some (_, .holdOff) => true
  | some (_, .drive _) => false
  | none => false

/-- Whether any zone of a set has a HOLD_OFF group in force (R85). -/
def State.heldOff (s : State) (zs : ZoneSet) : Bool :=
  (zonesOf zs).any fun z => (s.zone z).isHeldOff

end Sys2Proof.Machine
end

