-- ==== Sys2Proof/Machine/Jobs.lean ====
section
/-! DEFINITION. The shared operations on jobs: references and retirement (R9, R11), the end action (R104 to
R106), settling and verdicts (R158, R159), the start of a job (R71), the start arbiter (R70) and the frame
boundary decision (R83). -/

namespace Sys2Proof.Machine

/-! ### References and retirement -/

/-- A RETIRING slot retires: its blocks return to the pool, it becomes EMPTY and CODE_RETIRED is produced
(R11). -/
def State.retire (s : State) (i : SlotNo) (c : Code) : State :=
  (s.putSlot i .empty).produce (.codeRetired i c.header.label)

/-- A job gives up its reference on a slot; a RETIRING slot whose count reaches 0 retires (R9, R11). -/
def State.dropReference (s : State) (i : SlotNo) : State :=
  match s.slot i with
  | .ready c => s.putSlot i (.ready { c with refs := c.refs - 1 })
  | .retiring c =>
    if c.refs ≤ 1 then s.retire i c else s.putSlot i (.retiring { c with refs := c.refs - 1 })
  | .empty => s
  | .loading _ _ => s
  | .learning => s

/-! ### The end action -/

/-- Step 5 of the end action: JOB_END is produced, the reference is given up and the record leaves the queue
(R106). The arbiter's run is made by the happening that ends the job. -/
def State.finishJob (s : State) (id : Nat) : State :=
  match s.job? id with
  | none => s
  | some j => ((s.produce (.jobEnd j (s.label j.slot))).dropReference j.slot).removeJob id

/-- The state of a zone that a job leaves: GUARD with GUARD_TIME in force, or IDLE when that is 0 (R58). -/
def State.guardState (s : State) : ZoneState :=
  if s.params.guardTime = 0 then .idle else .guard (s.timer s.params.guardTime)

/-- Every zone that a job owns leaves its ownership (R104, step 1; R58). -/
def State.leaveZones (s : State) (id : Nat) : State :=
  s.setZones (mapVector s.zones fun x => if x.state = .active id then { x with state := s.guardState } else x)

/-- A generator after one user has left it: FREE when it was the last (R68). -/
def dropUser : Option Carrier → Option Carrier
  | some c => if c.users ≤ 1 then none else some { c with users := c.users - 1 }
  | none => none

/-- A job gives up its carrier generator (R104, step 2; R68). -/
def State.releaseGenerator (s : State) : Option (Fin 4) → State
  | some g => s.setGenerators (s.generators.set g.val (dropUser s.generators[g]) g.isLt)
  | none => s

/-- A job's record after steps 2 and 3 of the end action (R104). -/
def Job.stopped (j : Job) (reason : EndReason) (now : Word32) : Job :=
  { j with
    generator := none, keepTimer := none, holdTimer := none, pauseTimer := none, play := none
    endReason := some reason, endTime := some now }

/-- Whether an end reason allows a verdict (chapter 6, End reasons; R105). -/
def EndReason.allowsVerdict : EndReason → Bool
  | .completed => true
  | .released => true
  | .keepLapsed => true
  | .holdLimit => true
  | .preempted => true
  | .dutyLimit => true
  | .cancelled => false
  | .zoneDisabled => false

/-- The input bound to a job, with its verify record (R105, R156). -/
def State.bound? (s : State) (j : Job) : Option (InputNo × VerifyRecord) :=
  match j.verifyInput with
  | none => none
  | some v =>
    match (s.input v).verify with
    | none => none
    | some r => if r.job = j.id then some (v, r) else none

/-- The verify record of an input is dropped and the input is given back (R159, R160). -/
def State.unbind (s : State) (v : InputNo) : State :=
  (s.setInput v { s.input v with verify := none }).giveBackInput v

/-- A job's verify is abandoned: the counts as they stand are placed in the job record, the record is
dropped and the input is given back (R160). -/
def State.abandonVerify (s : State) (id : Nat) (v : InputNo) (r : VerifyRecord) : State :=
  (s.updateJob id fun j =>
    { j with verify := { result := .abandoned, seen := r.seen, matched := r.matched, mismatch := none } }).unbind v

/-- The verdict on a verify record (R159). -/
def VerifyRecord.verdict (r : VerifyRecord) : VerifyResult :=
  if r.mismatch.isSome then .fail
  else if r.seen = 0 then .noSignal
  else if r.seen < r.emitted then .partly
  else .pass

/-- The verdict is given: it is placed in the job record, the verify record is dropped, the input is given
back and the job takes step 5 of its end action (R159). -/
def State.giveVerdict (s : State) (v : InputNo) (r : VerifyRecord) : State :=
  ((s.updateJob r.job fun j =>
    { j with verify := { result := r.verdict, seen := r.seen, matched := r.matched, mismatch := r.mismatch } }).unbind
      v).finishJob r.job

/-- Whether the capture queue holds a closed entry of an input for the verifier (R158). -/
def State.verifierEntry (s : State) (v : InputNo) : Bool :=
  s.captures.any fun f => decide (f.input = v) && decide (f.consumer = .verifier)

/-- Whether the job bound to an input is SETTLING and its input has drained (R158). -/
def State.settled (s : State) (v : InputNo) (r : VerifyRecord) : Bool :=
  (match s.job? r.job with
    | some j => decide (j.state = .settling)
    | none => false) && !(s.input v).engine.isInFrame && !s.verifierEntry v

/-- The settling check for an input: the verdict is given once both conditions hold (R158). -/
def State.checkSettled (s : State) (v : InputNo) : State :=
  match (s.input v).verify with
  | none => s
  | some r => if s.settled v r then s.giveVerdict v r else s

/-- A job ends with a reason through its end action (R104 to R106): zones and generator are returned, its
timers and sequencer stop, and it enters SETTLING or is reported and removed. -/
def State.endJob (s : State) (id : Nat) (reason : EndReason) : State :=
  match s.job? id with
  | none => s
  | some j =>
    let s' := ((s.leaveZones id).releaseGenerator j.generator).updateJob id fun j => j.stopped reason s.now
    match s.bound? j with
    | some (v, r) =>
      if reason.allowsVerdict then
        (s'.updateJob id fun j => { j with state := .settling, paused := false }).checkSettled v
      else (s'.abandonVerify id v r).finishJob id
    | none => s'.finishJob id

/-! ### Frames -/

/-- The drive level each zone of a set takes at a mark start (R79), in zone order (log entry 26). -/
def State.sampleDrives (s : State) (zs : ZoneSet) : List (ZoneNo × Nat) :=
  (zonesOf zs).map fun z => (z, (s.zone z).drive)

/-- A frame begins on a job: its first mark starts now (R83, stage 4; R75). -/
def State.beginFrame (s : State) (j : Job) (kind : FrameKind) : State :=
  s.updateJob j.id fun j' =>
    { j' with play := some { kind := kind, phase := .inSection 0, since := s.clock, sampled := s.sampleDrives j.zones } }

/-- A frame in progress is cut: the played part of a mark is handed to the load monitor (R87), so that a ZONE_DERATE
of it joins ahead of the job's own reports (R80 leaves its place open: log entry 26). -/
def State.cutFrame (s : State) (j : Job) : State :=
  match j.play with
  | some p => s.markEnds (s.clock - p.since) p.sampled
  | none => s

/-! ### The start arbiter -/

/-- The generators in order, CG0 to CG3 (R66). -/
def allGenerators : List (Fin 4) :=
  [0, 1, 2, 3]

/-- The generator whose frequency and duty equal those of a header, if one is IN_USE (R67, rule 2). -/
def State.matchingGenerator (s : State) (h : Header) : Option (Fin 4) :=
  allGenerators.find? fun g =>
    match s.generators[g] with
    | some c => decide (c.frequency = h.frequency) && decide (c.duty = h.duty)
    | none => false

/-- The lowest-numbered FREE generator (R67, rule 3). -/
def State.freeGenerator (s : State) : Option (Fin 4) :=
  allGenerators.find? fun g => (s.generators[g]).isNone

/-- The carrier a code obtains (R67): `none` when it cannot obtain one, and `some none` when it needs none. -/
def State.obtainCarrier (s : State) (h : Header) : Option (Option (Fin 4)) :=
  if h.frequency = 0 then some none
  else
    match s.matchingGenerator h with
    | some g => some (some g)
    | none => s.freeGenerator.map some

/-- A generator after one user more has come to it for a header's carrier (R67). -/
def addUser (h : Header) : Option Carrier → Option Carrier
  | some c => some { c with users := c.users + 1 }
  | none => some { frequency := h.frequency, duty := h.duty, users := 1 }

/-- A generator is assigned for a header's carrier (R71, step 2). -/
def State.takeGenerator (s : State) (h : Header) : Option (Fin 4) → State
  | some g => s.setGenerators (s.generators.set g.val (addUser h s.generators[g]) g.isLt)
  | none => s

/-- The verifier binds a job's input before the first mark (R71, step 6; R156). -/
def State.bindVerify (s : State) (j : Job) : State :=
  match j.verifyInput with
  | none => s
  | some v =>
    let s' := s.takeInput v .verify
    s'.setInput v { s'.input v with
      verify := some
        { job := j.id, firstFrame := (s'.input v).frameNext, emitted := 0, seen := 0, matched := 0, mismatch := none } }

/-- A job's record after steps 2 to 5 of its start (R71): RUNNING with its hold limit timer, or DRAINING when
it was released while it waited. -/
def Job.started (j : Job) (g : Option (Fin 4)) (now : Word32) (holdLimitMs : Nat) : Job :=
  if j.released then
    { j with generator := g, state := .draining, endReason := some .released, startTime := some now }
  else
    { j with
      generator := g, state := .running, startTime := some now
      holdTimer := if j.hold then some { start := now, length := holdLimitMs } else none }

/-- The first frame of a job plays the lead section when it is non-empty (R75). -/
def Header.firstKind (h : Header) : FrameKind :=
  if h.leadCells = 0 then .rep else .lead

/-- Every zone of a set becomes ACTIVE with a job as owner (R71, step 1). -/
def State.ownZones (s : State) (id : Nat) (zs : ZoneSet) : State :=
  (zonesOf zs).foldl (fun s z => s.setZone z { s.zone z with state := .active id }) s

/-- A job starts with the carrier it obtained (R71). -/
def State.startJob (s : State) (j : Job) (h : Header) (g : Option (Fin 4)) : State :=
  let s1 := (s.ownZones j.id j.zones).takeGenerator h g
  let s2 := s1.updateJob j.id fun j' => j'.started g s.now (s.params.holdLimit * 1000)
  let s3 := (s2.bindVerify j).produce (.jobStart j.id j.slot j.zones s.now)
  s3.beginFrame j h.firstKind

/-- Whether every zone of a set is IDLE (R70, condition 1). -/
def State.zonesIdle (s : State) (zs : ZoneSet) : Bool :=
  (zonesOf zs).all fun z => (s.zone z).isIdle

/-- What a WAITING job needs to start under a blocked set (R70): its header and the carrier it obtains, when
all three conditions hold. -/
def State.startable (s : State) (blocked : ZoneSet) (j : Job) : Option (Header × Option (Fin 4)) :=
  if s.zonesIdle j.zones && !meets j.zones blocked then
    match s.code? j.slot with
    | some c => (s.obtainCarrier c.header).map fun g => (c.header, g)
    | none => none
  else none

/-- The arbiter's scan of jobs in queue order with a blocked set (R70). -/
def arbiterScan : List Job → ZoneSet → State → State
  | [], _, s => s
  | j :: js, blocked, s =>
    if j.state = .waiting then
      match s.startable blocked j with
      | some (h, g) => arbiterScan js blocked (s.startJob j h g)
      | none => arbiterScan js (blocked ||| j.zones) s
    else arbiterScan js blocked s

/-- A run of the start arbiter (R69, R70). -/
def State.runArbiter (s : State) : State :=
  arbiterScan s.jobs 0#8 s

/-- The first job that a run of the arbiter would start, with its header and carrier (R70). -/
def State.firstStart (s : State) : List Job → ZoneSet → Option (Job × Header × Option (Fin 4))
  | [], _ => none
  | j :: js, blocked =>
    if j.state = .waiting then
      match s.startable blocked j with
      | some (h, g) => some (j, h, g)
      | none => s.firstStart js (blocked ||| j.zones)
    else s.firstStart js blocked

/-! ### The frame boundary decision -/

/-- The repeat frames due on a COUNT job: its override or its code's repeat figure, and none when the repeat
section is empty (R76). -/
def Job.repeatsDue (j : Job) (h : Header) : Nat :=
  if h.repeatCells = 0 then 0 else j.repeatOverride.getD h.repeatFigure

/-- Whether another frame is due at a boundary (R84). -/
def Job.frameDue (j : Job) (h : Header) : Bool :=
  match h.mode with
  | .count => decide (j.repeatsSent < j.repeatsDue h)
  | .hold => if j.state = .draining then decide (j.repeatsSent < h.repeatFigure) else true

/-- The reason a job ends with at stage 2 (R83, R84). -/
def Job.finalReason (j : Job) (h : Header) : EndReason :=
  match h.mode with
  | .count => .completed
  | .hold => j.endReason.getD .completed

/-- A job is paused at a boundary and its pause timer starts (R85, R120). -/
def State.pauseJob (s : State) (id : Nat) : State :=
  s.updateJob id fun j =>
    { j with
      paused := true
      pauseTimer := some (s.timer s.params.pauseLimit)
      play := j.play.map fun p => { p with phase := .atBoundary, sampled := [] } }

/-- The stages of the frame boundary (R83), the arbiter running after an end (R69). -/
def State.decideBoundary (s : State) (j : Job) (h : Header) : State :=
  if j.preemptPending then (s.endJob j.id .preempted).runArbiter
  else if !j.frameDue h then (s.endJob j.id (j.finalReason h)).runArbiter
  else if s.heldOff j.zones then s.pauseJob j.id
  else s.beginFrame j .rep

/-- Whether a paused job's zones no longer have a HOLD_OFF group in force (R121). -/
def State.mayClear (s : State) (j : Job) : Bool :=
  j.paused && !s.heldOff j.zones

/-- A pause clears: the pause timer stops and the boundary decision is taken again (R121, R85). -/
def State.clearPause (s : State) (j : Job) (h : Header) : State :=
  (s.updateJob j.id fun j => { j with paused := false, pauseTimer := none }).decideBoundary
    { j with paused := false, pauseTimer := none } h

end Sys2Proof.Machine
end

