-- ==== Sys2Proof/Machine/Recognize.lean ====
section
/-! DEFINITION. The recognizer and the raw forwarder: the tolerance test (R138), candidates and scores (R139,
R140), runs (R144) and the reports of a captured frame (R135, R141 to R143). -/

namespace Sys2Proof.Machine

/-- The distance of two durations. -/
def distance (a b : Nat) : Nat :=
  (a - b) + (b - a)

/-- The tolerance test: |m − s| ≤ s × t / 100 + 40 µs, exactly (Conventions; R138). -/
def withinTolerance (t m s : Nat) : Bool :=
  decide (distance m s * 100 ≤ s * t + 4000)

/-- Whether captured cells match a stored pattern at `t` percent: the same number of cells, each within
tolerance of the cell at its position (R138). -/
def matchesPattern (t : Nat) (cells pattern : List Nat) : Bool :=
  decide (cells.length = pattern.length) && (cells.zip pattern).all fun p => withinTolerance t p.1 p.2

/-- The score of captured cells against a pattern they match, in per-mille, rounded down (R140). -/
def scoreOf (cells pattern : List Nat) : Nat :=
  ((cells.zip pattern).map fun p => distance p.1 p.2).sum * 1000 / pattern.sum

/-- A section of a stored code against which the recognizer compares a frame (R139). -/
structure Candidate where
  slot : SlotNo
  kind : FrameKind
  cells : List Nat
  tolerance : Nat
  deriving DecidableEq, Repr

/-- The slots in order. -/
def allSlots : List SlotNo :=
  List.finRange 128

/-- The candidates of one slot, lead before repeat: the non-empty sections of a READY, matchable code (R6,
R139). -/
def State.candidatesOf (s : State) (i : SlotNo) : List Candidate :=
  match s.slot i with
  | .ready c =>
    if c.header.matchable then
      let t := if c.header.tolerance = 0 then s.params.matchTolerance else c.header.tolerance
      ([FrameKind.lead, FrameKind.rep].filter fun k => !(c.section k).isEmpty).map fun k =>
        { slot := i, kind := k, cells := c.section k, tolerance := t }
    else []
  | .empty => []
  | .loading _ _ => []
  | .learning => []
  | .retiring _ => []

/-- The candidates of the whole table, lower slots first (R139). -/
def State.candidates (s : State) : List Candidate :=
  allSlots.flatMap s.candidatesOf

/-- The better of the best match so far and a candidate: a later candidate wins only with a lower score
(R140). -/
def betterMatch (cells : List Nat) (best : Option (Candidate × Nat)) (c : Candidate) : Option (Candidate × Nat) :=
  if matchesPattern c.tolerance cells c.cells then
    match best with
    | none => some (c, scoreOf cells c.cells)
    | some (b, n) => if scoreOf cells c.cells < n then some (c, scoreOf cells c.cells) else some (b, n)
  else best

/-- The best candidate a frame matches, with its score; a flagged frame matches none (R139, R140). -/
def State.bestMatch (s : State) (f : CapturedFrame) : Option (Candidate × Nat) :=
  if f.flags.any then none else s.candidates.foldl (betterMatch f.cells) none

/-- The parts a frame of `c` cells makes (R135). -/
def partCount (c : Nat) : Nat :=
  (c + (Config.segmentCells - 1)) / Config.segmentCells

/-- The RX_RAW parts of a frame, in order (R135). -/
def rawParts (f : CapturedFrame) : List Report :=
  (List.range (partCount f.cells.length)).map fun i =>
    .rxRaw f i (partCount f.cells.length) ((f.cells.drop (Config.segmentCells * i)).take Config.segmentCells)

/-- Whether a match of a slot by a frame continues a run: the same slot, within the window (R144). -/
def State.continues (s : State) (r : Run) (slot : SlotNo) (f : CapturedFrame) : Bool :=
  decide (r.slot = slot) && f.gapBefore.any fun g => decide (g ≤ s.window)

/-- The run context after a match of a slot by a frame (R144). -/
def State.runAfter (s : State) (slot : SlotNo) (f : CapturedFrame) : Run :=
  let count :=
    match (s.input f.input).run with
    | some r => if s.continues r slot f then bump r.count else 1
    | none => 1
  { slot := slot, count := count, lastMarkEnd := f.endInstant, windowPassed := false, endDecided := none }

/-- The RX_RUN_END of a run that a match of a slot by a frame ends (R144). -/
def State.endedByMatch (s : State) (slot : SlotNo) (f : CapturedFrame) : List Report :=
  match (s.input f.input).run with
  | some r => if s.continues r slot f then [] else [.rxRunEnd f.input r.slot r.count s.now]
  | none => []

/-- The reports of an unknown frame: RX_UNKNOWN, or its cells when UNKNOWN_FORWARD is 1 (R143). -/
def State.unknownReports (s : State) (f : CapturedFrame) : List Report :=
  if s.params.unknownForward = 1 then rawParts f else [.rxUnknown f]

/-- The recognizer acts on a frame, or leaves it in place for want of report room (R141). -/
def State.recognize (s : State) (f : CapturedFrame) : Option State :=
  match s.bestMatch f with
  | some (c, score) =>
    let run := s.runAfter c.slot f
    let reports := s.endedByMatch c.slot f ++ [.rxCode f c.slot (s.label c.slot) c.kind score run.count]
    if s.mayCreate reports.length then some ((s.setRun f.input (some run)).joinCaptured reports) else none
  | none =>
    let reports := s.unknownReports f
    if s.mayCreate reports.length then some (s.joinCaptured reports) else none

/-- The raw forwarder acts on a frame, or leaves it in place for want of report room (R135). -/
def State.forwardRaw (s : State) (f : CapturedFrame) : Option State :=
  if s.mayCreate (partCount f.cells.length) then some (s.joinCaptured (rawParts f)) else none

end Sys2Proof.Machine
end

