-- ==== Sys2Proof/Machine/Learn.lean ====
section
/-! DEFINITION. The learner: taking a frame (R150, R151), building the code (R152) and ending a learn
(R153). -/

namespace Sys2Proof.Machine

/-- Whether a frame number is not earlier than a first frame, modulo 65,536 (R150). -/
def notEarlier (first n : Nat) : Bool :=
  decide ((n + 65536 - first) % 65536 < 32768)

/-- A pattern of one frame (R151, step 2). -/
def Pattern.ofCells (cells : List Nat) : Pattern where
  sums := cells
  frames := 1

/-- A frame added to a pattern (R151, step 3). -/
def Pattern.add (p : Pattern) (cells : List Nat) : Pattern where
  sums := List.zipWith (· + ·) p.sums cells
  frames := p.frames + 1

/-- The average of a pattern: each sum over the number of frames, to the nearest µs with halves rounded up
(R148). -/
def Pattern.average (p : Pattern) : List Nat :=
  p.sums.map fun n => (2 * n + p.frames) / (2 * p.frames)

/-- The frames of a pattern that may be empty. -/
def patternFrames : Option Pattern → Nat
  | some p => p.frames
  | none => 0

/-- *frames taken*: the frames in A and in B (R148). -/
def LearnContext.taken (c : LearnContext) : Nat :=
  patternFrames c.patternA + patternFrames c.patternB

/-- A frame's cells sorted into pattern B, or nothing when they do not fit it (R151, step 4). -/
def LearnContext.sortIntoB (c : LearnContext) (tolerance : Nat) (cells : List Nat) : Option LearnContext :=
  match c.patternB with
  | none => some { c with patternB := some (Pattern.ofCells cells), phase := .bSeen }
  | some b =>
    if matchesPattern tolerance cells b.average then some { c with patternB := some (b.add cells) } else none

/-- A frame's cells sorted into a pattern, or nothing when the learn is inconsistent (R151, steps 2 to 4). -/
def LearnContext.sort (c : LearnContext) (tolerance : Nat) (cells : List Nat) : Option LearnContext :=
  match c.patternA with
  | none => some { c with patternA := some (Pattern.ofCells cells) }
  | some a =>
    if matchesPattern tolerance cells a.average then
      match c.phase with
      | .aOnly => some { c with patternA := some (a.add cells) }
      | .bSeen => none
    else c.sortIntoB tolerance cells

/-- The smaller of a minimum gap and a frame's gap (R151, step 5). -/
def smallerGap : Option Nat → Option Nat → Option Nat
  | some m, some g => some (min m g)
  | none, some g => some g
  | m, none => m

/-- The minimum gap after a frame: every frame but the first enters it (R151, step 5). -/
def LearnContext.noteGap (before after : LearnContext) (gap : Option Nat) : LearnContext :=
  if before.taken = 0 then after else { after with minimumGap := smallerGap after.minimumGap gap }

/-- A learn ends (R153): the slot becomes EMPTY unless the code was stored, LEARN_END is produced, the context
is freed and the input is given back. -/
def State.endLearn (s : State) (c : LearnContext) (result : LearnResult) (lead rep : Nat) : State :=
  let s1 := match s.slot c.slot with
    | .learning => s.putSlot c.slot .empty
    | .empty => s
    | .loading _ _ => s
    | .ready _ => s
    | .retiring _ => s
  ((s1.produce (.learnEnd c.slot c.input result c.taken lead rep)).setLearn none).giveBackInput c.input

/-- The average of a pattern as stored cells: none below 8 µs (R152, R7). -/
def storedCells : Option Pattern → List Nat
  | some p => p.average.map (max 8)
  | none => []

/-- The lead section of the code a learn builds (R152). -/
def LearnContext.leadSection (c : LearnContext) : List Nat :=
  match c.patternB with
  | none => []
  | some _ => storedCells c.patternA

/-- The repeat section of the code a learn builds (R152). -/
def LearnContext.repeatSection (c : LearnContext) : List Nat :=
  match c.patternB with
  | none => storedCells c.patternA
  | some b => storedCells (some b)

/-- The code a learn builds (R152). -/
def LearnContext.code (c : LearnContext) : Code :=
  let cells := c.leadSection ++ c.repeatSection
  { header :=
      { label := 0#32
        frequency := c.frequency
        duty := c.duty
        mode := if c.patternB.isSome then .hold else .count
        repeatFigure := 1
        leadCells := c.leadSection.length
        repeatCells := c.repeatSection.length
        trailGap := max 1000 (min 500000 (c.minimumGap.getD 0))
        matchable := true
        tolerance := 0 }
    cells := cells
    checksum := crcCells crcStart cells
    refs := 0 }

/-- The learner builds its code: stored when the pool has the blocks, and otherwise POOL_FULL (R152). -/
def State.buildLearned (s : State) (c : LearnContext) : State :=
  let code := c.code
  if code.header.blocks ≤ s.table.freeBlocks then
    (match s.slot c.slot with
      | .learning => s.putSlot c.slot (.ready code)
      | .empty => s
      | .loading _ _ => s
      | .ready _ => s
      | .retiring _ => s).endLearn c .stored code.header.leadCells code.header.repeatCells
  else s.endLearn c .poolFull code.header.leadCells code.header.repeatCells

/-- The learner takes a frame (R151). -/
def State.learnFrame (s : State) (c : LearnContext) (f : CapturedFrame) : State :=
  if f.flags.any then s.endLearn c .badFrame 0 0
  else
    match c.sort s.params.matchTolerance f.cells with
    | none => s.endLearn c .inconsistent 0 0
    | some sorted =>
      let c' := c.noteGap sorted f.gapBefore
      if c'.wanted ≤ c'.taken then (s.setLearn (some c')).buildLearned c' else s.setLearn (some c')

/-- The learner takes or declines a frame at the head (R150). -/
def State.offerLearner (s : State) (f : CapturedFrame) : State :=
  match s.table.learn with
  | none => s
  | some c => if f.input = c.input ∧ notEarlier c.firstFrame f.number then s.learnFrame c f else s

end Sys2Proof.Machine
end

