-- ==== Sys2Proof/Machine/Verify.lean ====
section
/-! DEFINITION. The verifier: the notice of an emitted frame (R81, R156) and taking and comparing a captured
frame (R157). -/

namespace Sys2Proof.Machine

/-- A verify record replaced. -/
def State.setVerify (s : State) (v : InputNo) (r : Option VerifyRecord) : State :=
  s.setInput v { s.input v with verify := r }

/-- The verifier is told that a job's section has been emitted (R81, R156). -/
def State.noticeEmitted (s : State) (j : Job) : State :=
  match s.bound? j with
  | some (v, r) => s.setVerify v (some { r with emitted := bump r.emitted })
  | none => s

/-- The section of emitted frame `k`: the lead when `k` is 1 and the code has one, else the repeat (R157). -/
def Code.emittedSection (c : Code) (k : Nat) : List Nat :=
  if k = 1 ∧ c.header.leadCells ≠ 0 then c.section .lead else c.section .rep

/-- The first position at which captured cells lie outside tolerance of stored ones (R157, case 3). -/
def firstOutside (t : Nat) (measured stored : List Nat) : Option Nat :=
  (measured.zip stored).findIdx? fun p => !withinTolerance t p.1 p.2

/-- The comparison of a captured frame with emitted frame `k` of `emitted`: a mismatch record, or none when
it passes (R157). -/
def compareFrame (t k emitted : Nat) (stored measured : List Nat) : Option Mismatch :=
  if emitted < k then
    some { frameIndex := k, place := .extra, expected := 0, measured := measured.length }
  else if measured.length ≠ stored.length then
    some { frameIndex := k, place := .count, expected := stored.length, measured := measured.length }
  else
    (firstOutside t measured stored).map fun i =>
      { frameIndex := k, place := .cell i, expected := stored.getD i 0, measured := measured.getD i 0 }

/-- A verify record after a taken frame and its comparison (R157). -/
def VerifyRecord.after (r : VerifyRecord) (m : Option Mismatch) : VerifyRecord :=
  match m with
  | none => { r with seen := bump r.seen, matched := bump r.matched }
  | some x => { r with seen := bump r.seen, mismatch := some (r.mismatch.getD x) }

/-- The verifier takes a frame and compares it (R157). -/
def State.verifyFrame (s : State) (v : InputNo) (r : VerifyRecord) (c : Code) (f : CapturedFrame) : State :=
  let k := bump r.seen
  s.setVerify v (some (r.after (compareFrame s.params.verifyTolerance k r.emitted (c.emittedSection k) f.cells)))

/-- The verifier takes or declines a frame at the head (R157). -/
def State.offerVerifier (s : State) (f : CapturedFrame) : State :=
  match (s.input f.input).verify with
  | none => s
  | some r =>
    if notEarlier r.firstFrame f.number then
      match (s.job? r.job).bind fun j => s.code? j.slot with
      | some c => s.verifyFrame f.input r c f
      | none => s
    else s

end Sys2Proof.Machine
end

