-- ==== Sys2Proof/Machine/Dispatching.lean ====
section
/-! DEFINITION. The capture queue's head: dispatch to its consumer (R134), and what freed report entries let
go on (R170). -/

namespace Sys2Proof.Machine

/-- A frame's entry leaves the capture queue: the run-end check is made for its input (R141, R145), and then, by log
entry 27, the settling check after a frame of the verifier (R158). -/
def State.leaveQueue (s : State) (f : CapturedFrame) : State :=
  let s' := (s.setCaptures s.captures.tail).checkRunEnd f.input
  match f.consumer with
  | .verifier => s'.checkSettled f.input
  | .recognizer => s'
  | .rawForwarder => s'
  | .learner => s'

/-- What a frame's consumer does with it, or nothing when the frame must wait for report room (R134). -/
def State.consume (s : State) (f : CapturedFrame) : Option State :=
  match f.consumer with
  | .recognizer => s.recognize f
  | .rawForwarder => s.forwardRaw f
  | .learner => some (s.offerLearner f)
  | .verifier => some (s.offerVerifier f)

/-- The head of the capture queue is tried: it is consumed and leaves, or it waits (R134). -/
def State.tryHead (s : State) : Option State :=
  match s.captures with
  | [] => none
  | f :: _ => (s.consume f).map fun s' => s'.leaveQueue f

/-- The head is tried, and each entry that becomes the head after it, at most `n` times (R134). -/
def tryHeads : Nat → State → State
  | 0, s => s
  | n + 1, s =>
    match s.tryHead with
    | some s' => tryHeads n s'
    | none => s

/-- The arbiter runs after a happening in which a job was removed (R69, R106). -/
def State.arbiterAfter (s before : State) : State :=
  if s.jobs.length < before.jobs.length then s.runArbiter else s

/-- Dispatch at the queue's head until an entry waits or the queue is empty (R134). -/
def State.dispatch (s : State) : State :=
  (tryHeads s.captures.length s).arbiterAfter s

/-- Report entries are freed, and the producers held for want of space are tried: the head of the capture queue, then the
decided run end of RX0, then that of RX1 (R170). -/
def State.retryProducers (s : State) : State :=
  ((s.dispatch).retryRunEnd 0).retryRunEnd 1

/-- The producers held for want of report space are tried with no entry freed: the head of the capture queue (R134), then
the checks of the decided run ends (R145). No rule orders the three; this order is DESIGN CHOICE, unsafe (log entry 27). -/
def State.recheckProducers (s : State) : State :=
  ((s.dispatch).recheckRunEnd 0).recheckRunEnd 1

/-- REPORTS_LOST joins ahead of the producers held for space, and the lost count becomes 0 (R170). -/
def HostLine.reportLost (l : HostLine) : HostLine :=
  if 0 < l.lost then { l.join (.reportsLost l.lost) with lost := 0 } else l

/-- Entries of the report queue have been freed by an acknowledgement (R170). -/
def State.entriesFreed (s : State) : State :=
  (s.setLine s.line.reportLost).retryProducers

end Sys2Proof.Machine
end

