-- ==== Sys2Proof/Machine/Capture.lean ====
section
/-! DEFINITION. The glitch filter (R124) and the capture engines (R127 to R133), with the events of the
receive inputs. -/

namespace Sys2Proof.Machine

/-! ### The capture store -/

/-- The cells an engine's open frame holds (R128). -/
def Engine.heldCells : Engine → Nat
  | .inFrame f => f.cells.length
  | .quiet => 0
  | .discarding _ => 0

/-- The queue entries an engine's open frame reserves (R132). -/
def Engine.heldEntries : Engine → Nat
  | .inFrame _ => 1
  | .quiet => 0
  | .discarding _ => 0

/-- The buffer cells in use: of closed entries and of open frames (R132). -/
def State.cellsUsed (s : State) : Nat :=
  (s.captures.map fun f => f.cells.length).sum + (s.input 0).engine.heldCells + (s.input 1).engine.heldCells

/-- The queue entries in use: closed and reserved (R132). -/
def State.entriesUsed (s : State) : Nat :=
  s.captures.length + (s.input 0).engine.heldEntries + (s.input 1).engine.heldEntries

/-- A drop is counted, and CAPTURE_DROP is produced when it opens a drop episode (R133). -/
def State.noteDrop (s : State) (v : InputNo) (reason : DropReason) : State :=
  let r := s.input v
  let s' := s.setInput v { r with drops := bump r.drops, episodeOpen := true, engine := .discarding (s.endGap v) }
  if r.episodeOpen then s' else s'.produce (.captureDrop v reason s.now)

/-- An open frame is dropped for want of a buffer cell (R128, R129): CAPTURE_DROP joins first (R133), the run-end and
settling checks follow (R145, R158), and the arbiter after a removal. No rule orders the three; this order is DESIGN
CHOICE, unsafe (log entry 27). -/
def State.dropOpen (s : State) (v : InputNo) : State :=
  (((s.noteDrop v .bufferFull).checkRunEnd v).checkSettled v).arbiterAfter s

/-- The consumer an input's mode fixes at a frame's closing (R129). OFF has none: a move to OFF discards the
open frame (R126). -/
def InputMode.consumer? : InputMode → Option Consumer
  | .off => none
  | .matching => some .recognizer
  | .raw => some .rawForwarder
  | .learn => some .learner
  | .verify => some .verifier

/-- The record of a frame at its closing (R129). -/
def OpenFrame.close (f : OpenFrame) (v : InputNo) (flags : FrameFlags) (c : Consumer) : CapturedFrame where
  input := v
  number := f.number
  startTime := timeAt f.startInstant
  endInstant := f.startInstant + f.cells.sum
  gapBefore := f.gapBefore
  cells := f.cells
  flags := flags
  consumer := c

/-- An open frame closes into the capture queue (R129): its consumer is fixed, the drop episode closes, the
engine moves on, a run end that waits for report space is no longer decided (R145), and a frame that closes into an empty
queue is tried at once (R134). -/
def State.closeFrame (s : State) (v : InputNo) (f : OpenFrame) (flags : FrameFlags) (after : Engine) : State :=
  let r := s.input v
  match r.mode.consumer? with
  | none => s.setInput v { r with engine := after }
  | some c =>
    let s' := (s.setInput v { r with run := r.run.map Run.undecided, engine := after, episodeOpen := false }).setCaptures
      (s.captures ++ [f.close v flags c])
    if s.captures.isEmpty then s'.dispatch else s'

/-- The length stored for a cell that lasted `d` µs: saturating at 65,535 (R128), and 1 at least, since the cells of a
frame are 1 to 65,535 µs (R129; log entry 29). -/
def storedLength (d : Nat) : Nat :=
  max 1 (min d 65535)

/-- A cell of `d` µs stored in an open frame, with LONG_MARK when it is longer than 65,535 (R128). -/
def OpenFrame.store (f : OpenFrame) (d : Nat) : OpenFrame :=
  { f with cells := f.cells ++ [storedLength d], longMark := f.longMark || decide (65535 < d) }

/-- A cell of an open frame closes after `d` µs (R128): it is stored, the frame is truncated at 511 cells
(R129), or the frame is dropped when no buffer cell is free. -/
def State.storeCell (s : State) (v : InputNo) (f : OpenFrame) (d : Nat) : State :=
  if s.cellsUsed < Config.captureCells then
    let f' := f.store d
    if f'.cells.length < Config.capturedCells then s.setInput v { s.input v with engine := .inFrame f' }
    else
      s.closeFrame v f' { truncated := true, stuck := false, longMark := f'.longMark } (.discarding (s.endGap v))
  else s.dropOpen v

/-- Whether suppression holds off a mark start on an input (R127, case 2). -/
def State.isSuppressed (s : State) (v : InputNo) : Bool :=
  decide ((s.input v).mode ≠ .verify) && (zonesOf (s.input v).mask).any fun z => (s.zone z).isActive

/-- The *gap before* of a frame whose first mark's raw edge is at an instant (R130). -/
def RxInput.gapBefore (r : RxInput) (edge : Nat) : Option Nat :=
  r.lastMarkEnd.map fun e => min (edge - e) 1000000

/-- A run when a frame of its input opens: an end that waits for report space is no longer decided (R145), or stands
until the frame closes (R147, last row), as a free value has it (log entries 21 and 28). -/
def Run.atOpening (r : Run) : Run :=
  if Config.runEndStands then r else r.undecided

/-- A frame opens at a mark's raw edge (R127, case 5; for the run R145, R147). -/
def State.openFrame (s : State) (v : InputNo) (edge : Nat) : State :=
  let r := s.input v
  s.setInput v { r with
    frameNext := (r.frameNext + 1) % 65536
    run := r.run.map Run.atOpening
    engine := .inFrame
      { number := r.frameNext, startInstant := edge, gapBefore := r.gapBefore edge, endGap := s.endGap v, cells := []
        longMark := false } }

/-- An accepted mark start in QUIET (R127): the first case that applies. -/
def State.markStart (s : State) (v : InputNo) (edge : Nat) : State :=
  let r := s.input v
  if r.mode = .off then s
  else if s.isSuppressed v then
    s.setInput v { r with suppressed := bump r.suppressed, engine := .discarding (s.endGap v) }
  else if Config.captureEntries ≤ s.entriesUsed then s.noteDrop v .queueFull
  else if Config.captureCells ≤ s.cellsUsed then s.noteDrop v .bufferFull
  else s.openFrame v edge

/-! ### The glitch filter -/

/-- The other level. -/
def otherLevel : Level → Level
  | .mark => .space
  | .space => .mark

/-- The accepted level of an input changes at a raw edge: a mark end is noted (R124). -/
def RxInput.change (r : RxInput) (edge : Nat) : RxInput :=
  { r with
    accepted := otherLevel r.accepted
    levelSince := edge
    trial := none
    lastMarkEnd := if r.accepted = .mark then some edge else r.lastMarkEnd }

/-- A change is accepted, dated at its raw edge (R124): the engine learns of it (R127, R128, R131). -/
def State.acceptChange (s : State) (v : InputNo) (edge : Nat) : State :=
  let r := s.input v
  let s' := s.setInput v (r.change edge)
  match r.engine with
  | .quiet => if r.accepted = .space then s'.markStart v edge else s'
  | .inFrame f => s'.storeCell v f (edge - r.levelSince)
  | .discarding _ => s'

/-- Whether an input's accepted level is a level that has lasted `d` µs, with no trial pending (R124, R129). -/
def State.lasted (s : State) (v : InputNo) (level : Level) (d : Nat) : Bool :=
  decide ((s.input v).accepted = level) && (s.input v).trial.isNone && decide ((s.input v).levelSince + d ≤ s.clock)

/-- The length of a mark that closes a frame STUCK, in µs (R129). -/
def stuckLimit : Nat :=
  200000

/-- A space reaches the open frame's end gap: the frame closes (R129). -/
def State.closeAtEndGap (s : State) (v : InputNo) : State :=
  match (s.input v).engine with
  | .inFrame f =>
    if s.lasted v .space f.endGap then
      s.closeFrame v f { truncated := false, stuck := false, longMark := f.longMark } .quiet
    else s
  | .quiet => s
  | .discarding _ => s

/-- A mark lasts 200 ms: the frame closes STUCK and LONG_MARK, or is dropped when no buffer cell is free
(R129). -/
def State.closeStuck (s : State) (v : InputNo) : State :=
  match (s.input v).engine with
  | .inFrame f =>
    if s.lasted v .mark stuckLimit then
      if s.cellsUsed < Config.captureCells then
        s.closeFrame v { f with cells := f.cells ++ [65535], longMark := true }
          { truncated := false, stuck := true, longMark := true } (.discarding (s.endGap v))
      else s.dropOpen v
    else s
  | .quiet => s
  | .discarding _ => s

/-- A space lasts the end gap in DISCARDING: the engine returns to QUIET (R131). -/
def State.endDiscard (s : State) (v : InputNo) : State :=
  match (s.input v).engine with
  | .discarding gap => if s.lasted v .space gap then s.setInput v { s.input v with engine := .quiet } else s
  | .quiet => s
  | .inFrame _ => s

/-- A closing that waited for a trial is taken when the trial ends without a change (R124). -/
def State.takeWaitingClosing (s : State) (v : InputNo) : State :=
  match (s.input v).engine with
  | .inFrame _ => if (s.input v).accepted = .space then s.closeAtEndGap v else s.closeStuck v
  | .discarding _ => s.endDiscard v
  | .quiet => s

/-- A trial that has lasted its limit is accepted (R124). -/
def State.acceptDue (s : State) (v : InputNo) : State :=
  match (s.input v).trial with
  | some t => if t.edge + t.limit ≤ s.clock then s.acceptChange v t.edge else s
  | none => s

/-- The raw line of an input has moved to a level: away from the accepted level a trial starts, and back to it
the trial ends without a change (R124). -/
def State.rawEdge (s : State) (v : InputNo) (level : Level) : State :=
  let r := s.input v
  if level = r.accepted then
    (s.setInput v { r with raw := level, trial := none }).takeWaitingClosing v
  else
    (s.setInput v { r with raw := level, trial := some { edge := s.clock, limit := s.params.glitchLimit } }).acceptDue v

/-! ### The events of the receive inputs -/

/-- RX_RAW_EDGE (R124): a trial that has lasted its limit is accepted first; a level the line already has is
no edge. -/
def execRxRawEdge (v : InputNo) (level : Level) (s : State) : Host.Outcome State Fault Refusal :=
  .next (if level = (s.input v).raw then s else (s.acceptDue v).rawEdge v level)

/-- ACCEPTED_CHANGE (R124): the raw level has held for the trial's limit. -/
def execAcceptedChange (v : InputNo) (s : State) : Host.Outcome State Fault Refusal :=
  .next (s.acceptDue v)

/-- END_GAP_CLOSE (R129). -/
def execEndGapClose (v : InputNo) (s : State) : Host.Outcome State Fault Refusal :=
  .next (s.closeAtEndGap v)

/-- STUCK_MARK (R129). -/
def execStuckMark (v : InputNo) (s : State) : Host.Outcome State Fault Refusal :=
  .next (s.closeStuck v)

/-- DISCARD_END (R131). -/
def execDiscardEnd (v : InputNo) (s : State) : Host.Outcome State Fault Refusal :=
  .next (s.endDiscard v)

/-- CAPTURE_DISPATCH (R134): the head is tried, with those that become the head after it. -/
def execCaptureDispatch (s : State) : Host.Outcome State Fault Refusal :=
  .next s.dispatch

/-- REPEAT_WINDOW_ELAPSE (R145): the window of an active run has elapsed, and the run-end check is made. -/
def execRepeatWindowElapse (v : InputNo) (s : State) : Host.Outcome State Fault Refusal :=
  .next
    (match (s.input v).run with
      | some r =>
        if !r.windowPassed && decide (r.lastMarkEnd + s.window ≤ s.clock) then
          (s.setRun v (some { r with windowPassed := true })).checkRunEnd v
        else s
      | none => s)

/-- RX_RUN_END (R145): a decided run end that waits for space goes on, as when entries are freed. -/
def execRxRunEnd (v : InputNo) (s : State) : Host.Outcome State Fault Refusal :=
  .next (s.retryRunEnd v)

/-- VERIFY_VERDICT (R158, R159): a SETTLING job whose input has drained is given its verdict, and the arbiter
runs after its removal. -/
def execVerifyVerdict (v : InputNo) (s : State) : Host.Outcome State Fault Refusal :=
  .next ((s.checkSettled v).arbiterAfter s)

end Sys2Proof.Machine
end

