-- ==== Sys2Proof/Machine/HostLine.lean ====
section
/-! DEFINITION. The host line: the receive framer (R164), the frame check, the report window (R171, R172) and
the outbound arbiter (R167), with their events. -/

namespace Sys2Proof.Machine

/-! ### The rate of the lines -/

/-- The rate of both lines, in bits a second (R162). -/
def lineRate (straps : BitVec 2) : Nat :=
  match straps.toNat with
  | 0 => 19200
  | 1 => 115200
  | 2 => 460800
  | _ => 921600

/-- The whole µs that a byte takes on a line: a start bit, 8 data bits and a stop bit (R162). -/
def byteTime (straps : BitVec 2) : Nat :=
  10000000 / lineRate straps

/-- The µs that `n` bytes take on a line, rounded up (R162). -/
def bytesTime (n : Nat) (straps : BitVec 2) : Nat :=
  (n * 10000000 + (lineRate straps - 1)) / lineRate straps

/-! ### The report window -/

/-- The outstanding reports: those whose *sent flag* is yes (R171). -/
def HostLine.outstanding (l : HostLine) : Nat :=
  l.reports.countP fun e => e.sent

/-- Every outstanding entry gets *sent flag* no (R172). -/
def HostLine.unsend (l : HostLine) : HostLine :=
  { l with reports := l.reports.map fun e => { e with sent := false } }

/-- The entries that an acknowledgement of a sequence leaves: those behind the entry with that sequence, or
nothing when it is no entry that has been sent (R171). -/
def afterAcknowledged (a : Nat) : List ReportEntry → Option (List ReportEntry)
  | [] => none
  | e :: es => if e.sequence = a then (if 1 ≤ e.timesSent then some es else none) else afterAcknowledged a es

/-- The window after an acknowledgement has left some entries (R171): the round count is 0, and the timer
restarts while any entry is outstanding. -/
def HostLine.acknowledged (l : HostLine) (left : List ReportEntry) (timer : Timer) : HostLine :=
  { l with
    reports := left
    rounds := 0
    ackTimer := if left.any fun e => e.sent then some timer else none }

/-- REPORT_ACK with a tag is applied (R171): freed entries are offered to the producers that wait (R170). -/
def State.acknowledge (s : State) (tag : Byte) : State :=
  match afterAcknowledged tag.toNat s.line.reports with
  | some left => (s.setLine (s.line.acknowledged left (s.timer s.params.ackTimeout))).entriesFreed
  | none => s

/-- HELD ends (R172): the round count is 0 and every outstanding entry is unsent again. -/
def HostLine.endHeld (l : HostLine) : HostLine :=
  if l.held then { l.unsend with held := false, rounds := 0, ackTimer := none } else l

/-- The entry that is to go out next, marked sent (R171): the oldest whose *sent flag* is no. -/
def markOldestUnsent : List ReportEntry → List ReportEntry
  | [] => []
  | e :: es =>
    if e.sent then e :: markOldestUnsent es
    else { e with sent := true, timesSent := if e.timesSent < 255 then e.timesSent + 1 else e.timesSent } :: es

/-- The report that may be sent now, if any: the window is not HELD, fewer than 8 are outstanding, and it is the
oldest unsent (R171). -/
def HostLine.nextReport (l : HostLine) : Option ReportEntry :=
  if !l.held && decide (l.outstanding < Config.reportWindow) then l.reports.find? fun e => !e.sent else none

/-- The frame of a report (R163). -/
def ReportEntry.frame (e : ReportEntry) : OutFrame where
  kind := .report
  tag := BitVec.ofNat 8 e.sequence
  type := e.type
  payload := e.payload

/-- A report goes out on a free line (R171); the acknowledgement timer starts when no other is outstanding
(R172). -/
def HostLine.sendReport (l : HostLine) (clock : Nat) (timer : Timer) : HostLine :=
  match l.nextReport with
  | none => l
  | some e =>
    { l with
      sending := some e.frame
      sendingSince := clock
      reports := markOldestUnsent l.reports
      ackTimer := if l.outstanding = 0 then some timer else l.ackTimer }

/-- The outbound arbiter chooses the next frame for a free line (R167): the oldest waiting reply or link error,
and else the next report that the window allows. -/
def HostLine.chooseNext (l : HostLine) (clock : Nat) (timer : Timer) : HostLine :=
  match l.waiting with
  | f :: fs => { l with waiting := fs, sending := some f, sendingSince := clock }
  | [] => l.sendReport clock timer

/-- The acknowledgement timer has expired (R172): a go-back round, or HELD. -/
def HostLine.ackExpired (l : HostLine) (retryLimit : Nat) : HostLine :=
  if l.rounds + 1 < retryLimit then { l.unsend with rounds := l.rounds + 1, ackTimer := none }
  else { l with rounds := l.rounds + 1, ackTimer := none, held := true }

/-! ### Receiving -/

/-- The state with the framer in another state. -/
def State.setFramer (s : State) (f : Framer) : State :=
  s.setLine { s.line with framer := f }

/-- A COMMAND joins the inbound FIFO, or gives OVERRUN (R164, step 3). -/
def State.admitCommand (s : State) (c : CommandFrame) : State :=
  if s.line.fifo.length < Config.fifoFrames then s.setLine { s.line with fifo := s.line.fifo ++ [c] }
  else s.linkError .overrun c.tag

/-- HELD ends on a frame with a good CRC (R164, step 2). -/
def State.endHeld (s : State) : State :=
  s.setLine s.line.endHeld

/-- A complete frame is checked (R164). A REPORT_ACK that ends HELD is applied first (R172). -/
def State.checkFrame (s : State) (len kind tag type : Byte) (payload : List Byte) (crc : Word16) : State :=
  if crc ≠ frameCrc len kind tag type payload then s.linkError .badCrc tag
  else if kind = 0x04#8 then (s.acknowledge tag).endHeld
  else if kind = 0x01#8 then s.endHeld.admitCommand { tag := tag, type := type, payload := payload, crc := crc }
  else s.endHeld.linkError .badKind tag

/-- The bytes of a frame from KIND on are checked as a frame (R164). LEN is at least 3, so KIND, TAG and TYPE are
there. -/
def State.checkBytes (s : State) (len : Byte) (bytes : List Byte) (crc : Word16) : State :=
  match bytes with
  | kind :: tag :: type :: payload => s.checkFrame len kind tag type payload crc
  | [] => s
  | [_] => s
  | [_, _] => s

/-- The framer handles a byte by its state (R164). -/
def State.frameByte (s : State) (b : Byte) : State :=
  match s.line.framer with
  | .hunt => if b = 0xC3#8 then s.setFramer .length else s
  | .length =>
    if 3 ≤ b.toNat ∧ b.toNat ≤ 243 then s.setFramer (.body b [])
    else (s.setFramer .hunt).linkError .badLength 0#8
  | .body len bytes =>
    if bytes.length + 1 < len.toNat then s.setFramer (.body len (bytes ++ [b]))
    else s.setFramer (.crc len (bytes ++ [b]) none)
  | .crc len bytes none => s.setFramer (.crc len bytes (some b))
  | .crc len bytes (some hi) => (s.setFramer .hunt).checkBytes len bytes (hi ++ b)

/-- The longest gap inside a frame, in µs (R164). -/
def byteGap : Nat :=
  10000

/-- Whether more than 10 ms and some µs have passed since the end of the last byte of a partial frame (R164). -/
def State.quietFor (s : State) (more : Nat) : Bool :=
  decide (s.line.framer ≠ .hunt) && decide (s.line.lastByte + byteGap + more < s.clock)

/-- Whether a gap of more than 10 ms lay before a byte that ends now, from the end of the byte before it to its own start
(R164; log entry 10). -/
def State.gapPassed (s : State) : Bool :=
  s.quietFor (byteTime s.line.straps)

/-- The partial frame is discarded after a gap (R164). -/
def State.discardPartial (s : State) : State :=
  (s.setFramer .hunt).linkError .byteTimeout 0#8

/-- A byte is received, its end now (R164): the gap before its start may first discard a partial frame. -/
def State.receiveByte (s : State) (b : Byte) : State :=
  let s' := if s.gapPassed then s.discardPartial else s
  (s'.setLine { s'.line with lastByte := s.clock }).frameByte b

/-! ### The events of the host line -/

/-- HRX_BYTE (R162, R164): a byte whose stop bit is found low is discarded as if it had not been received. -/
def execHrxByte (b : Byte) (stopHigh : Bool) (s : State) : Host.Outcome State Fault Refusal :=
  .next (if stopHigh then s.receiveByte b else s)

/-- MESSAGE_FRAME (R164): the bytes of a frame arrive one behind another. -/
def execMessageFrame (f : WireFrame) (s : State) : Host.Outcome State Fault Refusal :=
  .next ((frameBytes f).foldl State.receiveByte s)

/-- BYTE_TIMEOUT (R164): no byte has begun for more than 10 ms since the end of the last one (log entry 10). -/
def execByteTimeout (s : State) : Host.Outcome State Fault Refusal :=
  .next (if s.quietFor 0 then s.discardPartial else s)

/-- HTX_FRAME_SENT (R167): the frame under way is sent to its end, and the arbiter chooses the next. -/
def execHtxFrameSent (s : State) : Host.Outcome State Fault Refusal :=
  .next
    (match s.line.sending with
      | some _ => s.setLine ({ s.line with sending := none }.chooseNext s.clock (s.timer s.params.ackTimeout))
      | none => s)

/-- REPORT_SEND (R171): the next report goes out when the line is free and nothing else waits. -/
def execReportSend (s : State) : Host.Outcome State Fault Refusal :=
  .next
    (if s.line.sending.isNone && s.line.waiting.isEmpty then
      s.setLine (s.line.sendReport s.clock (s.timer s.params.ackTimeout))
    else s)

/-- ACK_TIMER_EXPIRY (R172). -/
def execAckTimerExpiry (s : State) : Host.Outcome State Fault Refusal :=
  .next (if s.due s.line.ackTimer then s.setLine (s.line.ackExpired s.params.retryLimit) else s)

end Sys2Proof.Machine
end

