-- ==== Sys2Proof/Machine/Interpreter.lean ====
section
/-! DEFINITION. The command interpreter (R166): taking the frame at the head of the FIFO, replay, form, execution
and the replay record. -/

namespace Sys2Proof.Machine

/-- What a command answers: the state after its effect, the reply payload, whether its reply is recorded (R166,
R177), and whether the start arbiter runs after the reply is created (R41, R61, R106). -/
structure Answer where
  state : State
  reply : List Byte
  record : Bool
  arbiter : Bool

/-- A command answered, its reply recorded and no arbiter run called for. -/
def State.answer (s : State) (payload : List Byte) : Answer where
  state := s
  reply := payload
  record := true
  arbiter := false

/-- A command answered, the start arbiter running after its reply (R41, R60, R61, R100). -/
def State.answerThenArbitrate (s : State) (payload : List Byte) : Answer where
  state := s
  reply := payload
  record := true
  arbiter := true

/-- A command refused, or answered, without an effect. -/
def State.refuse (s : State) (st : Status) (fields : List Byte) : Answer :=
  s.answer (reply st fields)

/-- Whether no reply is waiting or being sent, so that the interpreter may take a frame (R166). -/
def HostLine.ready (l : HostLine) : Bool :=
  (l.waiting ++ l.sending.toList).all fun f => decide (f.kind ≠ .reply)

/-- A frame is created for HTX (R167). -/
def State.sendFrame (s : State) (f : OutFrame) : State :=
  s.setLine (s.line.send s.clock f)

/-- The replay record replaced (R166). -/
def State.setReplay (s : State) (r : Option Replay) : State :=
  s.setLine { s.line with replay := r }

/-- Whether the replay record holds a frame's TAG and received CRC (R166, step 1). -/
def Replay.matchesFrame (r : Replay) (c : CommandFrame) : Bool :=
  decide (r.tag = c.tag) && decide (r.crc = c.crc)

/-- The frame of a command's reply: it carries the command's tag and TYPE (R163). -/
def CommandFrame.replyFrame (c : CommandFrame) (payload : List Byte) : OutFrame where
  kind := .reply
  tag := c.tag
  type := c.type
  payload := payload

/-- A command answered (R166, steps 3 and 4): its reply is created and recorded, and then the arbiter runs when
the command calls for it. -/
def State.finish (a : Answer) (c : CommandFrame) : State :=
  let r := c.replyFrame a.reply
  let s1 := a.state.sendFrame r
  let s2 := if a.record then s1.setReplay (some { tag := c.tag, crc := c.crc, reply := r }) else s1
  if a.arbiter then s2.runArbiter else s2

/-- The reply that the replay record holds for a frame, if it matches (R166, step 1). -/
def HostLine.replayFor (l : HostLine) (c : CommandFrame) : Option OutFrame :=
  match l.replay with
  | some r => if r.matchesFrame c then some r.reply else none
  | none => none

/-- A frame that the interpreter has taken (R166): replayed, refused for its form, or executed. -/
def State.interpret (s : State) (c : CommandFrame) (form : List Byte → Bool) (act : List Byte → State → Answer) :
    State :=
  match s.line.replayFor c with
  | some r => s.sendFrame r
  | none => State.finish (if form c.payload then act c.payload s else s.refuse .badMessage []) c

/-- The frame at the head of the FIFO leaves it (R165). -/
def State.popCommand (s : State) : State :=
  s.setLine { s.line with fifo := s.line.fifo.tail }

/-- The scope byte of RESTART, if its payload is one byte. -/
def scopeOf : List Byte → Option Byte
  | [b] => some b
  | [] => none
  | _ :: _ :: _ => none

/-- The row of the table that a frame at the head of the FIFO gives rise to, by its TYPE (R166, R177; chapter 11, Commands). -/
def CommandFrame.row (c : CommandFrame) : Instr :=
  match c.type.toNat with
  | 0x01 => .identify
  | 0x02 => .time
  | 0x03 => .setParam
  | 0x04 => .getParam
  | 0x05 => .reportSelect
  | 0x06 =>
    if scopeOf c.payload = some 1#8 then .restartActivity
    else if scopeOf c.payload = some 2#8 then .restartFull
    else .restartLink
  | 0x10 => .codeOpen
  | 0x11 => .codeData
  | 0x12 => .codeClose
  | 0x13 => .codeErase
  | 0x14 => .codeAmend
  | 0x15 => .codeInfo
  | 0x16 => .codeRead
  | 0x17 => .poolInfo
  | 0x20 => .emit
  | 0x21 => .jobKeep
  | 0x22 => .jobRelease
  | 0x23 => .jobCancel
  | 0x24 => .jobInfo
  | 0x25 => .jobList
  | 0x30 => .zoneEnable
  | 0x31 => .zoneDisable
  | 0x32 => .zoneInfo
  | 0x33 => .derateSet
  | 0x34 => .derateGet
  | 0x40 => .inputMode
  | 0x41 => .inputInfo
  | 0x42 => .learn
  | 0x43 => .learnCancel
  | _ => .badMessage

/-- The interpreter takes the head of the FIFO as the happening of one row, when the frame gives rise to that row and no
reply is waiting or being sent (R166); otherwise nothing happens. -/
def State.takeCommand (s : State) (i : Instr) (form : List Byte → Bool) (act : List Byte → State → Answer) : State :=
  match s.line.fifo with
  | [] => s
  | c :: _ => if s.line.ready && decide (c.row = i) then s.popCommand.interpret c form act else s

/-- A test for payloads of one length (R166, step 2). -/
def hasLength (n : Nat) (p : List Byte) : Bool :=
  decide (p.length = n)

/-- BAD_MESSAGE (R166, step 2): a frame whose TYPE is no command type. -/
def execBadMessage (s : State) : Host.Outcome State Fault Refusal :=
  .next (s.takeCommand .badMessage (fun _ => false) fun _ s => s.refuse .badMessage [])

end Sys2Proof.Machine
end

