-- ==== Sys2Proof/Machine/CodeTable.lean ====
section
/-! DEFINITION. The commands of the code table and the load context (chapters 1 and 2). -/

namespace Sys2Proof.Machine

/-! ### Loading a code -/

/-- The timer a load's accepted command starts (R20, R24, R29). -/
def State.idleTimer (s : State) : Timer :=
  s.timer s.params.loadTimeout

/-- A load is opened (R20). -/
def State.openLoad (s : State) (i : SlotNo) (h : Header) : State :=
  (s.putSlot i (.loading h [])).setLoad
    (some { slot := i, header := h, nextOffset := 0, checksum := crcStart, idle := s.idleTimer })

/-- The effect and reply of CODE_OPEN (R19, R20). -/
def actCodeOpen (p : List Byte) (s : State) : Answer :=
  match slotOf (byteAt p 0) with
  | none => s.refuse .range (u8 (byteAt p 0))
  | some i =>
    if s.slot i ≠ .empty then s.refuse .slotState (u8 i.val ++ u8 (s.slot i).code)
    else
      match s.table.load with
      | some l => s.refuse .busy (u8 i.val ++ u8 l.slot.val)
      | none =>
        match headerOf p with
        | none => s.refuse .range (u8 i.val)
        | some h =>
          if s.table.freeBlocks < h.blocks then
            s.refuse .poolFull (u8 i.val ++ u16 h.blocks ++ u16 s.table.freeBlocks)
          else
            let s' := s.openLoad i h
            s'.answer (reply .ok (u8 i.val ++ u8 h.blocks ++ u16 s'.table.freeBlocks))

/-- CODE_OPEN (R19). -/
def execCodeOpen (s : State) : Host.Outcome State Fault Refusal :=
  .next (s.takeCommand .codeOpen (hasLength 22) actCodeOpen)

/-- The form of CODE_DATA: a count of 1 to 112 cells and a payload of 4 + 2 × count bytes (R22). -/
def formCodeData (p : List Byte) : Bool :=
  decide (1 ≤ byteAt p 3) && decide (byteAt p 3 ≤ Config.segmentCells) && decide (p.length = 4 + 2 * byteAt p 3)

/-- The cells of a LOADING slot extended by a segment (R24). -/
def State.extendSlot (s : State) (i : SlotNo) (cells : List Nat) : State :=
  match s.slot i with
  | .loading h got => s.putSlot i (.loading h (got ++ cells))
  | .empty => s
  | .learning => s
  | .ready _ => s
  | .retiring _ => s

/-- A segment is stored (R24). -/
def State.storeSegment (s : State) (l : LoadContext) (cells : List Nat) : State :=
  (s.extendSlot l.slot cells).setLoad
    (some { l with
      nextOffset := l.nextOffset + cells.length, checksum := crcCells l.checksum cells, idle := s.idleTimer })

/-- The load context that a slot number names, if a load of that slot is open (R23, check 1; R26, check 1). -/
def State.loadOf (s : State) (n : Nat) : Option LoadContext :=
  match s.table.load with
  | some l => if l.slot.val = n then some l else none
  | none => none

/-- The effect and reply of CODE_DATA (R23, R24). -/
def actCodeData (p : List Byte) (s : State) : Answer :=
  match s.loadOf (byteAt p 0) with
  | none => s.refuse .notLoading (u8 (byteAt p 0))
  | some l =>
    let offset := wordAt p 1
    let cells := cellsAt p 4 (byteAt p 3)
    if offset ≠ l.nextOffset then s.refuse .sequence (u8 l.slot.val ++ u16 l.nextOffset)
    else if l.header.total < offset + cells.length then
      s.refuse .range (u8 l.slot.val ++ u16 l.nextOffset ++ u16 0xFFFF)
    else
      match cells.findIdx? fun c => decide (c < 8) with
      | some i => s.refuse .range (u8 l.slot.val ++ u16 l.nextOffset ++ u16 (offset + i))
      | none => (s.storeSegment l cells).answer (reply .ok (u8 l.slot.val ++ u16 (l.nextOffset + cells.length)))

/-- CODE_DATA (R22). -/
def execCodeData (s : State) : Host.Outcome State Fault Refusal :=
  .next (s.takeCommand .codeData formCodeData actCodeData)

/-- A load is abandoned (R27, R30, R32): the LOADING slot becomes EMPTY, its blocks return to the pool and the
context is freed with its timer. -/
def State.abandonLoad (s : State) (i : SlotNo) : State :=
  (match s.slot i with
    | .loading _ _ => s.putSlot i .empty
    | .empty => s
    | .learning => s
    | .ready _ => s
    | .retiring _ => s).setLoad none

/-- A load is completed (R28): the LOADING slot becomes READY and the context is freed with its timer. -/
def State.completeLoad (s : State) (l : LoadContext) : State :=
  (match s.slot l.slot with
    | .loading h cells => s.putSlot l.slot (.ready { header := h, cells := cells, checksum := l.checksum, refs := 0 })
    | .empty => s
    | .learning => s
    | .ready _ => s
    | .retiring _ => s).setLoad none

/-- The effect and reply of CODE_CLOSE (R26, R27, R28). -/
def actCodeClose (p : List Byte) (s : State) : Answer :=
  match s.loadOf (byteAt p 0) with
  | none => s.refuse .notLoading (u8 (byteAt p 0))
  | some l =>
    if l.nextOffset ≠ l.header.total then s.refuse .incomplete (u8 l.slot.val ++ u16 l.nextOffset)
    else if wordAt p 1 ≠ l.checksum.toNat then
      (s.abandonLoad l.slot).answer (reply .checksum (u8 l.slot.val ++ u16 l.checksum.toNat))
    else (s.completeLoad l).answer (reply .ok (u8 l.slot.val ++ u16 l.checksum.toNat))

/-- CODE_CLOSE (R26). -/
def execCodeClose (s : State) : Host.Outcome State Fault Refusal :=
  .next (s.takeCommand .codeClose (hasLength 3) actCodeClose)

/-- LOAD_IDLE_TIMER_EXPIRY (R30): the load is abandoned and LOAD_ABANDONED is produced. -/
def execLoadIdleTimerExpiry (s : State) : Host.Outcome State Fault Refusal :=
  .next
    (match s.table.load with
      | some l =>
        if l.idle.reached s.now then (s.abandonLoad l.slot).produce (.loadAbandoned l.slot l.nextOffset) else s
      | none => s)

/-! ### Erasing and amending -/

/-- Whether an erase of a slot is deferred (R10). -/
def Slot.defersErase : Slot → Bool
  | .empty => false
  | .loading _ _ => false
  | .learning => false
  | .ready c => decide (c.refs ≠ 0)
  | .retiring _ => true

/-- The LEARNING slot's learn ends with CANCELLED (R10, R154). -/
def State.eraseLearning (s : State) (i : SlotNo) : State :=
  match s.table.learn with
  | some c => if c.slot = i then s.endLearn c .cancelled 0 0 else s.putSlot i .empty
  | none => s.putSlot i .empty

/-- The effect of CODE_ERASE by the slot's state (R10). -/
def State.eraseSlot (s : State) (i : SlotNo) : State :=
  match s.slot i with
  | .empty => s
  | .loading _ _ => s.abandonLoad i
  | .learning => s.eraseLearning i
  | .ready c => if c.refs = 0 then s.putSlot i .empty else s.putSlot i (.retiring c)
  | .retiring _ => s

/-- The effect and reply of CODE_ERASE (R10). -/
def actCodeErase (p : List Byte) (s : State) : Answer :=
  match slotOf (byteAt p 0) with
  | none => s.refuse .range []
  | some i =>
    (s.eraseSlot i).answer (reply .ok (u8 i.val ++ u8 (s.slot i).code ++ flag (s.slot i).defersErase))

/-- CODE_ERASE (R10). -/
def execCodeErase (s : State) : Host.Outcome State Fault Refusal :=
  .next (s.takeCommand .codeErase (hasLength 1) actCodeErase)

/-- A code with the three amendable fields replaced (R12). -/
def Code.amend (c : Code) (label : Word32) (matchable : Bool) (tolerance : Nat) : Code :=
  { c with header := { c.header with label := label, matchable := matchable, tolerance := tolerance } }

/-- The effect and reply of CODE_AMEND (R12). -/
def actCodeAmend (p : List Byte) (s : State) : Answer :=
  match slotOf (byteAt p 0) with
  | none => s.refuse .range []
  | some i =>
    match s.slot i with
    | .ready c =>
      match yesNoOf (byteAt p 5) with
      | some m =>
        if toleranceInRange (byteAt p 6) then
          (s.putSlot i (.ready (c.amend (BitVec.ofNat 32 (longAt p 1)) m (byteAt p 6)))).answer (reply .ok (u8 i.val))
        else s.refuse .range []
      | none => s.refuse .range []
    | .empty => s.refuse .slotState []
    | .loading _ _ => s.refuse .slotState []
    | .learning => s.refuse .slotState []
    | .retiring _ => s.refuse .slotState []

/-- CODE_AMEND (R12). -/
def execCodeAmend (s : State) : Host.Outcome State Fault Refusal :=
  .next (s.takeCommand .codeAmend (hasLength 7) actCodeAmend)

/-! ### Inspecting the table -/

/-- The bytes of an absent code header (R168). -/
def noHeader : List Byte :=
  List.replicate 22 0#8

/-- The fields of CODE_INFO after *state*: the presence byte, then every field, absent ones as 0 (R13, R168). -/
def State.slotFields (s : State) (i : SlotNo) : List Byte :=
  match s.slot i with
  | .empty => u8 0 ++ noHeader ++ u8 0 ++ u8 0 ++ u16 0 ++ u16 0 ++ u8 0 ++ u8 0
  | .loading h _ =>
    u8 0b01011 ++ headerBytes i h ++ u8 0 ++ u8 h.blocks ++ u16 0 ++
      u16 ((s.table.load.map LoadContext.nextOffset).getD 0) ++ u8 0 ++ u8 0
  | .learning =>
    u8 0b10000 ++ noHeader ++ u8 0 ++ u8 0 ++ u16 0 ++ u16 0 ++
      u8 ((s.table.learn.map fun c => c.input.val).getD 0) ++ u8 ((s.table.learn.map LearnContext.taken).getD 0)
  | .ready c =>
    u8 0b00111 ++ headerBytes i c.header ++ u8 c.refs ++ u8 c.header.blocks ++ u16 c.checksum.toNat ++ u16 0 ++ u8 0 ++ u8 0
  | .retiring c =>
    u8 0b00111 ++ headerBytes i c.header ++ u8 c.refs ++ u8 c.header.blocks ++ u16 c.checksum.toNat ++ u16 0 ++ u8 0 ++ u8 0

/-- The reply of CODE_INFO (R13). -/
def actCodeInfo (p : List Byte) (s : State) : Answer :=
  match slotOf (byteAt p 0) with
  | none => s.refuse .range []
  | some i => s.answer (reply .ok (u8 i.val ++ u8 (s.slot i).code ++ s.slotFields i))

/-- CODE_INFO (R13). -/
def execCodeInfo (s : State) : Host.Outcome State Fault Refusal :=
  .next (s.takeCommand .codeInfo (hasLength 1) actCodeInfo)

/-- The reply of CODE_READ (R14). -/
def actCodeRead (p : List Byte) (s : State) : Answer :=
  match slotOf (byteAt p 0) with
  | none => s.refuse .range []
  | some i =>
    match s.code? i with
    | none => s.refuse .slotState []
    | some c =>
      let offset := wordAt p 1
      let count := byteAt p 3
      if count < 1 ∨ Config.segmentCells < count then s.refuse .range []
      else if c.header.total < offset + count then s.refuse .range []
      else s.answer (reply .ok (u8 i.val ++ u16 offset ++ u8 count ++ cellBytes ((c.cells.drop offset).take count)))

/-- CODE_READ (R14). -/
def execCodeRead (s : State) : Host.Outcome State Fault Refusal :=
  .next (s.takeCommand .codeRead (hasLength 4) actCodeRead)

/-- Whether a slot is READY. -/
def Slot.isReady : Slot → Bool
  | .ready _ => true
  | .empty => false
  | .loading _ _ => false
  | .learning => false
  | .retiring _ => false

/-- Whether a slot is RETIRING. -/
def Slot.isRetiring : Slot → Bool
  | .retiring _ => true
  | .empty => false
  | .loading _ _ => false
  | .learning => false
  | .ready _ => false

/-- The reply of POOL_INFO (R15). -/
def actPoolInfo (_ : List Byte) (s : State) : Answer :=
  s.answer (reply .ok (u16 s.table.freeBlocks ++ u8 (s.table.slots.toList.countP Slot.isReady) ++
    u8 (s.table.slots.toList.countP Slot.isRetiring) ++ flag s.table.load.isSome ++
    optional8 (s.table.load.map fun l => l.slot.val) ++ flag s.table.learn.isSome ++
    optional8 (s.table.learn.map fun c => c.slot.val)))

/-- POOL_INFO (R15). -/
def execPoolInfo (s : State) : Host.Outcome State Fault Refusal :=
  .next (s.takeCommand .poolInfo (hasLength 0) actPoolInfo)

end Sys2Proof.Machine
end

