-- ==== Sys2Proof/Machine/Frames.lean ====
section
/-! DEFINITION. The events of jobs, zones and frame sequencers: timer expiries (R58, R92, R93, R122), starts
(R71), cell ends (R77 to R81), frame boundaries (R82 to R85), retirement (R11), decay steps (R112) and pause
clearing (R121); and the outputs of the zones (R56, R78). -/

namespace Sys2Proof.Machine

/-! ### Timers of jobs and zones -/

/-- The keep timer of a job expires (R92): a WAITING job ends, and a RUNNING job becomes DRAINING. -/
def State.lapseKeep (s : State) (j : Job) : State :=
  match j.state with
  | .waiting => (s.endJob j.id .keepLapsed).runArbiter
  | .running =>
    s.updateJob j.id fun j =>
      { j with state := .draining, endReason := some .keepLapsed, keepTimer := none, holdTimer := none }
  | .draining => s
  | .settling => s

/-- KEEP_TIMER_EXPIRY (R92). -/
def execKeepTimerExpiry (id : Nat) (s : State) : Host.Outcome State Fault Refusal :=
  .next
    (match s.job? id with
      | some j => if s.due j.keepTimer then s.lapseKeep j else s
      | none => s)

/-- The hold limit of a job is reached (R93): a RUNNING job becomes DRAINING. -/
def State.reachHoldLimit (s : State) (j : Job) : State :=
  match j.state with
  | .running =>
    s.updateJob j.id fun j =>
      { j with state := .draining, endReason := some .holdLimit, keepTimer := none, holdTimer := none }
  | .waiting => s
  | .draining => s
  | .settling => s

/-- HOLD_LIMIT_EXPIRY (R93). -/
def execHoldLimitExpiry (id : Nat) (s : State) : Host.Outcome State Fault Refusal :=
  .next
    (match s.job? id with
      | some j => if s.due j.holdTimer then s.reachHoldLimit j else s
      | none => s)

/-- PAUSE_LIMIT_EXPIRY (R122): the paused job ends with DUTY_LIMIT. -/
def execPauseLimitExpiry (id : Nat) (s : State) : Host.Outcome State Fault Refusal :=
  .next
    (match s.job? id with
      | some j => if j.paused && s.due j.pauseTimer then (s.endJob id .dutyLimit).runArbiter else s
      | none => s)

/-- GUARD_EXPIRY (R58): the zone becomes IDLE and the start arbiter runs. -/
def execGuardExpiry (z : ZoneNo) (s : State) : Host.Outcome State Fault Refusal :=
  .next
    (match (s.zone z).state with
      | .guard t => if t.reached s.now then (s.setZone z { s.zone z with state := .idle }).runArbiter else s
      | .off => s
      | .idle => s
      | .active _ => s)

/-- JOB_START (R71): the job starts when it is the first that a run of the arbiter would start (R70). -/
def execJobStart (id : Nat) (s : State) : Host.Outcome State Fault Refusal :=
  .next
    (match s.firstStart s.jobs 0#8 with
      | some (j, h, g) => if j.id = id then s.startJob j h g else s
      | none => s)

/-! ### Cells and boundaries -/

/-- The last mark of a section has ended: the section is emitted, the verifier is told, and the trail gap
begins (R77, R81). -/
def State.beginTrail (s : State) (j : Job) (p : Play) : State :=
  (s.updateJob j.id fun j => { j with play := some { p with phase := .trail, since := s.clock, sampled := [] } }).noticeEmitted j

/-- The space after a mark begins (R77). -/
def State.beginSpace (s : State) (j : Job) (p : Play) (i : Nat) : State :=
  s.updateJob j.id fun j => { j with play := some { p with phase := .inSection i, since := s.clock, sampled := [] } }

/-- The mark after a space begins, each zone sampling its drive (R77, R79). -/
def State.beginMark (s : State) (j : Job) (p : Play) (i : Nat) : State :=
  s.updateJob j.id fun j' =>
    { j' with play := some { p with phase := .inSection i, since := s.clock, sampled := s.sampleDrives j.zones } }

/-- Cell `i` of `d` µs of the section being played ends (R77): a mark hands its end to the load monitor (R80),
and the next cell or the trail gap begins. -/
def State.endCell (s : State) (j : Job) (p : Play) (i d cells : Nat) : State :=
  if i % 2 = 0 then
    let s' := s.markEnds d p.sampled
    if i + 1 < cells then s'.beginSpace j p (i + 1) else s'.beginTrail j p
  else s.beginMark j p (i + 1)

/-- CELL_END (R77): the cell being played has lasted its stored value. -/
def execCellEnd (id : Nat) (s : State) : Host.Outcome State Fault Refusal :=
  .next
    (match s.job? id with
      | none => s
      | some j =>
        match j.play, s.code? j.slot with
        | some p, some c =>
          match p.phase with
          | .inSection i =>
            match (c.section p.kind)[i]? with
            | some d => if p.since + d ≤ s.clock then s.endCell j p i d (c.section p.kind).length else s
            | none => s
          | .trail => s
          | .atBoundary => s
        | _, _ => s)

/-- A frame is counted at its boundary; both counts stop together at 65,535 (R82). -/
def Job.countFrame (j : Job) (kind : FrameKind) : Job :=
  if j.framesSent < Config.counterTop then
    { j with
      framesSent := j.framesSent + 1
      repeatsSent := match kind with
        | .rep => j.repeatsSent + 1
        | .lead => j.repeatsSent }
  else j

/-- FRAME_BOUNDARY (R82, R83): the trail gap completes, the frame is counted and the stages are taken. -/
def execFrameBoundary (id : Nat) (s : State) : Host.Outcome State Fault Refusal :=
  .next
    (match s.job? id with
      | none => s
      | some j =>
        match j.play, s.code? j.slot with
        | some p, some c =>
          match p.phase with
          | .trail =>
            if p.since + c.header.trailGap ≤ s.clock then
              (s.updateJob id fun j => j.countFrame p.kind).decideBoundary (j.countFrame p.kind) c.header
            else s
          | .inSection _ => s
          | .atBoundary => s
        | _, _ => s)

/-- CODE_RETIRED (R11): a RETIRING slot whose reference count is 0 retires. -/
def execCodeRetired (i : SlotNo) (s : State) : Host.Outcome State Fault Refusal :=
  .next
    (match s.slot i with
      | .retiring c => if c.refs = 0 then s.retire i c else s
      | .empty => s
      | .loading _ _ => s
      | .learning => s
      | .ready _ => s)

/-! ### Decay and pauses -/

/-- The pause clearing check for a job (R121). -/
def State.checkPause (s : State) (id : Nat) : State :=
  match s.job? id with
  | some j =>
    if s.mayClear j then
      match s.code? j.slot with
      | some c => s.clearPause j c.header
      | none => s
    else s
  | none => s

/-- Steps 1 and 2 of a decay step: the estimate falls by LOAD_DECAY and the group in force is evaluated
(R112). -/
def State.decay (s : State) (z : ZoneNo) : State :=
  let x := s.zone z
  (s.setZone z { x with load := x.load - s.params.loadDecay, nextDecay := x.nextDecay + 10000 }).evaluate z

/-- DECAY_STEP (R112): the step, and the pause clearing check when the zone's owner is paused. -/
def execDecayStep (z : ZoneNo) (s : State) : Host.Outcome State Fault Refusal :=
  .next
    (if (s.zone z).nextDecay ≤ s.clock then
      match (s.zone z).state with
      | .active owner => (s.decay z).checkPause owner
      | .off => s.decay z
      | .idle => s.decay z
      | .guard _ => s.decay z
    else s)

/-- PAUSE_CLEAR (R121): a paused job none of whose zones is held off leaves its pause. -/
def execPauseClear (id : Nat) (s : State) : Host.Outcome State Fault Refusal :=
  .next (s.checkPause id)

/-! ### Outputs -/

/-- What a zone output does (R56, R78). -/
inductive Output where
  /-- The output is off. -/
  | dark
  /-- The output is steadily on at a drive level. -/
  | steady (drive : Nat)
  /-- The output carries a generator's wave at a drive level. -/
  | carrier (generator : Fin 4) (drive : Nat)
  deriving DecidableEq, Repr

/-- The output of a zone: its owner's mark at the sampled drive, and dark otherwise (R56, R77, R78). -/
def State.output (s : State) (z : ZoneNo) : Output :=
  match (s.zone z).state with
  | .active owner =>
    match (s.job? owner).bind fun j => (j.play.bind fun p => p.sampled.lookup z).map fun d => (j.generator, d) with
    | some (some g, d) => .carrier g d
    | some (none, d) => .steady d
    | none => .dark
  | .off => .dark
  | .idle => .dark
  | .guard _ => .dark

end Sys2Proof.Machine
end

