-- ==== Sys2Proof/Machine/JobCommands.lean ====
section
/-! DEFINITION. EMIT and the JOB commands (chapters 3 and 6). -/

namespace Sys2Proof.Machine

/-! ### EMIT -/

/-- The request fields of EMIT, as far as its checks have read them (R38). -/
structure EmitRequest where
  slot : SlotNo
  zones : ZoneSet
  cls : JobClass
  hold : Bool
  repeatOverride : Option Nat
  keepInterval : Option Nat
  verifyInput : Option InputNo
  deriving DecidableEq, Repr

/-- Check 2 of EMIT: a request whose zone set, class, hold and verify input have values of theirs (R39). -/
def requestOf (p : List Byte) (i : SlotNo) : Option EmitRequest :=
  match classOf (byteAt p 2), yesNoOf (byteAt p 3), verifyInputOf (byteAt p 7) with
  | some cls, some hold, some v =>
    if p.getD 1 0#8 = 0#8 then none
    else
      some
        { slot := i, zones := p.getD 1 0#8, cls := cls, hold := hold
          repeatOverride := repeatOverrideOf (byteAt p 4)
          keepInterval := keepIntervalOf (wordAt p 5)
          verifyInput := v }
  | _, _, _ => none

/-- Check 4 of EMIT: whether the request's manner of playing suits the code's mode (R39). -/
def EmitRequest.suitsMode (r : EmitRequest) (m : CodeMode) : Bool :=
  match m with
  | .hold => r.hold && r.repeatOverride.isNone
  | .count => !r.hold && r.keepInterval.isNone

/-- Check 5 of EMIT: whether a keep interval, if present, is 50 to 2,000 ms (R39). -/
def EmitRequest.keepInRange (r : EmitRequest) : Bool :=
  r.keepInterval.all fun k => decide (50 ≤ k) && decide (k ≤ 2000)

/-- Whether an input is the *verify input* of a live job (R34, R39, R149). -/
def State.namedByJob (s : State) (v : InputNo) : Bool :=
  s.jobs.any fun j => decide (j.verifyInput = some v)

/-- Whether an input may be named as a verify input: not in LEARN, and named by no live job (R39, check 6). -/
def State.inputFree (s : State) (v : InputNo) : Bool :=
  decide ((s.input v).mode ≠ .learn) && !s.namedByJob v

/-- The next value of the next-id counter: 255 wraps to 1 (R42). -/
def nextIdAfter (n : Nat) : Nat :=
  if n < 255 then n + 1 else 1

/-- The first id, from a counter value on, that no live job holds, trying at most `fuel` values (R42). -/
def freeId : Nat → Nat → List Job → Nat
  | 0, n, _ => n
  | fuel + 1, n, js => if js.any fun j => decide (j.id = n) then freeId fuel (nextIdAfter n) js else n

/-- The id that an admission allocates (R42). At most 15 jobs are live then, so 16 values hold a free one. -/
def State.allocateId (s : State) : Nat :=
  freeId Config.jobPlaces s.nextId s.jobs

/-- Whether a job's class is URGENT. -/
def Job.isUrgent (j : Job) : Bool :=
  decide (j.cls = .urgent)

/-- The queue with a job joined at its class position (R43). -/
def joinQueue (js : List Job) (j : Job) : List Job :=
  if j.isUrgent then js.takeWhile Job.isUrgent ++ j :: js.dropWhile Job.isUrgent else js ++ [j]

/-- The verify fields of a job that has no verdict (R107). -/
def noVerdict : VerifyOutcome where
  result := .none
  seen := 0
  matched := 0
  mismatch := none

/-- The *keep length* of a request (R45). -/
def State.keepLengthOf (s : State) (r : EmitRequest) : Option Nat :=
  if r.hold then some (r.keepInterval.getD s.params.keepInterval) else none

/-- The record of an admitted job (R41, steps 1, 3 and 5). -/
def State.newJob (s : State) (r : EmitRequest) : Job where
  id := s.allocateId
  slot := r.slot
  zones := r.zones
  cls := r.cls
  hold := r.hold
  repeatOverride := r.repeatOverride
  keepInterval := r.keepInterval
  keepLength := s.keepLengthOf r
  verifyInput := r.verifyInput
  state := .waiting
  paused := false
  preemptPending := false
  released := false
  framesSent := 0
  repeatsSent := 0
  generator := none
  admissionTime := s.now
  startTime := none
  endReason := none
  endTime := none
  keepTimer := (s.keepLengthOf r).map s.timer
  holdTimer := none
  pauseTimer := none
  play := none
  verify := noVerdict

/-- A live job takes a reference on its code (R41, step 2; R9). -/
def State.raiseReference (s : State) (i : SlotNo) : State :=
  match s.slot i with
  | .ready c => s.putSlot i (.ready { c with refs := c.refs + 1 })
  | .empty => s
  | .loading _ _ => s
  | .learning => s
  | .retiring _ => s

/-- Whether an URGENT admission on some zones marks a job (R48). -/
def Job.isMarkedBy (j : Job) (zs : ZoneSet) : Bool :=
  !j.isUrgent && (decide (j.state = .running) || decide (j.state = .draining)) && meets j.zones zs

/-- A job is marked for preemption; a paused one ends at once (R48). -/
def State.markJob (s : State) (j : Job) : State :=
  let s' := s.updateJob j.id fun j => { j with preemptPending := true }
  if j.paused then s'.endJob j.id .preempted else s'

/-- Preemption marking at the admission of a job (R41, step 6; R48). -/
def State.markFor (s : State) (j : Job) : State :=
  if j.isUrgent then (s.jobs.filter fun k => k.isMarkedBy j.zones).foldl State.markJob s else s

/-- A job is admitted (R41, steps 1 to 6). -/
def State.admitJob (s : State) (r : EmitRequest) : State :=
  let j := s.newJob r
  (((s.raiseReference r.slot).setJobs (joinQueue s.jobs j)).setNextId (nextIdAfter j.id)).markFor j

/-- Checks 6 and 7 of EMIT and the admission (R39, R40, R41). -/
def State.emitLast (s : State) (r : EmitRequest) (c : Code) : Answer :=
  let admitted : Answer :=
    if s.jobs.length < Config.jobPlaces then
      let s' := s.admitJob r
      s'.answerThenArbitrate (reply .ok (u8 (s.newJob r).id ++ u8 s'.jobs.length))
    else s.refuse .queueFull (u8 r.slot.val ++ u8 s.jobs.length)
  match r.verifyInput with
  | none => admitted
  | some v =>
    if !s.inputFree v then s.refuse .inputBusy (u8 r.slot.val ++ u8 v.val)
    else if c.header.trailGap ≤ s.endGap v then s.refuse .mode (u8 r.slot.val ++ u8 c.header.mode.code)
    else admitted

/-- Checks 2 to 7 of EMIT on a READY slot (R39, R40). -/
def State.emitOn (s : State) (p : List Byte) (i : SlotNo) (c : Code) : Answer :=
  match requestOf p i with
  | none => s.refuse .range (u8 i.val)
  | some r =>
    if meets r.zones s.offZones then s.refuse .zoneDisabled (u8 i.val ++ [r.zones &&& s.offZones])
    else if !r.suitsMode c.header.mode then s.refuse .mode (u8 i.val ++ u8 c.header.mode.code)
    else if !r.keepInRange then s.refuse .range (u8 i.val)
    else s.emitLast r c

/-- The effect and reply of EMIT (R39 to R41). -/
def actEmit (p : List Byte) (s : State) : Answer :=
  match slotOf (byteAt p 0) with
  | none => s.refuse .codeUnavailable (u8 (byteAt p 0) ++ [0xFF#8])
  | some i =>
    match s.slot i with
    | .ready c => s.emitOn p i c
    | .empty => s.refuse .codeUnavailable (u8 i.val ++ u8 (s.slot i).code)
    | .loading _ _ => s.refuse .codeUnavailable (u8 i.val ++ u8 (s.slot i).code)
    | .learning => s.refuse .codeUnavailable (u8 i.val ++ u8 (s.slot i).code)
    | .retiring _ => s.refuse .codeUnavailable (u8 i.val ++ u8 (s.slot i).code)

/-- EMIT (R38). -/
def execEmit (s : State) : Host.Outcome State Fault Refusal :=
  .next (s.takeCommand .emit (hasLength 8) actEmit)

/-! ### Keeping, releasing and cancelling -/

/-- The fields of a TOO_LATE reply (R95, R97). -/
def Job.tooLateFields (j : Job) : List Byte :=
  u8 j.id ++ u8 j.state.code ++ flag j.released ++ optional8 (j.endReason.map EndReason.code)

/-- Whether a hold job's key press has come to its end in the part (R95, R97). -/
def Job.isTooLate (j : Job) : Bool :=
  match j.state with
  | .waiting => j.released
  | .running => false
  | .draining => true
  | .settling => true

/-- The keep timer of a job restarts with its *keep length* (R95). -/
def State.restartKeep (s : State) (id : Nat) : State :=
  s.updateJob id fun j => { j with keepTimer := j.keepLength.map s.timer }

/-- The effect and reply of JOB_KEEP (R95). -/
def actJobKeep (p : List Byte) (s : State) : Answer :=
  match s.job? (byteAt p 0) with
  | none => s.refuse .unknownJob (u8 (byteAt p 0))
  | some j =>
    if !j.hold then s.refuse .mode (u8 j.id)
    else if j.isTooLate then s.refuse .tooLate j.tooLateFields
    else (s.restartKeep j.id).answer (reply .ok (u8 j.id))

/-- JOB_KEEP (R95). -/
def execJobKeep (s : State) : Host.Outcome State Fault Refusal :=
  .next (s.takeCommand .jobKeep (hasLength 1) actJobKeep)

/-- A hold job's record after its release (R97): marked while WAITING, DRAINING when it ran. -/
def Job.release (j : Job) : Job :=
  match j.state with
  | .waiting => { j with released := true, keepTimer := none }
  | .running => { j with state := .draining, endReason := some .released, keepTimer := none, holdTimer := none }
  | .draining => j
  | .settling => j

/-- The effect and reply of JOB_RELEASE (R97). -/
def actJobRelease (p : List Byte) (s : State) : Answer :=
  match s.job? (byteAt p 0) with
  | none => s.refuse .unknownJob (u8 (byteAt p 0))
  | some j =>
    if !j.hold then s.refuse .mode (u8 j.id)
    else if j.isTooLate then s.refuse .tooLate j.tooLateFields
    else (s.updateJob j.id Job.release).answer (reply .ok (u8 j.id ++ u8 j.release.state.code))

/-- JOB_RELEASE (R97). -/
def execJobRelease (s : State) : Host.Outcome State Fault Refusal :=
  .next (s.takeCommand .jobRelease (hasLength 1) actJobRelease)

/-- A SETTLING job is abandoned: its verify is abandoned and it takes step 5 of its end action (R100, R160). -/
def State.abandonSettling (s : State) (j : Job) : State :=
  match s.bound? j with
  | some (v, r) => (s.abandonVerify j.id v r).finishJob j.id
  | none => s.finishJob j.id

/-- A job is cancelled by its state (R100); a ZONE_DERATE of the cut mark joins ahead of its JOB_END (log entry 26). -/
def State.cancelJob (s : State) (j : Job) : State :=
  match j.state with
  | .waiting => s.endJob j.id .cancelled
  | .running => (s.cutFrame j).endJob j.id .cancelled
  | .draining => (s.cutFrame j).endJob j.id .cancelled
  | .settling => s.abandonSettling j

/-- The effect and reply of JOB_CANCEL (R100). -/
def actJobCancel (p : List Byte) (s : State) : Answer :=
  match s.job? (byteAt p 0) with
  | none => s.refuse .unknownJob (u8 (byteAt p 0))
  | some j => (s.cancelJob j).answerThenArbitrate (reply .ok (u8 j.id ++ u8 j.state.code))

/-- JOB_CANCEL (R100). -/
def execJobCancel (s : State) : Host.Outcome State Fault Refusal :=
  .next (s.takeCommand .jobCancel (hasLength 1) actJobCancel)

/-! ### Inquiry -/

/-- The fields of JOB_INFO (R50). -/
def Job.infoBytes (j : Job) (label : Word32) : List Byte :=
  u8 j.id ++ u8 j.slot.val ++ u32 label ++ [j.zones] ++ u8 j.cls.code ++ flag j.hold ++
    optional8 j.repeatOverride ++ optionalKeep j.keepInterval ++ optionalKeep j.keepLength ++
    optional8 (j.verifyInput.map Fin.val) ++ u8 j.state.code ++ flag j.paused ++ flag j.preemptPending ++ flag j.released ++
    u16 j.framesSent ++ u16 j.repeatsSent ++ optional8 (j.generator.map Fin.val) ++ u32 j.admissionTime ++
    flag j.startTime.isSome ++ u32 (j.startTime.getD 0#32) ++ optional8 (j.endReason.map EndReason.code)

/-- The reply of JOB_INFO (R50). -/
def actJobInfo (p : List Byte) (s : State) : Answer :=
  match s.job? (byteAt p 0) with
  | none => s.refuse .unknownJob (u8 (byteAt p 0))
  | some j => s.answer (reply .ok (j.infoBytes (s.label j.slot)))

/-- JOB_INFO (R50). -/
def execJobInfo (s : State) : Host.Outcome State Fault Refusal :=
  .next (s.takeCommand .jobInfo (hasLength 1) actJobInfo)

/-- The reply of JOB_LIST (R51). -/
def actJobList (_ : List Byte) (s : State) : Answer :=
  s.answer (reply .ok (u8 s.jobs.length ++ s.jobs.flatMap fun j => u8 j.id ++ u8 j.state.code))

/-- JOB_LIST (R51). -/
def execJobList (s : State) : Host.Outcome State Fault Refusal :=
  .next (s.takeCommand .jobList (hasLength 0) actJobList)

end Sys2Proof.Machine
end

