-- ==== Sys2Proof/Machine/InputCommands.lean ====
section
/-! DEFINITION. The commands of receive inputs and the learner (chapters 8 and 9), and the learn deadline. -/

namespace Sys2Proof.Machine

/-! ### Input modes -/

/-- The step of an accepted INPUT_MODE (R126): the mode and mask become those given, the run context is cleared
without RX_RUN_END, and a move to OFF discards an open frame. -/
def State.setMode (s : State) (v : InputNo) (m : InputMode) (mask : ZoneSet) : State :=
  let s' := s.setInput v { s.input v with mode := m, mask := mask, run := none }
  if m = .off then s'.discardOpen v else s'

/-- Whether an input is taken by the learner or the verifier (R125). -/
def InputMode.isTaken : InputMode → Bool
  | .learn => true
  | .verify => true
  | .off => false
  | .matching => false
  | .raw => false

/-- The effect and reply of INPUT_MODE (R126). -/
def actInputMode (p : List Byte) (s : State) : Answer :=
  match inputOf (byteAt p 0) with
  | none => s.refuse .range []
  | some v =>
    match inputModeOf (byteAt p 1) with
    | none => s.refuse .range []
    | some m =>
      let prior := (s.input v).mode
      if prior.isTaken then s.refuse .inputBusy (u8 v.val ++ u8 prior.code)
      else
        (s.setMode v m (p.getD 2 0#8)).answer
          (reply .ok (u8 v.val ++ u8 m.code ++ [p.getD 2 0#8] ++ u8 prior.code))

/-- INPUT_MODE (R126). -/
def execInputMode (s : State) : Host.Outcome State Fault Refusal :=
  .next (s.takeCommand .inputMode (hasLength 3) actInputMode)

/-- The *end gap* field of an input, in µs: that of its open frame or discard, or the parameter's value (R136). -/
def Engine.endGapInUse (param : Nat) : Engine → Nat
  | .inFrame f => f.endGap
  | .discarding gap => gap
  | .quiet => param

/-- The reply of INPUT_INFO (R136). -/
def actInputInfo (p : List Byte) (s : State) : Answer :=
  match inputOf (byteAt p 0) with
  | none => s.refuse .range []
  | some v =>
    let r := s.input v
    s.answer (reply .ok (u8 v.val ++ u8 r.mode.code ++ optional8 (r.savedMode.map InputMode.code) ++ [r.mask] ++
      u8 r.engine.code ++ u32 (BitVec.ofNat 32 (r.engine.endGapInUse (s.endGap v))) ++ u16 r.frameNext ++ u16 r.drops ++
      u16 r.suppressed))

/-- INPUT_INFO (R136). -/
def execInputInfo (s : State) : Host.Outcome State Fault Refusal :=
  .next (s.takeCommand .inputInfo (hasLength 1) actInputInfo)

/-! ### Learning -/

/-- Whether an input may be taken by a learn: not in LEARN or VERIFY, and named by no live job (R149, check 3). -/
def State.learnable (s : State) (v : InputNo) : Bool :=
  !(s.input v).mode.isTaken && !s.namedByJob v

/-- Check 4 of LEARN: the carrier and the frames wanted (R149). -/
def learnFieldsInRange (p : List Byte) : Bool :=
  frequencyInRange (longAt p 2) && dutyInRange (byteAt p 6) && decide (2 ≤ byteAt p 7) && decide (byteAt p 7 ≤ 6)

/-- The context of an accepted LEARN (R149). -/
def State.newLearn (s : State) (p : List Byte) (v : InputNo) (i : SlotNo) : LearnContext where
  input := v
  slot := i
  frequency := longAt p 2
  duty := byteAt p 6
  wanted := byteAt p 7
  firstFrame := (s.input v).frameNext
  patternA := none
  patternB := none
  phase := .aOnly
  minimumGap := none
  deadline := s.timer (s.params.learnTimeout * 1000)

/-- A learn starts (R149). -/
def State.startLearn (s : State) (c : LearnContext) : State :=
  ((s.putSlot c.slot .learning).setLearn (some c)).takeInput c.input .learn

/-- Checks 1 to 4 of LEARN and its start (R149). -/
def State.learnOn (s : State) (p : List Byte) (v : InputNo) (i : SlotNo) : Answer :=
  if s.slot i ≠ .empty then s.refuse .slotState (u8 i.val ++ u8 (s.slot i).code)
  else
    match s.table.learn with
    | some c => s.refuse .busy (u8 c.slot.val ++ u8 c.input.val)
    | none =>
      if !s.learnable v then s.refuse .inputBusy (u8 v.val ++ u8 (s.input v).mode.code)
      else if !learnFieldsInRange p then s.refuse .range (u8 i.val)
      else
        let c := s.newLearn p v i
        (s.startLearn c).answer (reply .ok (u8 i.val ++ u8 v.val ++ u32 c.deadline.expiry))

/-- The effect and reply of LEARN (R149). -/
def actLearn (p : List Byte) (s : State) : Answer :=
  match inputOf (byteAt p 0), slotOf (byteAt p 1) with
  | some v, some i => s.learnOn p v i
  | _, _ => s.refuse .range (u8 (byteAt p 1))

/-- LEARN (R149). -/
def execLearn (s : State) : Host.Outcome State Fault Refusal :=
  .next (s.takeCommand .learn (hasLength 8) actLearn)

/-- The effect and reply of LEARN_CANCEL (R154). -/
def actLearnCancel (_ : List Byte) (s : State) : Answer :=
  match s.table.learn with
  | none => s.refuse .slotState []
  | some c => (s.endLearn c .cancelled 0 0).answer (reply .ok (u8 c.slot.val ++ u8 c.input.val))

/-- LEARN_CANCEL (R154). -/
def execLearnCancel (s : State) : Host.Outcome State Fault Refusal :=
  .next (s.takeCommand .learnCancel (hasLength 0) actLearnCancel)

/-- LEARN_DEADLINE (R154): the learn ends with TIMEOUT. -/
def execLearnDeadline (s : State) : Host.Outcome State Fault Refusal :=
  .next
    (match s.table.learn with
      | some c => if c.deadline.reached s.now then s.endLearn c .timeout 0 0 else s
      | none => s)

end Sys2Proof.Machine
end

