-- ==== Sys2Proof/Machine/Restart.lean ====
section
/-! DEFINITION. Power-on, RESET pin release and the three scopes of RESTART (R177, with the resets of the other
chapters). -/

namespace Sys2Proof.Machine

/-! ### Power-on and the RESET pin -/

/-- POWER_ON (R16, R53, R65, R113, R125, R132, R164 to R176): the commands that wait are kept. -/
def execPowerOn (straps : BitVec 2) (rx0 rx1 : Level) (s : State) : Host.Outcome State Fault Refusal :=
  .next (State.powered straps rx0 rx1 StartCause.powerOn.code s.draws s.pending)

/-- RESET_PIN: the part resets as at power-on, and STARTED carries cause PIN (R16, R174). -/
def execResetPin (straps : BitVec 2) (rx0 rx1 : Level) (s : State) : Host.Outcome State Fault Refusal :=
  .next (State.powered straps rx0 rx1 StartCause.pin.code s.draws s.pending)

/-! ### The effects of RESTART ACTIVITY -/

/-- A slot after RESTART ACTIVITY: a READY code is kept with count 0, and every other slot is EMPTY (R17). -/
def Slot.afterRestart : Slot → Slot
  | .ready c => .ready { c with refs := 0 }
  | .empty => .empty
  | .loading _ _ => .empty
  | .learning => .empty
  | .retiring _ => .empty

/-- The blocks that a slot gives back at RESTART ACTIVITY (R17; R8, table). -/
def Slot.blocksReturned (x : Slot) : Nat :=
  x.blocks - x.afterRestart.blocks

/-- The code table after RESTART ACTIVITY (R17). -/
def CodeTable.afterRestart (t : CodeTable) : CodeTable where
  slots := mapVector t.slots Slot.afterRestart
  freeBlocks := t.freeBlocks + (t.slots.toList.map Slot.blocksReturned).sum
  load := none
  learn := none

/-- A zone's state after RESTART ACTIVITY: ACTIVE and GUARD become IDLE, OFF stays OFF (R65). -/
def ZoneState.afterRestart : ZoneState → ZoneState
  | .off => .off
  | .idle => .idle
  | .active _ => .idle
  | .guard _ => .idle

/-- A capture engine emptied: QUIET with its line at space and DISCARDING with it at mark (R132). -/
def emptiedEngine (level : Level) (endGap : Nat) : Engine :=
  match level with
  | .space => .quiet
  | .mark => .discarding endGap

/-- Since when the raw line of an input has stood at its level: the raw edge of a pending trial, or the accepted level's
(log entry 22). -/
def RxInput.rawSince (r : RxInput) : Nat :=
  match r.trial with
  | some t => t.edge
  | none => r.levelSince

/-- An input after RESTART ACTIVITY (R124, R125, R130, R132, R133, R146, R154, R160): its accepted level is the raw level,
with no trial and no last mark end; it is back in its saved mode when it was taken, its engine emptied, its frame number 0,
and no run or verify record is left. The mask and the counts stay. -/
def RxInput.afterRestart (r : RxInput) (endGap : Nat) : RxInput :=
  { r with
    accepted := r.raw
    levelSince := r.rawSince
    trial := none
    lastMarkEnd := none
    mode := r.savedMode.getD r.mode
    savedMode := none
    engine := emptiedEngine r.raw endGap
    frameNext := 0
    episodeOpen := false
    run := none
    verify := none }

/-- The frame in progress of a RUNNING or DRAINING job is cut (R87, R89). -/
def State.cutRunning (s : State) (j : Job) : State :=
  match j.state with
  | .running => s.cutFrame j
  | .draining => s.cutFrame j
  | .waiting => s
  | .settling => s

/-- Every job is removed without a report, with the zones, generators, references and ids as the resets give (R53, R65,
R68, R89). The jobs are cut in queue order (log entry 26). -/
def State.removeJobs (s : State) : State :=
  let s' := s.jobs.foldl State.cutRunning s
  (((s'.setJobs []).setNextId 1).setZones (mapVector s'.zones fun x => { x with state := x.state.afterRestart })).setGenerators
    (Vector.replicate 4 none)

/-- The capture store is emptied and both inputs are restored (R125, R132). -/
def State.resetCapture (s : State) : State :=
  (s.setCaptures []).setInputs
    #v[(s.input 0).afterRestart (s.endGap 0), (s.input 1).afterRestart (s.endGap 1)]

/-- The effects of RESTART ACTIVITY (R177). -/
def State.restartActivity (s : State) : State :=
  let s' := s.removeJobs.resetCapture
  s'.setTable s'.table.afterRestart

/-! ### The effects of RESTART LINK -/

/-- The host line after the effects of LINK (R177): STARTED alone in the report queue, the window and the lost count
reset, and the replay record empty. The FIFO, the framer, the waiting list, the frame under way, the straps and the
selection stay. -/
def HostLine.restarted (l : HostLine) (cause : StartCause) (now : Word32) : HostLine :=
  { l with
    replay := none
    reports :=
      [{ sequence := 0, type := (Report.started cause now).type, payload := (Report.started cause now).payload
         timesSent := 0, sent := false }]
    nextSequence := 1
    ackTimer := none
    rounds := 0
    held := false
    lost := 0 }

/-- The effects of RESTART LINK (R177): the freed entries let the producers that waited go on, the head of the capture
queue (R177), then the decided run ends of RX0 and RX1 (R145). R170 gives this order for an acknowledgement only; here it
is DESIGN CHOICE, unsafe (log entry 27). -/
def State.restartLink (s : State) (cause : StartCause) : State :=
  (s.setLine (s.line.restarted cause s.now)).retryProducers

/-! ### The effects of RESTART FULL -/

/-- A zone at RESTART FULL: IDLE at drive 8, with its load estimate and group in force kept (R65). -/
def Zone.afterFull (x : Zone) : Zone :=
  { x with state := .idle, drive := 8 }

/-- An input at RESTART FULL after the ACTIVITY effects: OFF with an empty mask and counts 0 (R125, R133). -/
def RxInput.afterFull (r : RxInput) : RxInput :=
  { r with mode := .off, mask := 0#8, drops := 0, suppressed := 0 }

/-- The code table at RESTART FULL (R16). -/
def emptyTable : CodeTable where
  slots := Vector.replicate 128 .empty
  freeBlocks := Config.poolBlocks
  load := none
  learn := none

/-- Table, zones, inputs, groups and parameters take what RESTART FULL gives them (R177). -/
def State.takeDefaults (s : State) : State :=
  ((((s.setTable emptyTable).setZones (mapVector s.zones Zone.afterFull)).setInputs
    (mapVector s.inputs RxInput.afterFull)).setGroups defaultGroups).setParams defaultParams

/-- The effects of RESTART FULL (R177). -/
def State.restartFull (s : State) : State :=
  s.restartActivity.takeDefaults.restartLink .full

/-! ### The command -/

/-- A RESTART answered by the state after its effects, its reply recorded or not (R166, step 4; R177). -/
def State.restarted (s : State) (scope : Byte) (record : Bool) : Answer where
  state := s
  reply := reply .ok [scope]
  record := record
  arbiter := false

/-- The effect and reply of RESTART LINK (R177). A RESTART with a scope that is none of the three is taken by this row
too, and refused (log entry 3). -/
def actRestartLink (p : List Byte) (s : State) : Answer :=
  if p.getD 0 0#8 = 0#8 then (s.restartLink .link).restarted 0#8 false else s.refuse .range []

/-- RESTART with scope LINK (R177). -/
def execRestartLink (s : State) : Host.Outcome State Fault Refusal :=
  .next (s.takeCommand .restartLink (hasLength 1) actRestartLink)

/-- The effect and reply of RESTART ACTIVITY (R177). -/
def actRestartActivity (_ : List Byte) (s : State) : Answer :=
  s.restartActivity.restarted 1#8 true

/-- RESTART with scope ACTIVITY (R177). -/
def execRestartActivity (s : State) : Host.Outcome State Fault Refusal :=
  .next (s.takeCommand .restartActivity (hasLength 1) actRestartActivity)

/-- The effect and reply of RESTART FULL (R177). -/
def actRestartFull (_ : List Byte) (s : State) : Answer :=
  s.restartFull.restarted 2#8 false

/-- RESTART with scope FULL (R177). -/
def execRestartFull (s : State) : Host.Outcome State Fault Refusal :=
  .next (s.takeCommand .restartFull (hasLength 1) actRestartFull)

end Sys2Proof.Machine
end

