-- ==== Sys2Proof/Machine/System.lean ====
section
/-! DEFINITION. The commands of the part as a whole: identity, time, parameters and the report selection (chapter
11). -/

namespace Sys2Proof.Machine

/-! ### Identity and time -/

/-- The fields of IDENTIFY: the ids, the revision and the capacities (R175). -/
def identityBytes : List Byte :=
  u16 0x4C44 ++ u16 0x4B46 ++ u16 0x0802 ++ u8 1 ++ u8 0 ++ u8 128 ++ u16 Config.poolBlocks ++ u8 Config.cellsPerBlock ++
    u8 Config.jobPlaces ++ u8 8 ++ u8 2 ++ u8 4 ++ u16 Config.captureCells ++ u8 Config.captureEntries ++
    u8 Config.reportEntries ++ u8 Config.reportWindow

/-- The reply of IDENTIFY (R175). -/
def actIdentify (_ : List Byte) (s : State) : Answer :=
  s.answer (reply .ok identityBytes)

/-- IDENTIFY (R175). -/
def execIdentify (s : State) : Host.Outcome State Fault Refusal :=
  .next (s.takeCommand .identify (hasLength 0) actIdentify)

/-- The reply of TIME (R175). -/
def actTime (_ : List Byte) (s : State) : Answer :=
  s.answer (reply .ok (u32 s.now))

/-- TIME (R175). -/
def execTime (s : State) : Host.Outcome State Fault Refusal :=
  .next (s.takeCommand .time (hasLength 0) actTime)

/-! ### Parameters -/

/-- The timed check of an input's active run moves with REPEAT_WINDOW: it is made at once when its new instant has
passed, and otherwise condition 1 of the run's end fails, so that an end decided before no longer stands (R145; log
entry 21). -/
def State.moveWindow (s : State) (v : InputNo) : State :=
  match (s.input v).run with
  | none => s
  | some r =>
    if r.lastMarkEnd + s.window ≤ s.clock then (s.setRun v (some { r with windowPassed := true })).checkRunEnd v
    else s.setRun v (some { r with windowPassed := false, endDecided := none })

/-- What an accepted value of a parameter does at once: REPEAT_WINDOW moves the timed checks (R145), that of RX0 first
(log entry 27), and UNKNOWN_FORWARD has the waiting head tried again (R134). -/
def State.afterParam (s : State) (p : ParamId) : State :=
  if p = .repeatWindow then (s.moveWindow 0).moveWindow 1
  else if p = .unknownForward then s.dispatch
  else s

/-- A parameter's value is stored (R176). -/
def State.storeParam (s : State) (p : ParamId) (v : Nat) : State :=
  (s.setParams (s.params.set p v)).afterParam p

/-- The effect and reply of SET_PARAM (R176). -/
def actSetParam (p : List Byte) (s : State) : Answer :=
  match ParamId.ofId (byteAt p 0) with
  | none => s.refuse .badMessage []
  | some q =>
    if q.inRange (wordAt p 1) then
      (s.storeParam q (wordAt p 1)).answer (reply .ok (u8 (byteAt p 0) ++ u16 (wordAt p 1) ++ u16 (s.params.get q)))
    else s.refuse .range []

/-- SET_PARAM (R176). -/
def execSetParam (s : State) : Host.Outcome State Fault Refusal :=
  .next (s.takeCommand .setParam (hasLength 3) actSetParam)

/-- The reply of GET_PARAM (R176). -/
def actGetParam (p : List Byte) (s : State) : Answer :=
  match ParamId.ofId (byteAt p 0) with
  | none => s.refuse .badMessage []
  | some q => s.answer (reply .ok (u8 (byteAt p 0) ++ u16 (s.params.get q)))

/-- GET_PARAM (R176). -/
def execGetParam (s : State) : Host.Outcome State Fault Refusal :=
  .next (s.takeCommand .getParam (hasLength 1) actGetParam)

/-! ### The report selection -/

/-- Whether a selection byte has bits 5 to 7 clear (R173). -/
def selectionInRange (sel : Byte) : Bool :=
  decide (sel.toNat < 32)

/-- The report selection is replaced, and the producers held for report space are tried (R173, R134, R145). -/
def State.selectReports (s : State) (sel : Byte) : State :=
  (s.setLine { s.line with categories := sel }).recheckProducers

/-- The effect and reply of REPORT_SELECT (R173). -/
def actReportSelect (p : List Byte) (s : State) : Answer :=
  let sel := p.getD 0 0#8
  if selectionInRange sel then (s.selectReports sel).answer (reply .ok [sel, s.line.categories])
  else s.refuse .range []

/-- REPORT_SELECT (R173). -/
def execReportSelect (s : State) : Host.Outcome State Fault Refusal :=
  .next (s.takeCommand .reportSelect (hasLength 1) actReportSelect)

end Sys2Proof.Machine
end

