-- ==== Sys2Proof/Machine/ZoneCommands.lean ====
section
/-! DEFINITION. The commands of zones and derate groups (chapters 4 and 7). -/

namespace Sys2Proof.Machine

/-! ### Enabling and disabling zones -/

/-- Every OFF zone of a set becomes IDLE (R60). -/
def State.enableZones (s : State) (zs : ZoneSet) : State :=
  (zonesOf zs).foldl (fun s z => if (s.zone z).isOff then s.setZone z { s.zone z with state := .idle } else s) s

/-- The effect and reply of ZONE_ENABLE (R60). -/
def actZoneEnable (p : List Byte) (s : State) : Answer :=
  let zs := p.getD 0 0#8
  if zs = 0#8 then s.refuse .range []
  else
    let changed := zs &&& s.offZones
    let s' := s.enableZones zs
    if changed = 0#8 then s'.answer (reply .ok [changed, s'.offZones])
    else s'.answerThenArbitrate (reply .ok [changed, s'.offZones])

/-- ZONE_ENABLE (R60). -/
def execZoneEnable (s : State) : Host.Outcome State Fault Refusal :=
  .next (s.takeCommand .zoneEnable (hasLength 1) actZoneEnable)

/-- Whether a disable of some zones ends a job: it names one of them and is not SETTLING (R61, step 1). -/
def Job.isEndedByDisable (j : Job) (zs : ZoneSet) : Bool :=
  decide (j.state ≠ .settling) && meets j.zones zs

/-- A job is ended by a disable: a frame in progress is cut, and the end action runs whole (R62); a ZONE_DERATE of the
cut mark joins ahead of its JOB_END (log entry 26). -/
def State.disableJob (s : State) (j : Job) : State :=
  (s.cutFrame j).endJob j.id .zoneDisabled

/-- Every zone of a set becomes OFF, a guard dropped (R61, step 3). -/
def State.turnOff (s : State) (zs : ZoneSet) : State :=
  (zonesOf zs).foldl (fun s z => s.setZone z { s.zone z with state := .off }) s

/-- The jobs a disable of some zones ends, in queue order (R61, step 1). -/
def State.jobsEnded (s : State) (zs : ZoneSet) : List Job :=
  s.jobs.filter fun j => j.isEndedByDisable zs

/-- The zones of a set are disabled (R61, steps 2 and 3). -/
def State.disableZones (s : State) (zs : ZoneSet) : State :=
  ((s.jobsEnded zs).foldl State.disableJob s).turnOff zs

/-- The effect and reply of ZONE_DISABLE (R61). -/
def actZoneDisable (p : List Byte) (s : State) : Answer :=
  let zs := p.getD 0 0#8
  if zs = 0#8 then s.refuse .range []
  else
    let s' := s.disableZones zs
    s'.answerThenArbitrate (reply .ok ([zs &&& ~~~s.offZones, s'.offZones] ++ u8 (s.jobsEnded zs).length))

/-- ZONE_DISABLE (R61). -/
def execZoneDisable (s : State) : Host.Outcome State Fault Refusal :=
  .next (s.takeCommand .zoneDisable (hasLength 1) actZoneDisable)

/-! ### Reading a zone -/

/-- The *owner job* field of a zone: 0 when absent (R64, R168). -/
def ZoneState.ownerByte : ZoneState → List Byte
  | .active owner => u8 owner
  | .off => u8 0
  | .idle => u8 0
  | .guard _ => u8 0

/-- The time a timer has left, in ms: 0 once it is reached (R175). -/
def Timer.remaining (t : Timer) (now : Word32) : Nat :=
  t.length - (now - t.start).toNat

/-- The *guard remaining* field of a zone, in ms: absent unless GUARD (R64, R168). -/
def ZoneState.guardByte (now : Word32) : ZoneState → List Byte
  | .guard t => u8 (t.remaining now)
  | .off => [0xFF#8]
  | .idle => [0xFF#8]
  | .active _ => [0xFF#8]

/-- The reply of ZONE_INFO (R64). -/
def actZoneInfo (p : List Byte) (s : State) : Answer :=
  match zoneOf (byteAt p 0) with
  | none => s.refuse .range []
  | some z =>
    let x := s.zone z
    s.answer (reply .ok (u8 z.val ++ u8 x.state.code ++ x.state.ownerByte ++ u8 x.drive ++ u16 x.load ++
      optional8 (x.inForce.map fun g => g.1.val) ++ x.state.guardByte s.now))

/-- ZONE_INFO (R64). -/
def execZoneInfo (s : State) : Host.Outcome State Fault Refusal :=
  .next (s.takeCommand .zoneInfo (hasLength 1) actZoneInfo)

/-! ### Derate groups -/

/-- The group settings in a DERATE_SET payload, if they are in range (R114, check 2). -/
def groupSettingsOf (p : List Byte) : Option Group :=
  match yesNoOf (byteAt p 1), actionOf (byteAt p 4) with
  | some enabled, some action =>
    if wordAt p 2 = 0 then none
    else some { enabled := enabled, threshold := wordAt p 2, action := action, mask := p.getD 5 0#8 }
  | _, _ => none

/-- The effect and reply of DERATE_SET (R114). -/
def actDerateSet (p : List Byte) (s : State) : Answer :=
  match groupOf (byteAt p 0) with
  | none => s.refuse .range []
  | some g =>
    match groupSettingsOf p with
    | none => s.refuse .range []
    | some x => (s.setGroups (s.groups.set g.val x g.isLt)).answer (reply .ok (u8 g.val))

/-- DERATE_SET (R114). -/
def execDerateSet (s : State) : Host.Outcome State Fault Refusal :=
  .next (s.takeCommand .derateSet (hasLength 6) actDerateSet)

/-- The reply of DERATE_GET (R115). -/
def actDerateGet (p : List Byte) (s : State) : Answer :=
  match groupOf (byteAt p 0) with
  | none => s.refuse .range []
  | some g =>
    let x := s.groups[g]
    s.answer (reply .ok (u8 g.val ++ flag x.enabled ++ u16 x.threshold ++ u8 x.action.code ++ [x.mask]))

/-- DERATE_GET (R115). -/
def execDerateGet (s : State) : Host.Outcome State Fault Refusal :=
  .next (s.takeCommand .derateGet (hasLength 1) actDerateGet)

end Sys2Proof.Machine
end

