-- ==== Sys2Proof/Machine/Idle.lean ====
section
/-! DEFINITION. What the part does of itself while nothing is commanded (log entry 1): the happenings that are due at the
present µs are taken one after another, in an order the manual leaves open, and when none is due the clock moves on by
1 µs. -/

namespace Sys2Proof.Machine

/-- A happening, if its condition holds. -/
def dueWhen (b : Bool) (i : Instr) : List Instr :=
  if b then [i] else []

/-! ### Jobs -/

/-- Whether the cell that a job's sequencer plays has lasted its stored value (R77). -/
def State.cellDone (s : State) (j : Job) : Bool :=
  match j.play, s.code? j.slot with
  | some p, some c =>
    match p.phase with
    | .inSection i => (c.section p.kind)[i]?.any fun d => decide (p.since + d ≤ s.clock)
    | .trail => false
    | .atBoundary => false
  | _, _ => false

/-- Whether the trail gap that a job's sequencer plays is complete (R82). -/
def State.trailDone (s : State) (j : Job) : Bool :=
  match j.play, s.code? j.slot with
  | some p, some c => decide (p.phase = .trail) && decide (p.since + c.header.trailGap ≤ s.clock)
  | _, _ => false

/-- The happenings of a job that are due. -/
def State.dueOfJob (s : State) (j : Job) : List Instr :=
  dueWhen (s.due j.keepTimer && (decide (j.state = .waiting) || decide (j.state = .running))) (.keepTimerExpiry j.id) ++
    dueWhen (s.due j.holdTimer && decide (j.state = .running)) (.holdLimitExpiry j.id) ++
    dueWhen (j.paused && s.due j.pauseTimer) (.pauseLimitExpiry j.id) ++
    dueWhen (s.cellDone j) (.cellEnd j.id) ++ dueWhen (s.trailDone j) (.frameBoundary j.id)

/-! ### Zones -/

/-- Whether a zone's guard is reached (R58). -/
def State.guardDone (s : State) (z : ZoneNo) : Bool :=
  match (s.zone z).state with
  | .guard t => t.reached s.now
  | .off => false
  | .idle => false
  | .active _ => false

/-- The happenings of a zone that are due. -/
def State.dueOfZone (s : State) (z : ZoneNo) : List Instr :=
  dueWhen (s.guardDone z) (.guardExpiry z) ++ dueWhen (decide ((s.zone z).nextDecay ≤ s.clock)) (.decayStep z)

/-! ### Inputs -/

/-- Whether the pending trial of an input has lasted its limit (R124). -/
def State.trialDone (s : State) (v : InputNo) : Bool :=
  (s.input v).trial.any fun t => decide (t.edge + t.limit ≤ s.clock)

/-- The closing or the return to QUIET that is due on an input (R129, R131). -/
def State.dueOfEngine (s : State) (v : InputNo) : List Instr :=
  match (s.input v).engine with
  | .quiet => []
  | .inFrame f => dueWhen (s.lasted v .space f.endGap) (.endGapClose v) ++ dueWhen (s.lasted v .mark stuckLimit) (.stuckMark v)
  | .discarding gap => dueWhen (s.lasted v .space gap) (.discardEnd v)

/-- Whether the window of an input's active run has elapsed unchecked (R145). -/
def State.windowDone (s : State) (v : InputNo) : Bool :=
  (s.input v).run.any fun r => !r.windowPassed && decide (r.lastMarkEnd + s.window ≤ s.clock)

/-- The happenings of an input that are due. -/
def State.dueOfInput (s : State) (v : InputNo) : List Instr :=
  dueWhen (s.trialDone v) (.acceptedChange v) ++ s.dueOfEngine v ++ dueWhen (s.windowDone v) (.repeatWindowElapse v)

/-! ### The host line -/

/-- The time a frame takes on HTX, in µs (R162, R163). -/
def OutFrame.lineTime (f : OutFrame) (straps : BitVec 2) : Nat :=
  bytesTime f.bytes.length straps

/-- Whether the frame under way on HTX has been sent to its end. -/
def State.frameSent (s : State) : Bool :=
  s.line.sending.any fun f => decide (s.line.sendingSince + f.lineTime s.line.straps ≤ s.clock)

/-- Whether a report may go out on a free line (R171). -/
def HostLine.reportReady (l : HostLine) : Bool :=
  l.sending.isNone && l.waiting.isEmpty && l.nextReport.isSome

/-- The command that the interpreter may take (R166). -/
def HostLine.dueCommand (l : HostLine) : List Instr :=
  match l.fifo with
  | [] => []
  | c :: _ => dueWhen l.ready c.row

/-- The happenings of the host line that are due. -/
def State.dueOfLine (s : State) : List Instr :=
  dueWhen s.frameSent .htxFrameSent ++ dueWhen s.line.reportReady .reportSend ++
    dueWhen (s.due s.line.ackTimer) .ackTimerExpiry ++ dueWhen s.gapPassed .byteTimeout ++ s.line.dueCommand

/-! ### Choosing one -/

/-- The timers of the load and of the learn that are due (R30, R154). -/
def State.dueOfTable (s : State) : List Instr :=
  dueWhen (s.table.load.any fun l => l.idle.reached s.now) .loadIdleTimerExpiry ++
    dueWhen (s.table.learn.any fun c => c.deadline.reached s.now) .learnDeadline

/-- Every happening that is due. -/
def State.dueNow (s : State) : List Instr :=
  s.dueOfLine ++ s.dueOfTable ++ s.jobs.flatMap s.dueOfJob ++ allZones.flatMap s.dueOfZone ++ allInputs.flatMap s.dueOfInput

/-- The happening to be taken next, with the state it is taken in: the only one that is due, or one that a free value
names among several (R31, R73, R94, R101, R119, R123, R137; log entry 6). -/
def State.chooseDue (s : State) : Option (Instr × State) :=
  match s.dueNow with
  | [] => none
  | [i] => some (i, s)
  | i :: j :: is => some ((i :: j :: is).getD (Config.firstTaken s.draws % (is.length + 2)) i, { s with draws := s.draws + 1 })

/-- The clock moves on by 1 µs (R175). -/
def State.tick (s : State) : State :=
  { s with clock := s.clock + 1 }

end Sys2Proof.Machine
end

