-- ==== Sys2Proof/Machine/Dispatch.lean ====
section
/-! DEFINITION. The meaning of each command: one arm per constructor of Instr. -/

namespace Sys2Proof.Machine

/-- A command's effect on everything but the queue. -/
def exec (i : Instr) (s : State) : Host.Outcome State Fault Refusal :=
  match i with
  | .powerOn straps rx0 rx1 => Sys2Proof.Machine.execPowerOn straps rx0 rx1 s
  | .resetPin straps rx0 rx1 => Sys2Proof.Machine.execResetPin straps rx0 rx1 s
  | .messageFrame frame => Sys2Proof.Machine.execMessageFrame frame s
  | .byteTimeout => Sys2Proof.Machine.execByteTimeout s
  | .badMessage => Sys2Proof.Machine.execBadMessage s
  | .identify => Sys2Proof.Machine.execIdentify s
  | .time => Sys2Proof.Machine.execTime s
  | .setParam => Sys2Proof.Machine.execSetParam s
  | .getParam => Sys2Proof.Machine.execGetParam s
  | .reportSelect => Sys2Proof.Machine.execReportSelect s
  | .restartLink => Sys2Proof.Machine.execRestartLink s
  | .restartActivity => Sys2Proof.Machine.execRestartActivity s
  | .restartFull => Sys2Proof.Machine.execRestartFull s
  | .codeOpen => Sys2Proof.Machine.execCodeOpen s
  | .codeData => Sys2Proof.Machine.execCodeData s
  | .codeClose => Sys2Proof.Machine.execCodeClose s
  | .codeErase => Sys2Proof.Machine.execCodeErase s
  | .codeAmend => Sys2Proof.Machine.execCodeAmend s
  | .codeInfo => Sys2Proof.Machine.execCodeInfo s
  | .codeRead => Sys2Proof.Machine.execCodeRead s
  | .poolInfo => Sys2Proof.Machine.execPoolInfo s
  | .emit => Sys2Proof.Machine.execEmit s
  | .jobKeep => Sys2Proof.Machine.execJobKeep s
  | .jobRelease => Sys2Proof.Machine.execJobRelease s
  | .jobCancel => Sys2Proof.Machine.execJobCancel s
  | .jobInfo => Sys2Proof.Machine.execJobInfo s
  | .jobList => Sys2Proof.Machine.execJobList s
  | .zoneEnable => Sys2Proof.Machine.execZoneEnable s
  | .zoneDisable => Sys2Proof.Machine.execZoneDisable s
  | .zoneInfo => Sys2Proof.Machine.execZoneInfo s
  | .derateSet => Sys2Proof.Machine.execDerateSet s
  | .derateGet => Sys2Proof.Machine.execDerateGet s
  | .inputMode => Sys2Proof.Machine.execInputMode s
  | .inputInfo => Sys2Proof.Machine.execInputInfo s
  | .learn => Sys2Proof.Machine.execLearn s
  | .learnCancel => Sys2Proof.Machine.execLearnCancel s
  | .htxFrameSent => Sys2Proof.Machine.execHtxFrameSent s
  | .reportSend => Sys2Proof.Machine.execReportSend s
  | .ackTimerExpiry => Sys2Proof.Machine.execAckTimerExpiry s
  | .loadIdleTimerExpiry => Sys2Proof.Machine.execLoadIdleTimerExpiry s
  | .keepTimerExpiry job => Sys2Proof.Machine.execKeepTimerExpiry job s
  | .holdLimitExpiry job => Sys2Proof.Machine.execHoldLimitExpiry job s
  | .pauseLimitExpiry job => Sys2Proof.Machine.execPauseLimitExpiry job s
  | .guardExpiry zone => Sys2Proof.Machine.execGuardExpiry zone s
  | .jobStart job => Sys2Proof.Machine.execJobStart job s
  | .cellEnd job => Sys2Proof.Machine.execCellEnd job s
  | .frameBoundary job => Sys2Proof.Machine.execFrameBoundary job s
  | .codeRetired slot => Sys2Proof.Machine.execCodeRetired slot s
  | .decayStep zone => Sys2Proof.Machine.execDecayStep zone s
  | .pauseClear job => Sys2Proof.Machine.execPauseClear job s
  | .rxRawEdge input level => Sys2Proof.Machine.execRxRawEdge input level s
  | .acceptedChange input => Sys2Proof.Machine.execAcceptedChange input s
  | .endGapClose input => Sys2Proof.Machine.execEndGapClose input s
  | .stuckMark input => Sys2Proof.Machine.execStuckMark input s
  | .discardEnd input => Sys2Proof.Machine.execDiscardEnd input s
  | .captureDispatch => Sys2Proof.Machine.execCaptureDispatch s
  | .verifyVerdict input => Sys2Proof.Machine.execVerifyVerdict input s
  | .learnDeadline => Sys2Proof.Machine.execLearnDeadline s
  | .repeatWindowElapse input => Sys2Proof.Machine.execRepeatWindowElapse input s
  | .rxRunEnd input => Sys2Proof.Machine.execRxRunEnd input s
  | .hrxByte byte stopHigh => Sys2Proof.Machine.execHrxByte byte stopHigh s

end Sys2Proof.Machine
end

