-- ==== Sys2Proof/WellFormed.lean ====
section
/-! DEFINITION. Which terms name a command of the part: the ranges that the operands' types leave open. -/

namespace Sys2Proof

/-- A complete message frame: at most 240 payload bytes, and LEN counts KIND, TAG, TYPE and the payload
(R163). -/
def WireFrame.wellFormed (f : WireFrame) : Bool :=
  decide (f.payload.length ≤ 240) && decide (f.len.toNat = f.payload.length + 3)

/-- A job id is a number from 1 to 255 (R35). -/
def jobIdWellFormed (id : Nat) : Bool :=
  decide (1 ≤ id) && decide (id ≤ 255)

/-- Whether a term names a command of the part. -/
def Instr.wellFormed : Instr → Bool
  | .powerOn _ _ _ => true
  | .resetPin _ _ _ => true
  | .messageFrame f => f.wellFormed
  | .byteTimeout => true
  | .badMessage => true
  | .identify => true
  | .time => true
  | .setParam => true
  | .getParam => true
  | .reportSelect => true
  | .restartLink => true
  | .restartActivity => true
  | .restartFull => true
  | .codeOpen => true
  | .codeData => true
  | .codeClose => true
  | .codeErase => true
  | .codeAmend => true
  | .codeInfo => true
  | .codeRead => true
  | .poolInfo => true
  | .emit => true
  | .jobKeep => true
  | .jobRelease => true
  | .jobCancel => true
  | .jobInfo => true
  | .jobList => true
  | .zoneEnable => true
  | .zoneDisable => true
  | .zoneInfo => true
  | .derateSet => true
  | .derateGet => true
  | .inputMode => true
  | .inputInfo => true
  | .learn => true
  | .learnCancel => true
  | .htxFrameSent => true
  | .reportSend => true
  | .ackTimerExpiry => true
  | .loadIdleTimerExpiry => true
  | .keepTimerExpiry id => jobIdWellFormed id
  | .holdLimitExpiry id => jobIdWellFormed id
  | .pauseLimitExpiry id => jobIdWellFormed id
  | .guardExpiry _ => true
  | .jobStart id => jobIdWellFormed id
  | .cellEnd id => jobIdWellFormed id
  | .frameBoundary id => jobIdWellFormed id
  | .codeRetired _ => true
  | .decayStep _ => true
  | .pauseClear id => jobIdWellFormed id
  | .rxRawEdge _ _ => true
  | .acceptedChange _ => true
  | .endGapClose _ => true
  | .stuckMark _ => true
  | .discardEnd _ => true
  | .captureDispatch => true
  | .verifyVerdict _ => true
  | .learnDeadline => true
  | .repeatWindowElapse _ => true
  | .rxRunEnd _ => true
  | .hrxByte _ _ => true

end Sys2Proof
end

