-- ==== Sys2Proof/Safety.lean ====
section
/-! DEFINITION. What a sound state of the part is, in the manual's terms, and the words in which claims about commands are
stated. -/

namespace Sys2Proof.Machine

/-! ### The code table -/

/-- The pool's accounting: the free blocks and the blocks of the slots are 256 together (R8). -/
def State.poolAccounted (s : State) : Prop :=
  s.table.freeBlocks + (s.table.slots.toList.map Slot.blocks).sum = 256

/-- Whether cells stored in a slot are 8 µs or more (R7, R23). -/
def cellsLongEnough (cells : List Nat) : Prop :=
  ∀ d ∈ cells, 8 ≤ d

/-- A code whose cells are all there, with the checksum over them (R2, R7). -/
def Code.whole (c : Code) : Prop :=
  c.cells.length = c.header.total ∧ c.checksum = crcCells crcStart c.cells ∧ cellsLongEnough c.cells

/-- The LOADING slot and the load context belong together (R18, R24): the context's next offset counts the cells stored
and its running checksum is over them. -/
def State.loadSound (s : State) (i : SlotNo) (h : Header) (cells : List Nat) : Prop :=
  ∃ l, s.table.load = some l ∧ l.slot = i ∧ l.header = h ∧ l.nextOffset = cells.length ∧ cells.length ≤ h.total ∧
    l.checksum = crcCells crcStart cells ∧ cellsLongEnough cells

/-- A slot that agrees with the two contexts (R1, R18, R148): LOADING and LEARNING only as the load context and the learn
context say, READY and RETIRING only with a whole code. -/
def State.slotSound (s : State) (i : SlotNo) : Prop :=
  match s.slot i with
  | .loading h cells => s.loadSound i h cells
  | .ready c => c.whole
  | .retiring c => c.whole
  | .empty => True
  | .learning => ∃ x, s.table.learn = some x ∧ x.slot = i

/-- The load context is in use only while its slot is LOADING (R18). -/
def State.loadInUse (s : State) : Prop :=
  ∀ l, s.table.load = some l → ∃ h cells, s.slot l.slot = .loading h cells

/-- The learn context is in use only while its slot is LEARNING (R148, R149, R153). -/
def State.learnInUse (s : State) : Prop :=
  ∀ x, s.table.learn = some x → s.slot x.slot = .learning

/-- The code table is sound: every slot is, and the load context and the learn context are in use only with their slots
LOADING and LEARNING (R1, R7, R18, R24, R148). -/
def State.tableSound (s : State) : Prop :=
  (∀ i, s.slotSound i) ∧ s.loadInUse ∧ s.learnInUse

/-! ### The job queue -/

/-- Whether an id is 1 to 255 (R35, R42). -/
abbrev isJobId (n : Nat) : Prop :=
  1 ≤ n ∧ n ≤ 255

/-- The job queue is in order (R34, R39, R42): at most 16 jobs, ids from 1 to 255 and distinct, URGENT jobs ahead of
NORMAL ones, and no verify input named twice. -/
def State.queueOrdered (s : State) : Prop :=
  s.jobs.length ≤ 16 ∧ (s.jobs.map Job.id).Nodup ∧ (∀ j ∈ s.jobs, isJobId j.id) ∧ isJobId s.nextId ∧
    s.jobs = s.jobs.filter Job.isUrgent ++ s.jobs.filter (fun j => !j.isUrgent) ∧
    (s.jobs.filterMap Job.verifyInput).Nodup

/-- The live jobs that name a slot (R9). -/
def State.jobsOn (s : State) (i : SlotNo) : Nat :=
  s.jobs.countP fun j => decide (j.slot = i)

/-- The reference count of a slot is the number of live jobs naming it, and a slot named by one is READY or RETIRING; a
RETIRING slot is named by at least one (R9, R11). -/
def State.referencesOf (s : State) (i : SlotNo) : Prop :=
  match s.slot i with
  | .ready c => c.refs = s.jobsOn i
  | .retiring c => c.refs = s.jobsOn i ∧ 1 ≤ c.refs
  | .empty => s.jobsOn i = 0
  | .loading _ _ => s.jobsOn i = 0
  | .learning => s.jobsOn i = 0

/-- References are counted on every slot (R9). -/
def State.referencesCounted (s : State) : Prop :=
  s.queueOrdered ∧ ∀ i, s.referencesOf i

/-! ### Taken inputs -/

/-- The learn in progress has taken its input, which is in LEARN and which no live job names (R39, R125, R149). -/
def State.learnTakes (s : State) : Prop :=
  ∀ x, s.table.learn = some x → (s.input x.input).mode = .learn ∧ ∀ j ∈ s.jobs, j.verifyInput ≠ some x.input

/-- A verify record belongs to a RUNNING, DRAINING or SETTLING job that names its input, which is in VERIFY; without a record
the input is not in VERIFY and only a WAITING job may name it (R125, R156). -/
def State.verifyBinds (s : State) (v : InputNo) : Prop :=
  match (s.input v).verify with
  | some r =>
    (s.input v).mode = .verify ∧ ∃ j ∈ s.jobs, j.id = r.job ∧ j.verifyInput = some v ∧ j.state ≠ .waiting
  | none => (s.input v).mode ≠ .verify ∧ ∀ j ∈ s.jobs, j.verifyInput = some v → j.state = .waiting

/-- An input's saved mode is present only while the input is taken, and is OFF, MATCH or RAW; in LEARN the learn in progress
has taken it (R125). -/
def State.modeSaved (s : State) (v : InputNo) : Prop :=
  ((s.input v).savedMode.isSome = true ↔ (s.input v).mode = .learn ∨ (s.input v).mode = .verify) ∧
    (∀ m, (s.input v).savedMode = some m → m ≠ .learn ∧ m ≠ .verify) ∧
    ((s.input v).mode = .learn → ∃ x, s.table.learn = some x ∧ x.input = v)

/-- The inputs are taken as the manual says (R105, R125, R149, R156): by the learn in progress, or by the job that a verify
record names, and a SETTLING job has a verify input. -/
def State.inputsTaken (s : State) : Prop :=
  s.queueOrdered ∧ s.learnTakes ∧ (∀ v, s.verifyBinds v ∧ s.modeSaved v) ∧
    ∀ j ∈ s.jobs, j.state = .settling → j.verifyInput.isSome = true

/-! ### Zones and carrier generators -/

/-- Whether a job plays: RUNNING or DRAINING (R56). -/
def Job.plays (j : Job) : Prop :=
  j.state = .running ∨ j.state = .draining

/-- A zone's owner, when it is ACTIVE, is a RUNNING or DRAINING job that names it (R56). -/
def State.ownerPlays (s : State) (z : ZoneNo) : Prop :=
  match (s.zone z).state with
  | .active owner => ∃ j ∈ s.jobs, j.id = owner ∧ j.plays ∧ ZoneSet.has j.zones z = true
  | .off => True
  | .idle => True
  | .guard _ => True

/-- Zones are owned as the manual says (R56, R61, R71): every ACTIVE zone by a job that plays, every job that plays owns each
of its zones, and only a SETTLING job may name a zone in OFF. -/
def State.zonesOwned (s : State) : Prop :=
  s.queueOrdered ∧ (∀ z, s.ownerPlays z) ∧
    (∀ j ∈ s.jobs, j.plays → ∀ z, ZoneSet.has j.zones z = true → (s.zone z).state = .active j.id) ∧
    ∀ j ∈ s.jobs, j.state ≠ .settling → ∀ z, ZoneSet.has j.zones z = true → (s.zone z).state ≠ .off

/-- The jobs that hold a generator (R66). -/
def State.usersOf (s : State) (g : Fin 4) : Nat :=
  s.jobs.countP fun j => decide (j.generator = some g)

/-- A generator's user count is the number of jobs that hold it, and it is FREE when none does (R66, R68). -/
def State.generatorCounted (s : State) (g : Fin 4) : Prop :=
  match s.generators[g] with
  | some c => c.users = s.usersOf g ∧ 1 ≤ c.users
  | none => s.usersOf g = 0

/-- Generators are counted, and only a job that plays holds one (R66 to R68). -/
def State.generatorsCounted (s : State) : Prop :=
  s.queueOrdered ∧ (∀ g, s.generatorCounted g) ∧ ∀ j ∈ s.jobs, j.generator.isSome = true → j.plays

/-! ### Capture -/

/-- Whether captured cells are 1 to 65,535 µs (R128, R129; log entry 29). -/
abbrev cellsInRange (cells : List Nat) : Prop :=
  ∀ d ∈ cells, 1 ≤ d ∧ d ≤ 65535

/-- The open frame of an input is well shaped (R128, R129): at most 510 cells, each in range, an even number of them in a
mark and an odd number in a space. -/
def RxInput.frameShaped (r : RxInput) : Prop :=
  match r.engine with
  | .inFrame f => f.cells.length ≤ 510 ∧ (f.cells.length % 2 = 0 ↔ r.accepted = .mark) ∧ cellsInRange f.cells
  | .quiet => True
  | .discarding _ => True

/-- A closed frame is well shaped: an odd number of cells from 1 to 511, each in range (R129). -/
def CapturedFrame.shaped (f : CapturedFrame) : Prop :=
  f.cells.length % 2 = 1 ∧ f.cells.length ≤ 511 ∧ cellsInRange f.cells

/-- The capture store is within its bounds, and its frames are well shaped (R129, R132). -/
def State.captureBounded (s : State) : Prop :=
  s.cellsUsed ≤ 2048 ∧ s.entriesUsed ≤ 8 ∧ (∀ v, (s.input v).frameShaped) ∧ ∀ f ∈ s.captures, f.shaped

/-! ### The host line -/

/-- The replies that wait or are being sent (R166). -/
def HostLine.replies (l : HostLine) : Nat :=
  (l.waiting ++ l.sending.toList).countP fun f => decide (f.kind = .reply)

/-- The sequences of the report queue run upward modulo 256 from the head to the one before the next-sequence counter
(R169). -/
def HostLine.sequencesRun (l : HostLine) : Prop :=
  l.reports.map ReportEntry.sequence =
    (List.range l.reports.length).map fun i => (l.nextSequence + 256 - l.reports.length + i) % 256

/-- The host line is within its bounds, and what the replay record stores is a REPLY (R165 to R167, R169). -/
def HostLine.bounded (l : HostLine) : Prop :=
  l.fifo.length ≤ 4 ∧ l.linkErrorsWaiting ≤ 4 ∧ l.replies ≤ 1 ∧ (l.sending = none → l.waiting = []) ∧
    l.reports.length ≤ 32 ∧ l.outstanding ≤ 8 ∧ l.nextSequence < 256 ∧ l.sequencesRun ∧
    ∀ r, l.replay = some r → r.reply.kind = .reply

/-! ### What falls due of itself (log entry 1) -/

/-- What falls due at a job: its keep timer while it is WAITING or RUNNING (R92), its hold limit while it is RUNNING (R93), its
pause limit (R122), the end of the cell it plays (R77), and the end of its trail gap (R82). -/
def State.fallsDueAt (s : State) (j : Job) (i : Instr) : Prop :=
  (i = .keepTimerExpiry j.id ∧ s.due j.keepTimer = true ∧ (j.state = .waiting ∨ j.state = .running)) ∨
    (i = .holdLimitExpiry j.id ∧ s.due j.holdTimer = true ∧ j.state = .running) ∨
    (i = .pauseLimitExpiry j.id ∧ s.due j.pauseTimer = true ∧ j.paused = true) ∨
    ∃ p k, j.play = some p ∧ s.code? j.slot = some k ∧
      ((i = .cellEnd j.id ∧ ∃ n d, p.phase = .inSection n ∧ (k.section p.kind)[n]? = some d ∧ p.since + d ≤ s.clock) ∨
        (i = .frameBoundary j.id ∧ p.phase = .trail ∧ p.since + k.header.trailGap ≤ s.clock))

/-- What falls due at a zone: its guard's end (R58) and its decay step (R112). -/
def State.fallsDueIn (s : State) (z : ZoneNo) (i : Instr) : Prop :=
  (i = .guardExpiry z ∧ ∃ t, (s.zone z).state = .guard t ∧ t.length ≤ (s.now - t.start).toNat) ∨
    (i = .decayStep z ∧ (s.zone z).nextDecay ≤ s.clock)

/-- What falls due at an input: the acceptance of a change (R124), the closing of its frame at the end gap or as a stuck mark
(R129), the end of its discarding (R131), and the end of its run's window (R145). -/
def State.fallsDueOn (s : State) (v : InputNo) (i : Instr) : Prop :=
  let r := s.input v
  (i = .acceptedChange v ∧ ∃ t, r.trial = some t ∧ t.edge + t.limit ≤ s.clock) ∨
    (r.trial = none ∧
      ((i = .endGapClose v ∧ r.accepted = .space ∧ ∃ f, r.engine = .inFrame f ∧ r.levelSince + f.endGap ≤ s.clock) ∨
        (i = .stuckMark v ∧ r.accepted = .mark ∧ (∃ f, r.engine = .inFrame f) ∧ r.levelSince + 200000 ≤ s.clock) ∨
        (i = .discardEnd v ∧ r.accepted = .space ∧ ∃ gap, r.engine = .discarding gap ∧ r.levelSince + gap ≤ s.clock))) ∨
    (i = .repeatWindowElapse v ∧
      ∃ x, r.run = some x ∧ x.windowPassed = false ∧ x.lastMarkEnd + s.params.repeatWindow * 1000 ≤ s.clock)

/-- The rate of both lines, in bits a second (R162). -/
def ratesOf (straps : BitVec 2) : Nat :=
  if straps = 0#2 then 19200 else if straps = 1#2 then 115200 else if straps = 2#2 then 460800 else 921600

/-- What falls due on the host line: the end of the frame under way on HTX, LEN + 4 bytes of ten bits each (R162, R163), a
report on a free line (R171), the acknowledgement timer (R172), the gap inside a frame (R164; its instant: log entry 10), and
the command at the head of the FIFO (R166). -/
def State.fallsDueOnLine (s : State) (i : Instr) : Prop :=
  (i = .htxFrameSent ∧
      ∃ f n, s.line.sending = some f ∧ s.line.sendingSince + n = s.clock ∧
        (f.payload.length + 7) * 10 * 1000000 ≤ n * ratesOf s.line.straps) ∨
    (i = .reportSend ∧ s.line.sending = none ∧ s.line.waiting = [] ∧ s.line.held = false ∧ s.line.outstanding < 8 ∧
      ∃ e ∈ s.line.reports, e.sent = false) ∨
    (i = .ackTimerExpiry ∧ s.due s.line.ackTimer = true) ∨
    (i = .byteTimeout ∧ s.line.framer ≠ .hunt ∧
      s.line.lastByte + 10000 + 10000000 / ratesOf s.line.straps < s.clock) ∨
    ∃ c rest, s.line.fifo = c :: rest ∧ s.line.ready = true ∧ i = c.row

/-- Everything that falls due of itself: at a job, a zone, an input or the host line, and the idle timer of the load (R30) and
the deadline of the learn (R154). -/
def State.fallsDue (s : State) (i : Instr) : Prop :=
  (∃ j ∈ s.jobs, s.fallsDueAt j i) ∨ (∃ z, s.fallsDueIn z i) ∨ (∃ v, s.fallsDueOn v i) ∨ s.fallsDueOnLine i ∨
    (i = .loadIdleTimerExpiry ∧ ∃ l, s.table.load = some l ∧ l.idle.length ≤ (s.now - l.idle.start).toNat) ∨
    (i = .learnDeadline ∧ ∃ x, s.table.learn = some x ∧ x.deadline.length ≤ (s.now - x.deadline.start).toNat)

/-! ### Words for claims about commands -/

/-- The interpreter takes a frame next as the happening of a row and executes it: the frame is the head of the FIFO and
gives rise to that row, no reply is waiting or being sent, and the replay record does not hold the frame (R166). -/
abbrev State.takes (s : State) (c : CommandFrame) (i : Instr) : Prop :=
  s.line.fifo.head? = some c ∧ s.line.ready = true ∧ s.line.replayFor c = none ∧ c.row = i

/-- A frame's reply has been created with a payload and recorded (R166, steps 3 and 4; R167). -/
def State.replied (s : State) (c : CommandFrame) (payload : List Byte) : State :=
  { s with
    line :=
      { s.line.send s.clock (c.replyFrame payload) with
        replay := some { tag := c.tag, crc := c.crc, reply := c.replyFrame payload } } }

/-- A frame has left the FIFO and been answered with a payload, its reply recorded; nothing else has changed (R165 to
R167). -/
def State.answered (s : State) (c : CommandFrame) (payload : List Byte) : State :=
  s.popCommand.replied c payload

/-- No producer of capture-derived reports waits: the capture queue is empty and no decided run end waits (R170). -/
def State.nothingHeld (s : State) : Prop :=
  s.captures = [] ∧ ∀ v r, (s.input v).run = some r → r.endDecided = none

/-- The TYPEs of the commands (chapter 11, Commands). -/
def commandTypes : List Byte :=
  [0x01#8, 0x02#8, 0x03#8, 0x04#8, 0x05#8, 0x06#8, 0x10#8, 0x11#8, 0x12#8, 0x13#8, 0x14#8, 0x15#8, 0x16#8, 0x17#8,
   0x20#8, 0x21#8, 0x22#8, 0x23#8, 0x24#8, 0x25#8, 0x30#8, 0x31#8, 0x32#8, 0x33#8, 0x34#8, 0x40#8, 0x41#8, 0x42#8,
   0x43#8]

/-- The payload length of every command but CODE_DATA (chapter 11, Commands). -/
def payloadLengths : List (Instr × Nat) :=
  [(.identify, 0), (.time, 0), (.setParam, 3), (.getParam, 1), (.reportSelect, 1), (.restartLink, 1), (.codeOpen, 22),
   (.codeClose, 3), (.codeErase, 1), (.codeAmend, 7), (.codeInfo, 1), (.codeRead, 4), (.poolInfo, 0), (.emit, 8),
   (.jobKeep, 1), (.jobRelease, 1), (.jobCancel, 1), (.jobInfo, 1), (.jobList, 0), (.zoneEnable, 1), (.zoneDisable, 1),
   (.zoneInfo, 1), (.derateSet, 6), (.derateGet, 1), (.inputMode, 3), (.inputInfo, 1), (.learn, 8), (.learnCancel, 0)]

/-- The state a zone has when a job has left it: GUARD with GUARD_TIME in force, or IDLE when that is 0, if the job owned it,
and its own otherwise (R58, R104). -/
def State.stateWithout (s : State) (j : Job) (z : ZoneNo) : ZoneState :=
  if (s.zone z).state = .active j.id then
    if s.params.guardTime = 0 then .idle else .guard { start := s.now, length := s.params.guardTime }
  else (s.zone z).state

/-- The carrier generators when a job has given up its own (R68). -/
def State.generatorsWithout (s : State) (j : Job) : Vector (Option Carrier) 4 :=
  match j.generator with
  | none => s.generators
  | some g =>
    s.generators.set g.val
      (match s.generators[g] with
        | none => none
        | some c => if c.users ≤ 1 then none else some { c with users := c.users - 1 }) g.isLt

/-- A slot when a job has given up its reference on it (R9, R11). -/
def Slot.withoutReference : Slot → Slot
  | .ready k => .ready { k with refs := k.refs - 1 }
  | .retiring k => if k.refs ≤ 1 then .empty else .retiring { k with refs := k.refs - 1 }
  | .empty => .empty
  | .loading h cells => .loading h cells
  | .learning => .learning

/-- No input is bound to a job (R105, R156): no verify record names it on its verify input. -/
def State.notBound (s : State) (j : Job) : Prop :=
  ∀ v r, j.verifyInput = some v → (s.input v).verify = some r → r.job ≠ j.id

/-- A live job that emitted has ended and been removed (R104, R106): its record is out of the queue, its zones, generator and
reference are given up, with the blocks of a slot that retires, and everything else but the host line, where it is reported,
is as it was; an input bound to it has been given back, and the load of its zones has risen by a mark that was cut. -/
def State.jobGone (s : State) (j : Job) (u : State) : Prop :=
  u.jobs = s.jobs.filter (fun m => decide (m.id ≠ j.id)) ∧ u.generators = s.generatorsWithout j ∧
    (∀ z, (u.zone z).state = s.stateWithout j z) ∧
    ((∀ p, j.play = some p → p.sampled = []) → ∀ z, u.zone z = { s.zone z with state := s.stateWithout j z }) ∧
    (∀ i, u.slot i = if i = j.slot then (s.slot i).withoutReference else s.slot i) ∧
    u.table.freeBlocks + (u.slot j.slot).blocks = s.table.freeBlocks + (s.slot j.slot).blocks ∧
    u.table.load = s.table.load ∧ u.table.learn = s.table.learn ∧ u.captures = s.captures ∧
    (s.notBound j → u.inputs = s.inputs) ∧ u.params = s.params ∧ u.groups = s.groups ∧ u.nextId = s.nextId ∧
    u.clock = s.clock ∧ u.draws = s.draws ∧ u.pending = s.pending

/-- The record that JOB_END reports of a job that ends with a reason and is removed (R104, R107): no generator, timer or play
position, the reason and the end time, and a bound verify ABANDONED with its counts (R160). -/
def State.endRecord (s : State) (j : Job) (reason : EndReason) : Job :=
  { j with
    generator := none, keepTimer := none, holdTimer := none, pauseTimer := none, play := none
    endReason := some reason, endTime := some s.now
    verify :=
      match j.verifyInput.bind fun v => (s.input v).verify with
      | none => j.verify
      | some r =>
        if r.job = j.id then { result := .abandoned, seen := r.seen, matched := r.matched, mismatch := none } else j.verify }

/-- A job that is removed has been reported with its final record (R106 to R108): with JOB selected, JOB_END with the label as
it stands has joined behind every other report, or is lost when no entry is free, and with JOB deselected none is created;
CODE_RETIRED follows when the job's slot retires (R11). -/
def State.endReported (s : State) (j : Job) (u : State) : Prop :=
  ∀ (k : Code) (l : HostLine), s.code? j.slot = some k →
    l =
      (if s.line.categories.getLsbD 1 = false then s.line
      else if s.line.reports.length < 32 then s.line.join (.jobEnd j k.header.label)
      else { s.line with lost := if s.line.lost < 65535 then s.line.lost + 1 else s.line.lost }) →
    u.line =
      match s.slot j.slot with
      | .retiring c => if c.refs ≤ 1 then l.produce (.codeRetired j.slot c.header.label) else l
      | .ready _ | .empty | .loading _ _ | .learning => l

/-- An input bound to a verify record has been given back (R125, R160): the record is dropped and the mode is the saved one;
when that is OFF an open frame has been discarded and the run-end check made (R126, R145). -/
def State.givenBack (s : State) (v : InputNo) : State :=
  let r := s.input v
  let back := r.savedMode.getD r.mode
  let discards := decide (back = .off) && r.engine.isInFrame
  let u : State :=
    { s with
      inputs :=
        s.inputs.set v.val
          { r with
            verify := none, mode := back, savedMode := none
            engine := if discards then .discarding (s.endGap v) else r.engine } v.isLt }
  if discards then u.checkRunEnd v else u

/-- A job with a bound verify input has entered SETTLING with a reason (R104, R105): its record keeps no generator, timer or
play position, its zones and generator are given up, and nothing else has changed. -/
def State.jobSettles (s : State) (j : Job) (reason : EndReason) (u : State) : Prop :=
  u.jobs =
      s.jobs.map (fun m =>
        if m.id = j.id then
          { j with
            state := .settling, paused := false, generator := none, keepTimer := none, holdTimer := none
            pauseTimer := none, play := none, endReason := some reason, endTime := some s.now }
        else m) ∧
    u.generators = s.generatorsWithout j ∧ (∀ z, u.zone z = { s.zone z with state := s.stateWithout j z }) ∧
    { u with jobs := s.jobs, zones := s.zones, generators := s.generators } = s

/-- A WAITING job may start, with its code's header and a carrier, behind the jobs that stand before it in the queue (R70):
every zone of it is IDLE, none is wanted by a WAITING job ahead of it, and it obtains the carrier. -/
def State.mayStart (s : State) (before : List Job) (j : Job) (h : Header) (g : Option (Fin 4)) : Prop :=
  j.state = .waiting ∧ (∀ z, ZoneSet.has j.zones z = true → (s.zone z).state = .idle) ∧
    (∀ m ∈ before, m.state = .waiting → j.zones &&& m.zones = 0#8) ∧ (∃ k, s.code? j.slot = some k ∧ k.header = h) ∧
    s.obtainCarrier h = some g

/-- No job of a queue's front part may start (R70). -/
def State.noneStarts (s : State) (front : List Job) : Prop :=
  ∀ before j behind h g, front = before ++ j :: behind → ¬s.mayStart before j h g

/-- A learn has ended (R153): its slot has taken a state, LEARN_END has been produced, the context is free, and its input is
back in its saved mode; when that is OFF an open frame has been discarded and the run-end check made (R126, R145). -/
def State.learnEnded (s : State) (x : LearnContext) (slot : Slot) (result : LearnResult) (lead rep : Nat) : State :=
  let r := s.input x.input
  let back := r.savedMode.getD r.mode
  let discards := decide (back = .off) && r.engine.isInFrame
  let u : State :=
    { s with
      table :=
        { slots := s.table.slots.set x.slot.val slot x.slot.isLt, freeBlocks := s.table.freeBlocks - slot.blocks
          load := s.table.load, learn := none }
      line := s.line.produce (.learnEnd x.slot x.input result x.taken lead rep)
      inputs :=
        s.inputs.set x.input.val
          { r with
            mode := back, savedMode := none
            engine := if discards then .discarding (s.endGap x.input) else r.engine } x.input.isLt }
  if discards then u.checkRunEnd x.input else u

/-- A frame of an input has been dropped, the rest of the input's record being as given (R133): the drop is counted, the
episode is open, with CAPTURE_DROP when it was not, and the engine is DISCARDING. -/
def State.dropped (s : State) (v : InputNo) (r : RxInput) (reason : DropReason) : State :=
  { s with
    inputs :=
      s.inputs.set v.val
        { r with
          drops := if r.drops < 65535 then r.drops + 1 else r.drops
          episodeOpen := true, engine := .discarding (s.endGap v) } v.isLt
    line := if r.episodeOpen then s.line else s.line.produce (.captureDrop v reason s.now) }

/-- The head of the capture queue, a frame of an input, has left it, the entries behind it stay, and the run-end check has
been made (R134, R141, R145). -/
def State.headLeft (s : State) (behind : List CapturedFrame) (v : InputNo) : State :=
  State.checkRunEnd { s with captures := behind } v

/-- The start arbiter has run when a job has been removed (R69, R106). -/
def State.arbitratedIfRemoved (s before : State) : State :=
  if s.jobs.length < before.jobs.length then s.runArbiter else s

/-! ### The checks of EMIT, read from its payload (R39) -/

/-- Check 2: the zone set is not empty, and class, hold and verify input have values of theirs. -/
abbrev emitCheck2 (zs cl ho vi : Byte) : Prop :=
  zs ≠ 0#8 ∧ cl.toNat ≤ 1 ∧ ho.toNat ≤ 1 ∧ (vi.toNat ≤ 1 ∨ vi = 0xFF#8)

/-- Check 4: a HOLD code with hold yes and no override, or a COUNT code with hold no and no keep interval. -/
abbrev emitCheck4 (k : Code) (ho ro : Byte) (keep : Nat) : Prop :=
  (ho = 1#8 ∧ k.header.mode = .hold ∧ ro = 0xFF#8) ∨ (ho = 0#8 ∧ k.header.mode = .count ∧ keep = 0)

/-- Check 5: a keep interval, if present, is 50 to 2,000 ms. -/
abbrev emitCheck5 (keep : Nat) : Prop :=
  keep = 0 ∨ (50 ≤ keep ∧ keep ≤ 2000)

/-- Check 6, first half: the verify input, if present, is not in LEARN and is named by no live job. -/
abbrev State.emitCheck6 (s : State) (vi : Byte) : Prop :=
  ∀ v : InputNo, v.val = vi.toNat → (s.input v).mode ≠ .learn ∧ ∀ j ∈ s.jobs, j.verifyInput ≠ some v

/-- Check 6, second half: the code's trail gap exceeds the input's end gap. -/
abbrev State.emitCheck6' (s : State) (k : Code) (vi : Byte) : Prop :=
  ∀ v : InputNo, v.val = vi.toNat → s.endGap v < k.header.trailGap

/-- The request in an EMIT payload that passes its checks (R38). -/
def emitRequest (i : SlotNo) (zs cl ho ro vi : Byte) (keep : Nat) : EmitRequest where
  slot := i
  zones := zs
  cls := if cl = 1#8 then .urgent else .normal
  hold := decide (ho = 1#8)
  repeatOverride := if ro = 0xFF#8 then none else some ro.toNat
  keepInterval := if keep = 0 then none else some keep
  verifyInput := inputOf vi.toNat

end Sys2Proof.Machine
end

