-- ==== Sys2Proof/Certificates/Slice0/Obligations.lean ====
section
/-! DEFINITION. The statements for the provers: what the manual's rules say of the commands, of resets and of every step. -/

section

open Sys2Proof Sys2Proof.Machine

/-! ### The queue and the whole machine -/

/-- A step runs the command at the front of the queue with the queue's rest. The queue is the model's own, not the
part's (log entry 7). On an empty queue the part goes on of itself, in a form that is the model's choice (log entry 1):
the step runs one of the happenings that have fallen due (timers R30, R58, R92, R93, R122, R172; cells and boundaries
R77, R82; decay R112; inputs R124, R129; reports R171; and the others of State.fallsDue), in the state as it stands but
for the model's count of draws (log entry 6), and with none due the clock moves on by 1 µs. -/
def Obligations.StepRunsFrontCommand : Prop :=
  (∀ (c : Instr) (rest : List Instr) (s : State),
    step { s with pending := c :: rest } = exec c { s with pending := rest }) ∧
  ∀ s : State, s.pending = [] →
    ((∀ i, ¬s.fallsDue i) → step s = .next { s with clock := s.clock + 1 }) ∧
      ((∃ i, s.fallsDue i) →
        ∃ i n, s.fallsDue i ∧ (n = s.draws ∨ n = s.draws + 1) ∧ step s = exec i { s with draws := n })

/-- Every command answers a next state, and each setting has its writers: no command touches the queue; only POWER_ON
and RESET_PIN set the time base (R175) or sample the straps anew (R162); apart from these two only SET_PARAM and RESTART
FULL change a parameter (R176), only DERATE_SET and RESTART FULL a derate group (R113, R114), only REPORT_SELECT the
selection (R173), only EMIT, RESTART ACTIVITY and RESTART FULL the next-id counter (R42), and only a zone's decay step
the instant of its next one (R112). -/
def Obligations.SettingsHaveTheirWriters : Prop :=
  ∀ (i : Instr) (s : State), ∃ t, exec i s = .next t ∧ t.pending = s.pending ∧
    ((∀ straps a b, i ≠ .powerOn straps a b ∧ i ≠ .resetPin straps a b) →
      t.clock = s.clock ∧ t.draws = s.draws ∧ t.line.straps = s.line.straps ∧
        (i ≠ .setParam → i ≠ .restartFull → t.params = s.params) ∧
        (i ≠ .derateSet → i ≠ .restartFull → t.groups = s.groups) ∧
        (i ≠ .reportSelect → t.line.categories = s.line.categories) ∧
        (i ≠ .emit → i ≠ .restartActivity → i ≠ .restartFull → t.nextId = s.nextId) ∧
        ∀ z, i ≠ .decayStep z → (t.zone z).nextDecay = (s.zone z).nextDecay)

/-- No command changes the cells or the checksum of a stored code: a slot that held a code before a command and holds
one after it holds the same cells with the same checksum, and the same fields but the three that CODE_AMEND replaces
(R4, R12). -/
def Obligations.CodeCellsNeverChange : Prop :=
  ∀ (i : Instr) (s t : State) (k : SlotNo) (a b : Code), exec i s = .next t → s.code? k = some a → t.code? k = some b →
    b.cells = a.cells ∧ b.checksum = a.checksum ∧
      b.header = { a.header with label := b.header.label, matchable := b.header.matchable, tolerance := b.header.tolerance }

/-- The row of a COMMAND frame changes nothing while the FIFO is empty, while a reply waits or is being sent, or while
the head of the FIFO is the frame of another row (R166; the last is the model's choice, log entry 2). A head whose TAG
and CRC the replay record holds is answered with the stored reply, and nothing else changes (R166, step 1). -/
def Obligations.CommandsTakenInTurn : Prop :=
  ∀ (s : State) (c : CommandFrame),
    (s.line.fifo = [] ∨ s.line.ready = false → exec c.row s = .next s) ∧
      (∀ d, s.line.fifo.head? = some d → d.row ≠ c.row → exec c.row s = .next s) ∧
      ∀ r, s.line.fifo.head? = some c → s.line.ready = true → s.line.replayFor c = some r →
        exec c.row s = .next { s with line := { s.line with fifo := s.line.fifo.tail }.send s.clock r }

/-- A frame whose TYPE is no command type is answered BAD_MESSAGE, and so is one whose payload length its TYPE does not
allow; the reply is recorded and nothing else changes (R166, steps 2 and 4; R22). -/
def Obligations.BadMessageAnswered : Prop :=
  ∀ (s : State) (c : CommandFrame), s.takes c c.row →
    (c.type ∉ commandTypes → exec .badMessage s = .next (s.answered c [0x01#8])) ∧
      (∀ n, (c.row, n) ∈ payloadLengths → c.payload.length ≠ n → exec c.row s = .next (s.answered c [0x01#8])) ∧
      (c.row = .codeData →
        (byteAt c.payload 3 = 0 ∨ 112 < byteAt c.payload 3 ∨ c.payload.length ≠ 4 + 2 * byteAt c.payload 3) →
        exec .codeData s = .next (s.answered c [0x01#8]))

/-! ### Power-on and the restarts -/

/-- POWER_ON and RESET_PIN answer a state with every piece of state at its power-on value, the straps and the levels of
the receive lines as sampled then, and STARTED with its cause alone in the report queue (R16, R42, R53, R65, R112, R125,
R132, R164, R174). The instants of the model's own clock stand at 0 (log entry 7). For RESET_PIN no rule says what
becomes of a frame under way on HTX; that it is dropped is the model's choice (log entry 30). -/
def Obligations.PowerUpState : Prop :=
  ∀ (straps : BitVec 2) (a b : Level) (s : State) (i : Instr) (cause : Byte),
    (i = .powerOn straps a b ∧ cause = 0#8) ∨ (i = .resetPin straps a b ∧ cause = 1#8) →
    ∃ t, exec i s = .next t ∧ t.clock = 0 ∧ t.jobs = [] ∧ t.nextId = 1 ∧ t.captures = [] ∧
      t.table = { slots := Vector.replicate 128 .empty, freeBlocks := 256, load := none, learn := none } ∧
      t.generators = Vector.replicate 4 none ∧ t.groups = defaultGroups ∧ t.params = defaultParams ∧
      (∀ z, (t.zone z).state = .idle ∧ (t.zone z).drive = 8 ∧ (t.zone z).load = 0 ∧ (t.zone z).inForce = none ∧
        1000 ≤ (t.zone z).nextDecay ∧ (t.zone z).nextDecay ≤ 10000) ∧
      (∀ v, t.input v =
        { raw := if v = 0 then a else b, accepted := if v = 0 then a else b, levelSince := 0, trial := none
          lastMarkEnd := none, mode := .off, savedMode := none, mask := 0#8
          engine := if (if v = 0 then a else b) = .space then .quiet else .discarding 15000
          frameNext := 0, drops := 0, suppressed := 0, episodeOpen := false, run := none, verify := none }) ∧
      t.line =
        { straps := straps, framer := .hunt, lastByte := 0, fifo := [], replay := none, waiting := [], sending := none
          sendingSince := 0
          reports := [{ sequence := 0, type := 0x80#8, payload := [cause, 0#8, 0#8, 0#8, 0#8], timesSent := 0, sent := false }]
          nextSequence := 1, ackTimer := none, rounds := 0, held := false, lost := 0, categories := 0x1F#8 }

/-- At power-on, RESET pin release and RESTART FULL every slot is EMPTY, the pool has 256 free blocks, both contexts are
free and no job is left, and the only report is STARTED; RESTART FULL has done so before its reply is created (R16). -/
def Obligations.ResetsEmptyTheTable : Prop :=
  ∀ s : State,
    (∀ straps a b, ∃ t, exec (.powerOn straps a b) s = .next t ∧ t.table = emptyTable ∧ t.jobs = [] ∧
      t.line.reports.map ReportEntry.type = [0x80#8]) ∧
    (∀ straps a b, ∃ t, exec (.resetPin straps a b) s = .next t ∧ t.table = emptyTable ∧ t.jobs = [] ∧
      t.line.reports.map ReportEntry.type = [0x80#8]) ∧
    ∀ c, s.takes c .restartFull → c.payload = [2#8] →
      ∃ u : State, exec .restartFull s = .next { u with line := u.line.send s.clock (c.replyFrame [0x00#8, 2#8]) } ∧
        u.table = emptyTable ∧ u.jobs = [] ∧ u.line.reports.map ReportEntry.type = [0x80#8]

/-- RESTART with scope LINK empties the report queue, places STARTED(LINK) at sequence 0, resets the lost count, the
window and the replay record, lets the producers that waited go on, and answers without recording its reply. That the
head of the capture queue goes on before the decided run ends is the model's choice (log entry 27). A RESTART with a
scope above 2 is refused with RANGE (R177), by the row RESTART_LINK (the model's choice, log entry 3). -/
def Obligations.RestartLinkEffects : Prop :=
  ∀ (s : State) (c : CommandFrame) (scope : Byte), s.takes c .restartLink → c.payload = [scope] →
    (2 < scope.toNat → exec .restartLink s = .next (s.answered c [0x02#8])) ∧
      (scope = 0#8 → ∀ u : State,
        u = State.retryProducers
          { s with
            line :=
              { s.line with
                fifo := s.line.fifo.tail, replay := none, nextSequence := 1, ackTimer := none, rounds := 0, held := false
                lost := 0
                reports :=
                  [{ sequence := 0, type := 0x80#8, payload := 2#8 :: u32 s.now, timesSent := 0, sent := false }] } } →
        exec .restartLink s = .next { u with line := u.line.send s.clock (c.replyFrame [0x00#8, 0#8]) })

/-- RESTART with scope ACTIVITY (R17, R53, R65, R68, R125, R132, R133, R146, R177): every job is gone, the zones but
those in OFF are IDLE, every generator is FREE, READY codes stay with count 0 and every other slot is EMPTY with its
blocks back in the pool, both contexts are free, the capture store is empty, the inputs are back in their saved modes
with their accepted levels at the raw ones (since the raw edge: log entry 22), and parameters and groups stay. With no
mark in progress the rest of the zone records and the host line, but for the answer, stay too. -/
def Obligations.RestartActivityEffects : Prop :=
  ∀ (s : State) (c : CommandFrame), s.takes c .restartActivity → c.payload = [1#8] →
    ∃ t, exec .restartActivity s = .next t ∧ t.jobs = [] ∧ t.nextId = 1 ∧ t.captures = [] ∧
      t.generators = Vector.replicate 4 none ∧ t.table.load = none ∧ t.table.learn = none ∧
      (∀ i, t.slot i = match s.slot i with
        | .ready k => .ready { k with refs := 0 }
        | .empty => .empty
        | .loading _ _ => .empty
        | .learning => .empty
        | .retiring _ => .empty) ∧
      (s.poolAccounted → t.poolAccounted) ∧
      (∀ z, (t.zone z).state = if (s.zone z).state = .off then .off else .idle) ∧
      (∀ v, t.input v =
        { s.input v with
          accepted := (s.input v).raw
          levelSince := (match (s.input v).trial with | some w => w.edge | none => (s.input v).levelSince)
          trial := none, lastMarkEnd := none, mode := (s.input v).savedMode.getD (s.input v).mode, savedMode := none
          engine := if (s.input v).raw = .space then .quiet else .discarding (s.endGap v)
          frameNext := 0, episodeOpen := false, run := none, verify := none }) ∧
      t.params = s.params ∧ t.groups = s.groups ∧
      ((∀ j ∈ s.jobs, ∀ p, j.play = some p → p.sampled = []) →
        t.line = (s.answered c [0x00#8, 1#8]).line ∧
          ∀ z, t.zone z = { s.zone z with state := if (s.zone z).state = .off then .off else .idle })

/-- RESTART with scope FULL (R16, R42, R65, R113, R124, R125, R132, R133, R176, R177): the table is empty, no job is
left, every zone is IDLE at drive 8, every input is OFF with an empty mask, counts 0 and its episode closed, its
accepted level at the raw one (since the raw edge: log entry 22) and its engine emptied (under the end gap in force
before: log entry 18), groups and parameters have their defaults, STARTED(FULL) stands alone in the report queue, and
the selection, the framer, the frames behind the RESTART, the waiting link errors, the frame under way and the time base
stay. With no mark in progress the load estimate and the group in force of every zone stay. -/
def Obligations.RestartFullEffects : Prop :=
  ∀ (s : State) (c : CommandFrame), s.takes c .restartFull → c.payload = [2#8] →
    ∃ t, exec .restartFull s = .next t ∧ t.table = emptyTable ∧ t.jobs = [] ∧ t.nextId = 1 ∧ t.captures = [] ∧
      t.generators = Vector.replicate 4 none ∧ t.groups = defaultGroups ∧ t.params = defaultParams ∧
      t.clock = s.clock ∧ (∀ z, (t.zone z).state = .idle ∧ (t.zone z).drive = 8 ∧ (t.zone z).nextDecay = (s.zone z).nextDecay) ∧
      (∀ v, t.input v =
        { raw := (s.input v).raw, accepted := (s.input v).raw
          levelSince := (match (s.input v).trial with | some w => w.edge | none => (s.input v).levelSince)
          trial := none, lastMarkEnd := none, mode := .off, savedMode := none, mask := 0#8
          engine := if (s.input v).raw = .space then .quiet else .discarding (s.endGap v)
          frameNext := 0, drops := 0, suppressed := 0, episodeOpen := false, run := none, verify := none }) ∧
      t.line =
        HostLine.send
          { s.line with
            fifo := s.line.fifo.tail, replay := none, nextSequence := 1, ackTimer := none, rounds := 0, held := false
            lost := 0
            reports := [{ sequence := 0, type := 0x80#8, payload := 3#8 :: u32 s.now, timesSent := 0, sent := false }] }
          s.clock (c.replyFrame [0x00#8, 2#8]) ∧
      ((∀ j ∈ s.jobs, ∀ p, j.play = some p → p.sampled = []) →
        ∀ z, (t.zone z).load = (s.zone z).load ∧ (t.zone z).inForce = (s.zone z).inForce)

/-! ### Identity, time, parameters and the selection -/

/-- IDENTIFY answers the ids, the revision and the capacities, and TIME the time base value; neither changes anything
else (R175). -/
def Obligations.IdentifyAndTimeAnswer : Prop :=
  ∀ (s : State) (c : CommandFrame), c.payload = [] →
    (s.takes c .identify →
      exec .identify s =
        .next (s.answered c
          [0x00#8, 0x4C#8, 0x44#8, 0x4B#8, 0x46#8, 0x08#8, 0x02#8, 1#8, 0#8, 128#8, 0x01#8, 0x00#8, 16#8, 16#8, 8#8, 2#8,
            4#8, 0x08#8, 0x00#8, 8#8, 32#8, 8#8])) ∧
      (s.takes c .time → exec .time s = .next (s.answered c (0x00#8 :: u32 (BitVec.ofNat 32 (s.clock / 1000)))))

/-- GET_PARAM answers a parameter's value, and SET_PARAM stores one and answers it with the prior value, or refuses an
id that names none with BAD_MESSAGE and a value out of range with RANGE. A new UNKNOWN_FORWARD has the waiting head of
the capture queue tried, and a new REPEAT_WINDOW moves the timed checks of the runs (R176, R134, R145), that of RX0
before that of RX1, an order that R145 does not fix and that is the model's choice (log entry 27). A value stored is the
value read, and no other parameter changes. -/
def Obligations.ParametersAnswer : Prop :=
  (∀ (ps : Params) (p q : ParamId) (n : Nat), (ps.set p n).get q = if q = p then n else ps.get q) ∧
  ∀ (s : State) (c : CommandFrame) (b : Byte),
    (s.takes c .getParam → c.payload = [b] →
      (ParamId.ofId b.toNat = none → exec .getParam s = .next (s.answered c [0x01#8])) ∧
        ∀ q, ParamId.ofId b.toNat = some q →
          exec .getParam s = .next (s.answered c ([0x00#8, b] ++ u16 (s.params.get q)))) ∧
    ∀ hi lo : Byte, s.takes c .setParam → c.payload = [b, hi, lo] → ∀ n, n = hi.toNat * 256 + lo.toNat →
      (ParamId.ofId b.toNat = none → exec .setParam s = .next (s.answered c [0x01#8])) ∧
        ∀ q, ParamId.ofId b.toNat = some q →
          (n < q.range.1 ∨ q.range.2 < n → exec .setParam s = .next (s.answered c [0x02#8])) ∧
            (q.range.1 ≤ n → n ≤ q.range.2 → ∀ u : State, u = { s.popCommand with params := s.params.set q n } →
              (q ≠ .repeatWindow → q ≠ .unknownForward →
                exec .setParam s = .next (u.replied c ([0x00#8, b, hi, lo] ++ u16 (s.params.get q)))) ∧
              (q = .unknownForward →
                exec .setParam s = .next (u.dispatch.replied c ([0x00#8, b, hi, lo] ++ u16 (s.params.get q)))) ∧
              (q = .repeatWindow →
                exec .setParam s =
                  .next (((u.moveWindow 0).moveWindow 1).replied c ([0x00#8, b, hi, lo] ++ u16 (s.params.get q)))))

/-- REPORT_SELECT replaces the selection and answers it with the prior one; a byte with any of bits 5 to 7 set is
refused with RANGE (R173). An accepted one lets the producers that wait for report space go on: the head of the capture
queue is tried (R134), and then the decided run ends are checked again (R145), so that one whose input is in a frame is
decided no longer, an order that R170 gives for an acknowledgement only and that is the model's choice here (log entry
27). -/
def Obligations.ReportSelectAnswers : Prop :=
  ∀ (s : State) (c : CommandFrame) (b : Byte), s.takes c .reportSelect → c.payload = [b] →
    (b &&& 0xE0#8 ≠ 0#8 → exec .reportSelect s = .next (s.answered c [0x02#8])) ∧
      (b &&& 0xE0#8 = 0#8 → ∀ u : State, u = s.popCommand →
        exec .reportSelect s =
          .next ((((State.dispatch { u with line := { u.line with categories := b } }).recheckRunEnd 0).recheckRunEnd 1).replied c
            [0x00#8, b, s.line.categories]))

/-! ### The code table -/

/-- CODE_OPEN by its checks in order, and what an accepted one opens (R19, R20). The 22 bytes are read as the Code
header layout of chapter 11 gives, and the header is valid when every field is in its range and the sections suit the
mode (R2, R3). -/
def Obligations.CodeOpenAnswers : Prop :=
  ∀ (s : State) (c : CommandFrame) (p : List Byte), s.takes c .codeOpen → c.payload = p → p.length = 22 →
    (127 < byteAt p 0 → exec .codeOpen s = .next (s.answered c (reply .range (u8 (byteAt p 0))))) ∧
      ∀ i : SlotNo, i.val = byteAt p 0 →
        (s.slot i ≠ .empty → exec .codeOpen s = .next (s.answered c (reply .slotState (u8 i.val ++ u8 (s.slot i).code)))) ∧
          (∀ l, s.slot i = .empty → s.table.load = some l →
            exec .codeOpen s = .next (s.answered c (reply .busy (u8 i.val ++ u8 l.slot.val)))) ∧
          ∀ (h : Header) (valid : Prop) (n : Nat),
            h =
              { label := p.getD 1 0#8 ++ p.getD 2 0#8 ++ p.getD 3 0#8 ++ p.getD 4 0#8
                frequency := ((byteAt p 5 * 256 + byteAt p 6) * 256 + byteAt p 7) * 256 + byteAt p 8
                duty := byteAt p 9
                mode := if byteAt p 10 = 0 then .count else .hold
                repeatFigure := byteAt p 11
                leadCells := byteAt p 12 * 256 + byteAt p 13
                repeatCells := byteAt p 14 * 256 + byteAt p 15
                trailGap := ((byteAt p 16 * 256 + byteAt p 17) * 256 + byteAt p 18) * 256 + byteAt p 19
                matchable := decide (byteAt p 20 = 1)
                tolerance := byteAt p 21 } →
            (valid ↔
              (h.frequency = 0 ∨ (15000 ≤ h.frequency ∧ h.frequency ≤ 500000)) ∧
                (h.duty = 25 ∨ h.duty = 33 ∨ h.duty = 50) ∧ byteAt p 10 ≤ 1 ∧ byteAt p 20 ≤ 1 ∧
                (h.leadCells = 0 ∨ h.leadCells % 2 = 1) ∧ h.leadCells ≤ 1023 ∧
                (h.repeatCells = 0 ∨ h.repeatCells % 2 = 1) ∧ h.repeatCells ≤ 1023 ∧
                1 ≤ h.leadCells + h.repeatCells ∧ h.leadCells + h.repeatCells ≤ 1024 ∧
                (h.mode = .hold → h.repeatCells ≠ 0) ∧ (h.mode = .count → h.leadCells = 0 → 1 ≤ h.repeatFigure) ∧
                (h.mode = .count → h.repeatCells = 0 → h.repeatFigure = 0) ∧ 1000 ≤ h.trailGap ∧ h.trailGap ≤ 500000 ∧
                (h.tolerance = 0 ∨ (5 ≤ h.tolerance ∧ h.tolerance ≤ 50))) →
            n = (h.leadCells + h.repeatCells + 15) / 16 → s.slot i = .empty → s.table.load = none →
            (¬valid → exec .codeOpen s = .next (s.answered c (reply .range (u8 i.val)))) ∧
              (valid → s.table.freeBlocks < n →
                exec .codeOpen s = .next (s.answered c (reply .poolFull (u8 i.val ++ u16 n ++ u16 s.table.freeBlocks)))) ∧
              (valid → n ≤ s.table.freeBlocks →
                exec .codeOpen s =
                  .next (State.answered
                    { s with
                      table :=
                        { slots := s.table.slots.set i.val (.loading h []) i.isLt
                          freeBlocks := s.table.freeBlocks - n
                          load := some
                            { slot := i, header := h, nextOffset := 0, checksum := 0xFFFF#16
                              idle := { start := s.now, length := s.params.loadTimeout } }
                          learn := s.table.learn } }
                    c (reply .ok (u8 i.val ++ u8 n ++ u16 (s.table.freeBlocks - n)))))

/-- CODE_DATA of proper form by its checks in order, and what an accepted one stores (R22 to R24). -/
def Obligations.CodeDataAnswers : Prop :=
  ∀ (s : State) (c : CommandFrame) (offset : Nat) (cells : List Nat), s.takes c .codeData →
    1 ≤ byteAt c.payload 3 → byteAt c.payload 3 ≤ 112 → c.payload.length = 4 + 2 * byteAt c.payload 3 →
    offset = wordAt c.payload 1 → cells = cellsAt c.payload 4 (byteAt c.payload 3) →
    ((∀ l, s.table.load = some l → l.slot.val ≠ byteAt c.payload 0) →
      exec .codeData s = .next (s.answered c (reply .notLoading (u8 (byteAt c.payload 0))))) ∧
      ∀ l, s.table.load = some l → l.slot.val = byteAt c.payload 0 →
        (offset ≠ l.nextOffset →
          exec .codeData s = .next (s.answered c (reply .sequence (u8 l.slot.val ++ u16 l.nextOffset)))) ∧
          (offset = l.nextOffset → l.header.total < offset + cells.length →
            exec .codeData s = .next (s.answered c (reply .range (u8 l.slot.val ++ u16 l.nextOffset ++ [0xFF#8, 0xFF#8])))) ∧
          (∀ k d, offset = l.nextOffset → offset + cells.length ≤ l.header.total → cells[k]? = some d → d < 8 →
            (∀ m e, m < k → cells[m]? = some e → 8 ≤ e) →
            exec .codeData s = .next (s.answered c (reply .range (u8 l.slot.val ++ u16 l.nextOffset ++ u16 (offset + k))))) ∧
          ∀ h got, offset = l.nextOffset → offset + cells.length ≤ l.header.total → (∀ d ∈ cells, 8 ≤ d) →
            s.slot l.slot = .loading h got →
            exec .codeData s =
              .next (State.answered
                { s with
                  table :=
                    { s.table with
                      slots := s.table.slots.set l.slot.val (.loading h (got ++ cells)) l.slot.isLt
                      load := some
                        { l with
                          nextOffset := offset + cells.length
                          checksum := crcCells l.checksum cells
                          idle := { start := s.now, length := s.params.loadTimeout } } } }
                c (reply .ok (u8 l.slot.val ++ u16 (offset + cells.length))))

/-- CODE_CLOSE by its checks in order, the abandonment on a checksum that differs, and the completion on one that agrees
(R26 to R28). -/
def Obligations.CodeCloseAnswers : Prop :=
  ∀ (s : State) (c : CommandFrame), s.takes c .codeClose → c.payload.length = 3 →
    ((∀ l, s.table.load = some l → l.slot.val ≠ byteAt c.payload 0) →
      exec .codeClose s = .next (s.answered c (reply .notLoading (u8 (byteAt c.payload 0))))) ∧
      ∀ l, s.table.load = some l → l.slot.val = byteAt c.payload 0 →
        (l.nextOffset ≠ l.header.total →
          exec .codeClose s = .next (s.answered c (reply .incomplete (u8 l.slot.val ++ u16 l.nextOffset)))) ∧
          ∀ h got, l.nextOffset = l.header.total → s.slot l.slot = .loading h got →
            (wordAt c.payload 1 ≠ l.checksum.toNat →
              exec .codeClose s =
                .next (State.answered
                  { s with
                    table :=
                      { s.table with
                        slots := s.table.slots.set l.slot.val .empty l.slot.isLt
                        freeBlocks := s.table.freeBlocks + (h.leadCells + h.repeatCells + 15) / 16
                        load := none } }
                  c (reply .checksum (u8 l.slot.val ++ u16 l.checksum.toNat)))) ∧
              (wordAt c.payload 1 = l.checksum.toNat →
                exec .codeClose s =
                  .next (State.answered
                    { s with
                      table :=
                        { s.table with
                          slots :=
                            s.table.slots.set l.slot.val
                              (.ready { header := h, cells := got, checksum := l.checksum, refs := 0 }) l.slot.isLt
                          load := none } }
                    c (reply .ok (u8 l.slot.val ++ u16 l.checksum.toNat))))

/-- CODE_ERASE by the slot's state (R10). CODE_RETIRED on a RETIRING slot whose count is 0: it becomes EMPTY, its blocks
return and CODE_RETIRED with the label is produced; on any other slot nothing happens (R11; that the row may stand
alone, with a count that is 0 already, is the model's choice, log entry 11). -/
def Obligations.CodeErasedAndRetired : Prop :=
  (∀ (s : State) (i : SlotNo),
      ((∀ k, s.slot i = .retiring k → k.refs ≠ 0) → exec (.codeRetired i) s = .next s) ∧
        ∀ k, s.slot i = .retiring k → k.refs = 0 →
          exec (.codeRetired i) s =
            .next
              { s with
                table :=
                  { s.table with
                    slots := s.table.slots.set i.val .empty i.isLt
                    freeBlocks := s.table.freeBlocks + (k.header.leadCells + k.header.repeatCells + 15) / 16 }
                line := s.line.produce (.codeRetired i k.header.label) }) ∧
  ∀ (s : State) (c : CommandFrame) (b : Byte), s.takes c .codeErase → c.payload = [b] →
    (127 < b.toNat → exec .codeErase s = .next (s.answered c [0x02#8])) ∧
      ∀ i : SlotNo, i.val = b.toNat →
        (s.slot i = .empty → exec .codeErase s = .next (s.answered c [0x00#8, b, 0#8, 0#8])) ∧
          (∀ h got, s.slot i = .loading h got →
            exec .codeErase s =
              .next (State.answered
                { s with
                  table :=
                    { s.table with
                      slots := s.table.slots.set i.val .empty i.isLt
                      freeBlocks := s.table.freeBlocks + (h.leadCells + h.repeatCells + 15) / 16
                      load := none } }
                c [0x00#8, b, 1#8, 0#8])) ∧
          (∀ l, s.slot i = .learning → s.table.learn = some l → l.slot = i →
            exec .codeErase s = .next ((s.popCommand.endLearn l .cancelled 0 0).replied c [0x00#8, b, 2#8, 0#8])) ∧
          (∀ k, s.slot i = .ready k → k.refs = 0 →
            exec .codeErase s =
              .next (State.answered
                { s with
                  table :=
                    { s.table with
                      slots := s.table.slots.set i.val .empty i.isLt
                      freeBlocks := s.table.freeBlocks + (k.header.leadCells + k.header.repeatCells + 15) / 16 } }
                c [0x00#8, b, 3#8, 0#8])) ∧
          (∀ k, s.slot i = .ready k → k.refs ≠ 0 →
            exec .codeErase s =
              .next (State.answered
                { s with table := { s.table with slots := s.table.slots.set i.val (.retiring k) i.isLt } }
                c [0x00#8, b, 3#8, 1#8])) ∧
          ∀ k, s.slot i = .retiring k → exec .codeErase s = .next (s.answered c [0x00#8, b, 4#8, 1#8])

/-- CODE_AMEND by its checks in order; an accepted one replaces label, matchable and tolerance and nothing else (R12).
-/
def Obligations.CodeAmendAnswers : Prop :=
  ∀ (s : State) (c : CommandFrame) (b l3 l2 l1 l0 m t : Byte), s.takes c .codeAmend → c.payload = [b, l3, l2, l1, l0, m, t] →
    (127 < b.toNat → exec .codeAmend s = .next (s.answered c [0x02#8])) ∧
      ∀ i : SlotNo, i.val = b.toNat →
        ((s.slot i).isReady = false → exec .codeAmend s = .next (s.answered c [0x03#8])) ∧
          ∀ k, s.slot i = .ready k →
            (1 < m.toNat ∨ (t ≠ 0#8 ∧ (t.toNat < 5 ∨ 50 < t.toNat)) → exec .codeAmend s = .next (s.answered c [0x02#8])) ∧
              (m.toNat ≤ 1 → t = 0#8 ∨ (5 ≤ t.toNat ∧ t.toNat ≤ 50) →
                exec .codeAmend s =
                  .next (State.answered
                    { s with
                      table :=
                        { s.table with
                          slots :=
                            s.table.slots.set i.val
                              (.ready
                                { k with
                                  header :=
                                    { k.header with
                                      label := l3 ++ l2 ++ l1 ++ l0, matchable := decide (m = 1#8), tolerance := t.toNat } })
                              i.isLt } }
                    c [0x00#8, b]))

/-- CODE_INFO answers the slot's state with the fields that exist in it, the others as 0, and changes nothing (R13,
R168). -/
def Obligations.CodeInfoAnswers : Prop :=
  ∀ (s : State) (c : CommandFrame) (b : Byte), s.takes c .codeInfo → c.payload = [b] →
    (127 < b.toNat → exec .codeInfo s = .next (s.answered c [0x02#8])) ∧
      ∀ i : SlotNo, i.val = b.toNat →
        (s.slot i = .empty → exec .codeInfo s = .next (s.answered c ([0x00#8, b, 0#8, 0#8] ++ List.replicate 30 0#8))) ∧
          (∀ h got l, s.slot i = .loading h got → s.table.load = some l →
            exec .codeInfo s =
              .next (s.answered c
                ([0x00#8, b, 1#8, 0x0B#8] ++ headerBytes i h ++ [0#8] ++ u8 h.blocks ++ [0#8, 0#8] ++ u16 l.nextOffset ++
                  [0#8, 0#8]))) ∧
          (∀ l, s.slot i = .learning → s.table.learn = some l →
            exec .codeInfo s =
              .next (s.answered c
                ([0x00#8, b, 2#8, 0x10#8] ++ List.replicate 28 0#8 ++ u8 l.input.val ++ u8 l.taken))) ∧
          ∀ k, s.code? i = some k →
            exec .codeInfo s =
              .next (s.answered c
                ([0x00#8, b, BitVec.ofNat 8 (s.slot i).code, 0x07#8] ++ headerBytes i k.header ++ u8 k.refs ++
                  u8 k.header.blocks ++ u16 k.checksum.toNat ++ [0#8, 0#8, 0#8, 0#8]))

/-- CODE_READ by its checks in order; an accepted one answers a run of a READY or RETIRING code's cells, and none
changes any state (R14). -/
def Obligations.CodeReadAnswers : Prop :=
  ∀ (s : State) (c : CommandFrame) (b oh ol n : Byte) (offset : Nat), s.takes c .codeRead → c.payload = [b, oh, ol, n] →
    offset = oh.toNat * 256 + ol.toNat →
    (127 < b.toNat → exec .codeRead s = .next (s.answered c [0x02#8])) ∧
      ∀ i : SlotNo, i.val = b.toNat →
        ((s.slot i).isReady = false → (s.slot i).isRetiring = false → exec .codeRead s = .next (s.answered c [0x03#8])) ∧
          ∀ k, s.slot i = .ready k ∨ s.slot i = .retiring k →
            (n.toNat = 0 ∨ 112 < n.toNat → exec .codeRead s = .next (s.answered c [0x02#8])) ∧
              (1 ≤ n.toNat → n.toNat ≤ 112 → k.header.total < offset + n.toNat →
                exec .codeRead s = .next (s.answered c [0x02#8])) ∧
              (1 ≤ n.toNat → n.toNat ≤ 112 → offset + n.toNat ≤ k.header.total →
                exec .codeRead s =
                  .next (s.answered c ([0x00#8, b, oh, ol, n] ++ cellBytes ((k.cells.drop offset).take n.toNat))))

/-- POOL_INFO is always accepted, answers the free blocks, the numbers of READY and RETIRING slots and both contexts,
and changes no state (R15). -/
def Obligations.PoolInfoAnswers : Prop :=
  ∀ (s : State) (c : CommandFrame), s.takes c .poolInfo → c.payload = [] →
    exec .poolInfo s =
      .next (s.answered c
        ([0x00#8] ++ u16 s.table.freeBlocks ++ u8 (s.table.slots.toList.countP Slot.isReady) ++
          u8 (s.table.slots.toList.countP Slot.isRetiring) ++
          (match s.table.load with
            | none => [0#8, 0xFF#8]
            | some l => [1#8, BitVec.ofNat 8 l.slot.val]) ++
          (match s.table.learn with
            | none => [0#8, 0xFF#8]
            | some l => [1#8, BitVec.ofNat 8 l.slot.val])))

/-- LOAD_IDLE_TIMER_EXPIRY: when the idle timer is reached the load is abandoned and LOAD_ABANDONED is produced, joining
if any entry is free and otherwise lost with a rise of the lost count; a deselected category changes only that no report
is created (R30). Before that nothing happens. -/
def Obligations.LoadIdleExpires : Prop :=
  ∀ (s : State),
    (s.table.load = none → exec .loadIdleTimerExpiry s = .next s) ∧
      ∀ l h got, s.table.load = some l → s.slot l.slot = .loading h got →
        ((s.now - l.idle.start).toNat < l.idle.length → exec .loadIdleTimerExpiry s = .next s) ∧
          (l.idle.length ≤ (s.now - l.idle.start).toNat →
            exec .loadIdleTimerExpiry s =
              .next
                { s with
                  table :=
                    { s.table with
                      slots := s.table.slots.set l.slot.val .empty l.slot.isLt
                      freeBlocks := s.table.freeBlocks + (h.leadCells + h.repeatCells + 15) / 16
                      load := none }
                  line :=
                    if s.line.categories.getLsbD 0 = false then s.line
                    else if s.line.reports.length < 32 then
                      { s.line with
                        reports :=
                          s.line.reports ++
                            [{ sequence := s.line.nextSequence, type := 0x90#8, payload := u8 l.slot.val ++ u16 l.nextOffset
                               timesSent := 0, sent := false }]
                        nextSequence := (s.line.nextSequence + 1) % 256 }
                    else { s.line with lost := if s.line.lost < 65535 then s.line.lost + 1 else s.line.lost } })

/-! ### Jobs -/

/-- EMIT by its checks in order: the first that fails decides the reply, and a refused EMIT changes nothing else (R39,
R40). -/
def Obligations.EmitRefuses : Prop :=
  ∀ (s : State) (c : CommandFrame) (b zs cl ho ro kh kl vi : Byte) (keep : Nat), s.takes c .emit →
    c.payload = [b, zs, cl, ho, ro, kh, kl, vi] → keep = kh.toNat * 256 + kl.toNat →
    (127 < b.toNat → exec .emit s = .next (s.answered c [0x0A#8, b, 0xFF#8])) ∧
      ∀ i : SlotNo, i.val = b.toNat →
        ((s.slot i).isReady = false →
          exec .emit s = .next (s.answered c [0x0A#8, b, BitVec.ofNat 8 (s.slot i).code])) ∧
          ∀ k, s.slot i = .ready k →
            (¬emitCheck2 zs cl ho vi → exec .emit s = .next (s.answered c [0x02#8, b])) ∧
              (emitCheck2 zs cl ho vi →
                (zs &&& s.offZones ≠ 0#8 → exec .emit s = .next (s.answered c [0x0B#8, b, zs &&& s.offZones])) ∧
                  (zs &&& s.offZones = 0#8 →
                    (¬emitCheck4 k ho ro keep →
                      exec .emit s = .next (s.answered c [0x0E#8, b, BitVec.ofNat 8 k.header.mode.code])) ∧
                      (emitCheck4 k ho ro keep →
                        (¬emitCheck5 keep → exec .emit s = .next (s.answered c [0x02#8, b])) ∧
                          (emitCheck5 keep → ¬s.emitCheck6 vi → exec .emit s = .next (s.answered c [0x10#8, b, vi])) ∧
                          (emitCheck5 keep → s.emitCheck6 vi → ¬s.emitCheck6' k vi →
                            exec .emit s = .next (s.answered c [0x0E#8, b, BitVec.ofNat 8 k.header.mode.code])) ∧
                          (emitCheck5 keep → s.emitCheck6 vi → s.emitCheck6' k vi → 16 ≤ s.jobs.length →
                            exec .emit s = .next (s.answered c [0x0C#8, b, BitVec.ofNat 8 s.jobs.length])))))

/-- An EMIT that passes every check admits its request, answers with the new id and the live count, and then the start
arbiter runs (R41). That the live count is read after preemption marking is deduced (log entry 20). -/
def Obligations.EmitAdmits : Prop :=
  ∀ (s : State) (c : CommandFrame) (b zs cl ho ro kh kl vi : Byte) (keep : Nat) (i : SlotNo) (k : Code) (r : EmitRequest)
    (u : State),
    s.takes c .emit → c.payload = [b, zs, cl, ho, ro, kh, kl, vi] → keep = kh.toNat * 256 + kl.toNat → i.val = b.toNat →
    s.slot i = .ready k → emitCheck2 zs cl ho vi → zs &&& s.offZones = 0#8 → emitCheck4 k ho ro keep → emitCheck5 keep →
    s.emitCheck6 vi → s.emitCheck6' k vi → s.jobs.length < 16 → r = emitRequest i zs cl ho ro vi keep →
    u = s.popCommand.admitJob r →
    exec .emit s = .next (u.replied c ([0x00#8] ++ u8 (s.newJob r).id ++ u8 u.jobs.length)).runArbiter

/-- What an admission does (R41 to R45, R48): the id is the first value from the counter's on, wrapping from 255 to 1,
that no live job holds, and the counter moves to the value after it; the slot's count rises by one; a NORMAL job joins
at the tail; an URGENT job joins between the URGENT and the NORMAL jobs, of which those that play on its zones are
marked, and of these, in queue order, a paused one ends at once with PREEMPTED (its end action is the one
FRAME_BOUNDARY's statement gives); the record is WAITING with the request's fields and with no flag, count, timer or
verdict, but for a hold job its keep length, with which its keep timer runs from the admission. -/
def Obligations.AdmissionRecords : Prop :=
  ∀ (s : State) (r : EmitRequest) (k : Code) (j : Job), s.queueOrdered → s.jobs.length < 16 → s.slot r.slot = .ready k →
    j = s.newJob r →
    (isJobId j.id ∧ (∀ m ∈ s.jobs, m.id ≠ j.id) ∧ ((∀ m ∈ s.jobs, m.id ≠ s.nextId) → j.id = s.nextId) ∧
      (∃ n, n < 16 ∧ j.id = (s.nextId - 1 + n) % 255 + 1 ∧
        ∀ i, i < n → ∃ m ∈ s.jobs, m.id = (s.nextId - 1 + i) % 255 + 1) ∧
      j.slot = r.slot ∧ j.zones = r.zones ∧ j.cls = r.cls ∧ j.hold = r.hold ∧ j.repeatOverride = r.repeatOverride ∧
      j.keepInterval = r.keepInterval ∧ j.verifyInput = r.verifyInput ∧ j.state = .waiting ∧ j.admissionTime = s.now ∧
      j.framesSent = 0 ∧ j.repeatsSent = 0 ∧ j.generator = none ∧ j.startTime = none ∧ j.endReason = none ∧
      (r.hold = false → j.keepTimer = none) ∧
      (r.hold = true →
        j.keepTimer = some { start := s.now, length := r.keepInterval.getD s.params.keepInterval })) ∧
      (j.paused = false ∧ j.preemptPending = false ∧ j.released = false ∧ j.holdTimer = none ∧ j.pauseTimer = none ∧
        j.play = none ∧ j.endTime = none ∧ j.verify = { result := .none, seen := 0, matched := 0, mismatch := none } ∧
        j.keepLength = if r.hold then some (r.keepInterval.getD s.params.keepInterval) else none) ∧
      (r.cls = .normal →
        s.admitJob r =
          { s with
            table := { s.table with slots := s.table.slots.set r.slot.val (.ready { k with refs := k.refs + 1 }) r.slot.isLt }
            jobs := s.jobs ++ [j]
            nextId := if j.id = 255 then 1 else j.id + 1 }) ∧
      (r.cls = .urgent → (∀ m ∈ s.jobs, m.cls = .normal → m.paused = false) →
        s.admitJob r =
          { s with
            table := { s.table with slots := s.table.slots.set r.slot.val (.ready { k with refs := k.refs + 1 }) r.slot.isLt }
            jobs :=
              s.jobs.filter Job.isUrgent ++
                j :: (s.jobs.filter fun m => !m.isUrgent).map fun m =>
                  if (m.state = .running ∨ m.state = .draining) ∧ m.zones &&& r.zones ≠ 0#8 then
                    { m with preemptPending := true }
                  else m
            nextId := if j.id = 255 then 1 else j.id + 1 }) ∧
      (r.cls = .urgent →
        s.admitJob r =
          (s.jobs.filter fun m =>
            decide (m.cls = .normal ∧ (m.state = .running ∨ m.state = .draining) ∧ m.zones &&& r.zones ≠ 0#8)).foldl
            (fun u m =>
              let marked : State :=
                { u with jobs := u.jobs.map fun n => if n.id = m.id then { n with preemptPending := true } else n }
              if m.paused then marked.endJob m.id .preempted else marked)
            { s with
              table := { s.table with slots := s.table.slots.set r.slot.val (.ready { k with refs := k.refs + 1 }) r.slot.isLt }
              jobs := s.jobs.filter Job.isUrgent ++ j :: s.jobs.filter fun m => !m.isUrgent
              nextId := if j.id = 255 then 1 else j.id + 1 })

/-- JOB_KEEP and JOB_RELEASE by the first row of their tables that fits (R95, R97). -/
def Obligations.JobKeepAndReleaseAnswer : Prop :=
  ∀ (s : State) (c : CommandFrame) (b : Byte) (i : Instr), i = .jobKeep ∨ i = .jobRelease → s.takes c i → c.payload = [b] →
    (s.jobs.map Job.id).Nodup →
    ((∀ j ∈ s.jobs, j.id ≠ b.toNat) → exec i s = .next (s.answered c [0x0D#8, b])) ∧
      ∀ j ∈ s.jobs, j.id = b.toNat →
        (j.hold = false → exec i s = .next (s.answered c [0x0E#8, b])) ∧
          (j.hold = true →
            (j.state = .draining ∨ j.state = .settling ∨ (j.state = .waiting ∧ j.released = true)) →
            exec i s =
              .next (s.answered c
                ([0x0F#8, b] ++ u8 j.state.code ++ flag j.released ++ optional8 (j.endReason.map EndReason.code)))) ∧
          (i = .jobKeep → j.hold = true → (j.state = .waiting ∧ j.released = false) ∨ j.state = .running →
            exec i s =
              .next (State.answered
                { s with
                  jobs :=
                    s.jobs.map fun m =>
                      if m.id = j.id then
                        { j with keepTimer := j.keepLength.map fun n => { start := s.now, length := n } }
                      else m }
                c [0x00#8, b])) ∧
          (i = .jobRelease → j.hold = true → j.state = .waiting → j.released = false →
            exec i s =
              .next (State.answered
                { s with
                  jobs := s.jobs.map fun m => if m.id = j.id then { j with released := true, keepTimer := none } else m }
                c [0x00#8, b, 0#8])) ∧
          (i = .jobRelease → j.hold = true → j.state = .running →
            exec i s =
              .next (State.answered
                { s with
                  jobs :=
                    s.jobs.map fun m =>
                      if m.id = j.id then
                        { j with state := .draining, endReason := some .released, keepTimer := none, holdTimer := none }
                      else m }
                c [0x00#8, b, 2#8]))

/-- JOB_CANCEL ends a live job at once and then the start arbiter runs: the record leaves the queue, the zones the job
owned go into GUARD or, with GUARD_TIME 0, to IDLE, and the reference falls; a WAITING job is reported with CANCELLED,
and its record's counts. A RUNNING or DRAINING one has the mark in progress cut and takes its end action with CANCELLED
(R87; the end action is the one FRAME_BOUNDARY's statement gives; the cut's place ahead of it: log entry 26), and a
SETTLING one is reported with its verify ABANDONED. A verify input bound to the job is given back in its saved mode
(R160). An id that no live job has is answered UNKNOWN_JOB (R100, R104, R106, R107). -/
def Obligations.JobCancelAnswers : Prop :=
  ∀ (s : State) (c : CommandFrame) (b : Byte), s.takes c .jobCancel → c.payload = [b] →
    ((∀ j ∈ s.jobs, j.id ≠ b.toNat) → exec .jobCancel s = .next (s.answered c [0x0D#8, b])) ∧
      ∀ j, s.job? b.toNat = some j →
        ∃ u : State, exec .jobCancel s = .next (u.replied c ([0x00#8, b] ++ u8 j.state.code)).runArbiter ∧
          (j.state ≠ .settling → s.jobGone j u) ∧
          (j.state = .settling → u.jobs = s.jobs.filter (fun m => decide (m.id ≠ j.id)) ∧ u.zones = s.zones ∧
            u.generators = s.generators ∧ u.captures = s.captures ∧
            ∀ i, u.slot i = if i = j.slot then (s.slot i).withoutReference else s.slot i) ∧
          (j.state = .waiting → u = s.popCommand.endJob j.id .cancelled) ∧
          (j.state = .running ∨ j.state = .draining →
            (j.play = none → u = s.popCommand.endJob j.id .cancelled) ∧
              ∀ p, j.play = some p → u = (s.popCommand.markEnds (s.clock - p.since) p.sampled).endJob j.id .cancelled) ∧
          (∀ v r, j.verifyInput = some v → (s.input v).verify = some r → r.job = j.id →
            (u.input v).verify = none ∧ (u.input v).mode = (s.input v).savedMode.getD (s.input v).mode ∧
              (j.state = .settling → u.inputs = (s.popCommand.givenBack v).inputs ∧
                (s.popCommand.givenBack v).endReported
                  { j with verify := { result := .abandoned, seen := r.seen, matched := r.matched, mismatch := none } } u)) ∧
          (j.state = .waiting → j.verifyInput = none → s.line.categories.getLsbD 1 = true → s.line.reports.length < 32 →
            ∀ k, s.slot j.slot = .ready k →
            u.line.reports =
              s.line.reports ++
                [{ sequence := s.line.nextSequence, type := 0xA1#8
                   payload :=
                    jobEndBytes
                      { j with
                        generator := none, keepTimer := none, holdTimer := none, pauseTimer := none, play := none
                        endReason := some .cancelled, endTime := some s.now }
                      k.header.label
                   timesSent := 0, sent := false }])

/-- JOB_LIST is always accepted and answers the number of live jobs and a pair of id and state for each, in queue order;
with 16 live jobs the payload holds 34 bytes. It changes no state (R51). -/
def Obligations.JobListAnswers : Prop :=
  ∀ (s : State) (c : CommandFrame), s.takes c .jobList → c.payload = [] →
    ∃ p, exec .jobList s = .next (s.answered c p) ∧ p = 0x00#8 :: (u8 s.jobs.length ++ s.jobs.flatMap fun j =>
      [BitVec.ofNat 8 j.id, BitVec.ofNat 8 j.state.code]) ∧ p.length = 1 + 1 + 2 * s.jobs.length

/-- KEEP_TIMER_EXPIRY: when a job's keep timer is reached, a WAITING job is removed with JOB_END KEEP_LAPSED (R106,
R107) and the start arbiter runs, and a RUNNING job becomes DRAINING with KEEP_LAPSED and its hold limit timer stopped.
Before that, and in any other state, nothing happens (R92). A WAITING job has no verify input bound (R105), which is
asked of it here. -/
def Obligations.KeepTimerExpires : Prop :=
  ∀ (s : State) (j : Job), s.job? j.id = some j →
    (s.due j.keepTimer = false ∨ j.state = .draining ∨ j.state = .settling → exec (.keepTimerExpiry j.id) s = .next s) ∧
      (s.due j.keepTimer = true → j.state = .waiting → s.notBound j →
        ∃ u : State, exec (.keepTimerExpiry j.id) s = .next u.runArbiter ∧ s.jobGone j u ∧
          s.endReported (s.endRecord j .keepLapsed) u) ∧
      (s.due j.keepTimer = true → j.state = .running →
        exec (.keepTimerExpiry j.id) s =
          .next
            { s with
              jobs :=
                s.jobs.map fun m =>
                  if m.id = j.id then
                    { m with state := .draining, endReason := some .keepLapsed, keepTimer := none, holdTimer := none }
                  else m })

/-- HOLD_LIMIT_EXPIRY: when the hold limit timer of a RUNNING job expires the job becomes DRAINING with HOLD_LIMIT and
its keep timer stops; its pause and its frame in progress stay as they are. In any other state, and before the timer is
reached, nothing happens (R93). -/
def Obligations.HoldLimitExpires : Prop :=
  ∀ (s : State) (j : Job), s.job? j.id = some j →
    (s.due j.holdTimer = true → j.state = .running →
      exec (.holdLimitExpiry j.id) s =
        .next
          { s with
            jobs :=
              s.jobs.map fun m =>
                if m.id = j.id then
                  { m with state := .draining, endReason := some .holdLimit, keepTimer := none, holdTimer := none }
                else m }) ∧
      (s.due j.holdTimer = false ∨ j.state ≠ .running → exec (.holdLimitExpiry j.id) s = .next s)

/-- PAUSE_LIMIT_EXPIRY ends a paused job with DUTY_LIMIT: it is removed with a JOB_END of that reason, its counts and
the time of the expiry, or enters SETTLING when its verify input is bound (R122, R105 to R107). PAUSE_CLEAR, once none
of the job's zones is held off, clears the pause and takes the boundary decision again: a job that is marked for
preemption or has no frame due ends and is reported with PREEMPTED, COMPLETED or its drain reason, and any other begins
its next repeat frame. Otherwise neither does anything (R121, R83 to R85). R121 ties the check to a decay step; that the
row PAUSE_CLEAR may stand alone is the model's choice (log entry 11). -/
def Obligations.PausesEnd : Prop :=
  ∀ (s : State) (j : Job) (k : Code), s.job? j.id = some j → s.code? j.slot = some k →
    ∀ (due : Prop) (reason : EndReason),
      (due ↔ match k.header.mode with
        | .count => j.repeatsSent < (if k.header.repeatCells = 0 then 0 else j.repeatOverride.getD k.header.repeatFigure)
        | .hold => j.state = .draining → j.repeatsSent < k.header.repeatFigure) →
      reason =
        (if j.preemptPending then .preempted
        else match k.header.mode with
          | .count => .completed
          | .hold => j.endReason.getD .completed) →
      (j.paused = false ∨ s.due j.pauseTimer = false → exec (.pauseLimitExpiry j.id) s = .next s) ∧
        (j.paused = true → s.due j.pauseTimer = true →
          (s.notBound j → ∃ u : State, exec (.pauseLimitExpiry j.id) s = .next u.runArbiter ∧ s.jobGone j u ∧
            s.endReported (s.endRecord j .dutyLimit) u) ∧
            ∀ v r, (s.jobs.map Job.id).Nodup → j.verifyInput = some v → (s.input v).verify = some r → r.job = j.id →
              ∃ u : State, exec (.pauseLimitExpiry j.id) s = .next (u.checkSettled v).runArbiter ∧
                s.jobSettles j .dutyLimit u) ∧
        (j.paused = false ∨ (∃ z g, ZoneSet.has j.zones z = true ∧ (s.zone z).inForce = some (g, .holdOff)) →
          exec (.pauseClear j.id) s = .next s) ∧
        (j.paused = true → (∀ z g, ZoneSet.has j.zones z = true → (s.zone z).inForce ≠ some (g, .holdOff)) →
          (j.preemptPending = true ∨ ¬due →
            (s.notBound j → ∃ u : State, exec (.pauseClear j.id) s = .next u.runArbiter ∧ s.jobGone j u ∧
              s.endReported (s.endRecord j reason) u) ∧
              ∀ v r, (s.jobs.map Job.id).Nodup → j.verifyInput = some v → (s.input v).verify = some r → r.job = j.id →
                reason ≠ .cancelled → reason ≠ .zoneDisabled →
                ∃ u : State, exec (.pauseClear j.id) s = .next (u.checkSettled v).runArbiter ∧
                  s.jobSettles j reason u) ∧
            (j.preemptPending = false → due →
              exec (.pauseClear j.id) s =
                .next
                  { s with
                    jobs :=
                      s.jobs.map fun m =>
                        if m.id = j.id then
                          { m with
                            paused := false, pauseTimer := none
                            play :=
                              some
                                { kind := .rep, phase := .inSection 0, since := s.clock
                                  sampled := (zonesOf j.zones).map fun z => (z, (s.zone z).drive) } }
                        else m }))

/-- A run of the start arbiter scans the WAITING jobs in queue order and starts each whose zones are IDLE, are wanted by
no WAITING job ahead of it that is held back, and that obtains a carrier: none, when its code's frequency is 0, else the
generator with its carrier, else the lowest FREE one (R67, R69, R70). So a run that can start no job changes nothing,
and any other is the start of the first job that can start, followed by a run. The start makes the job's zones ACTIVE
with it as owner and no other zone changes; it becomes RUNNING with its hold limit timer, or DRAINING with RELEASED when
it was released; JOB_START is produced, its verify input is bound, and the first mark of its first frame begins (R71,
R75). JOB_START of that job is that start, and of any other job nothing (that the row may stand alone is the model's
choice, log entry 11). -/
def Obligations.JobStarts : Prop :=
  (∀ (s : State) (h : Header) (same : Carrier → Prop), (same = fun c => c.frequency = h.frequency ∧ c.duty = h.duty) →
    (h.frequency = 0 → s.obtainCarrier h = some none) ∧
      (h.frequency ≠ 0 →
        (∀ (g : Fin 4) c, s.generators[g] = some c → same c →
            (∀ (g' : Fin 4) c', g' < g → s.generators[g'] = some c' → ¬same c') →
          s.obtainCarrier h = some (some g)) ∧
          ((∀ (g : Fin 4) c, s.generators[g] = some c → ¬same c) →
            (∀ g : Fin 4, s.generators[g] = none → (∀ g' : Fin 4, g' < g → s.generators[g'] ≠ none) →
              s.obtainCarrier h = some (some g)) ∧
              ((∀ g : Fin 4, s.generators[g] ≠ none) → s.obtainCarrier h = none)))) ∧
  ∀ (s : State), (s.jobs.map Job.id).Nodup →
    (s.noneStarts s.jobs → s.runArbiter = s ∧ ∀ id, exec (.jobStart id) s = .next s) ∧
      ∀ before j behind h g, s.jobs = before ++ j :: behind → s.noneStarts before → s.mayStart before j h g →
        (∀ id, id ≠ j.id → exec (.jobStart id) s = .next s) ∧
          ∃ t, exec (.jobStart j.id) s = .next t ∧ s.runArbiter = t.runArbiter ∧
            (∀ z, t.zone z =
              if ZoneSet.has j.zones z = true then { s.zone z with state := .active j.id } else s.zone z) ∧
            t.jobs =
              s.jobs.map (fun m =>
                if m.id = j.id then
                  { j with
                    generator := g
                    state := if j.released then .draining else .running
                    endReason := if j.released then some .released else j.endReason
                    startTime := some s.now
                    holdTimer :=
                      if j.released then j.holdTimer
                      else if j.hold then some { start := s.now, length := s.params.holdLimit * 1000 } else none
                    play :=
                      some
                        { kind := if h.leadCells = 0 then .rep else .lead, phase := .inSection 0, since := s.clock
                          sampled := (zonesOf j.zones).map fun z => (z, (s.zone z).drive) } }
                else m) ∧
            t.generators =
              (match g with
                | none => s.generators
                | some n =>
                  s.generators.set n.val
                    (some
                      (match s.generators[n] with
                        | none => { frequency := h.frequency, duty := h.duty, users := 1 }
                        | some k => { k with users := k.users + 1 })) n.isLt) ∧
            t.line = s.line.produce (.jobStart j.id j.slot j.zones s.now) ∧ t.table = s.table ∧ t.captures = s.captures ∧
            (∀ v, j.verifyInput = some v →
              (t.input v).mode = .verify ∧ (t.input v).savedMode = some (s.input v).mode ∧
                (t.input v).verify =
                  some
                    { job := j.id, firstFrame := (s.input v).frameNext, emitted := 0, seen := 0, matched := 0
                      mismatch := none }) ∧
            ∀ v, j.verifyInput ≠ some v → t.input v = s.input v

/-- CELL_END, once the cell being played has lasted its stored value: a mark's end is handed to the load monitor for
each zone with the drive it sampled, and its space begins with every output off, or the trail gap after the section's
last mark, of which the verifier is told when the job's verify input is bound; a space's end begins the next mark, each
zone sampling its drive. Before that nothing happens (R77 to R81). A mark end raises the zone's load estimate by the
mark's length times the drive over 800, rounded down and saturating at 65,535, and no other zone's (R111); then the
first group of G0 to G3 that qualifies comes into force, the drive level follows, and ZONE_DERATE is produced when the
group has changed (R116 to R118). The zones of one mark take its end one after another (R80; the order: log entry 26). A
zone output is on in its owner's marks alone, at the drive sampled, with the wave of the job's generator or steadily
without one (R56, R78). -/
def Obligations.CellEnds : Prop :=
  (∀ (s : State) (z w : ZoneNo) (d v : Nat),
    ((s.markEnd z d v).zone w).load = if w = z then min 65535 ((s.zone z).load + d * v / 800) else (s.zone w).load) ∧
  (∀ (s : State) (d : Nat) (sampled : List (ZoneNo × Nat)),
    s.markEnds d sampled = sampled.foldl (fun u p => u.markEnd p.1 d p.2) s) ∧
  (∀ (s : State) (z : ZoneNo) (d v load : Nat) (x : Zone) (q : GroupNo → Prop), x = s.zone z →
    load = min 65535 (x.load + d * v / 800) →
    (∀ g, q g ↔ (s.groups[g]).enabled = true ∧ ZoneSet.has (s.groups[g]).mask z = true ∧
      ((s.groups[g]).threshold ≤ load ∨
        ((∃ a, x.inForce = some (g, a)) ∧ (s.groups[g]).threshold - s.params.derateHysteresis ≤ load))) →
    (∀ g, q g → (∀ g', g' < g → ¬q g') →
      s.markEnd z d v =
        { s with
          zones :=
            s.zones.set z.val
              { x with
                load := load, inForce := some (g, (s.groups[g]).action)
                drive :=
                  match (s.groups[g]).action with
                  | .drive n => n
                  | .holdOff => 8 } z.isLt
          line :=
            if x.inForce.map Prod.fst = some g then s.line else s.line.produce (.zoneDerate z (some g) load s.now) }) ∧
      ((∀ g, ¬q g) →
        s.markEnd z d v =
          { s with
            zones := s.zones.set z.val { x with load := load, inForce := none, drive := 8 } z.isLt
            line := if x.inForce = none then s.line else s.line.produce (.zoneDerate z none load s.now) })) ∧
  (∀ (s : State) (z : ZoneNo),
    ((∀ o, (s.zone z).state ≠ .active o) → s.output z = .dark) ∧
      ∀ o j, (s.zone z).state = .active o → s.job? o = some j →
        (j.play = none → s.output z = .dark) ∧
          ∀ p, j.play = some p →
            (p.sampled = [] → s.output z = .dark) ∧
              ∀ drives : ZoneNo → Nat, p.sampled = ((zonesOf j.zones).map fun w => (w, drives w)) →
                ZoneSet.has j.zones z = true →
                s.output z =
                  match j.generator with
                  | some g => .carrier g (drives z)
                  | none => .steady (drives z)) ∧
  ∀ (s : State) (j : Job) (p : Play) (k : Code) (n d : Nat), s.job? j.id = some j → j.play = some p →
    s.code? j.slot = some k → p.phase = .inSection n → (k.section p.kind)[n]? = some d →
    ∀ goTo : State → Play → State,
      (goTo = fun u q => { u with jobs := u.jobs.map fun m => if m.id = j.id then { m with play := some q } else m }) →
      (s.clock < p.since + d → exec (.cellEnd j.id) s = .next s) ∧
        (p.since + d ≤ s.clock →
          (n % 2 = 0 → n + 1 < (k.section p.kind).length →
            exec (.cellEnd j.id) s =
              .next (goTo (s.markEnds d p.sampled)
                { kind := p.kind, phase := .inSection (n + 1), since := s.clock, sampled := [] })) ∧
            (n % 2 = 0 → (k.section p.kind).length ≤ n + 1 →
              ∀ t, t = goTo (s.markEnds d p.sampled) { kind := p.kind, phase := .trail, since := s.clock, sampled := [] } →
                (s.notBound j → exec (.cellEnd j.id) s = .next t) ∧
                  ∀ v r, j.verifyInput = some v → (s.input v).verify = some r → r.job = j.id →
                    exec (.cellEnd j.id) s =
                      .next
                        { t with
                          inputs :=
                            s.inputs.set v.val
                              { s.input v with
                                verify :=
                                  some { r with emitted := if r.emitted < 65535 then r.emitted + 1 else r.emitted } }
                              v.isLt }) ∧
            (n % 2 = 1 →
              exec (.cellEnd j.id) s =
                .next (goTo s
                  { kind := p.kind, phase := .inSection (n + 1), since := s.clock
                    sampled := (zonesOf j.zones).map fun z => (z, (s.zone z).drive) })))

/-- FRAME_BOUNDARY, once the trail gap is complete: the frame is counted, both counts standing still at 65,535, and
then, in this order, a job marked for preemption ends, a job with no frame due ends, a job with a zone held off is
paused with its pause timer, and any other begins its next repeat frame; neither changes another job's record. Before
that nothing happens (R82 to R85). The end action of a job with a reason (R104 to R107): its zones go into GUARD, its
generator and its reference are given up, it is reported with the reason, its counts and the end time, and its record
leaves the queue; with its verify input bound it enters SETTLING and the settling check is made (R105, R158), but for
CANCELLED and ZONE_DISABLED, where the input is given back first and the verify is reported ABANDONED (R160). -/
def Obligations.FrameBoundaryDecides : Prop :=
  (∀ (s : State) (j : Job) (reason : EndReason), s.job? j.id = some j →
    (s.notBound j → s.jobGone j (s.endJob j.id reason) ∧ s.endReported (s.endRecord j reason) (s.endJob j.id reason)) ∧
      ∀ v r, j.verifyInput = some v → (s.input v).verify = some r → r.job = j.id →
        (reason = .cancelled ∨ reason = .zoneDisabled →
          s.jobGone j (s.endJob j.id reason) ∧ (s.endJob j.id reason).inputs = (s.givenBack v).inputs ∧
            (s.givenBack v).endReported (s.endRecord j reason) (s.endJob j.id reason)) ∧
          (reason ≠ .cancelled → reason ≠ .zoneDisabled → (s.jobs.map Job.id).Nodup →
            ∃ u : State, s.jobSettles j reason u ∧ s.endJob j.id reason = u.checkSettled v)) ∧
  ∀ (s : State) (j : Job) (p : Play) (k : Code) (sent reps : Nat), s.job? j.id = some j → j.play = some p →
    s.code? j.slot = some k → p.phase = .trail → sent = (if j.framesSent < 65535 then j.framesSent + 1 else j.framesSent) →
    reps = (if j.framesSent < 65535 ∧ p.kind = .rep then j.repeatsSent + 1 else j.repeatsSent) →
    ∀ (due : Prop) (reason : EndReason) (goesOn : Job → Prop),
      (goesOn = fun m =>
        ∃ t, exec (.frameBoundary j.id) s = .next t ∧ { t with jobs := s.jobs } = s ∧ t.job? j.id = some m ∧
          ((s.jobs.map Job.id).Nodup → t.jobs = s.jobs.map fun n => if n.id = j.id then m else n)) →
      (due ↔ match k.header.mode with
        | .count => reps < (if k.header.repeatCells = 0 then 0 else j.repeatOverride.getD k.header.repeatFigure)
        | .hold => j.state = .draining → reps < k.header.repeatFigure) →
      reason =
        (if j.preemptPending then .preempted
        else match k.header.mode with
          | .count => .completed
          | .hold => j.endReason.getD .completed) →
      (s.clock < p.since + k.header.trailGap → exec (.frameBoundary j.id) s = .next s) ∧
        (p.since + k.header.trailGap ≤ s.clock →
          (j.preemptPending = true ∨ ¬due →
            (s.notBound j → ∃ u : State, exec (.frameBoundary j.id) s = .next u.runArbiter ∧ s.jobGone j u ∧
              s.endReported (s.endRecord { j with framesSent := sent, repeatsSent := reps } reason) u) ∧
              ∀ v r, (s.jobs.map Job.id).Nodup → j.verifyInput = some v → (s.input v).verify = some r → r.job = j.id →
                reason ≠ .cancelled → reason ≠ .zoneDisabled →
                ∃ u : State, exec (.frameBoundary j.id) s = .next (u.checkSettled v).runArbiter ∧
                  s.jobSettles { j with framesSent := sent, repeatsSent := reps } reason u) ∧
            (j.preemptPending = false → due →
              (∃ z g, ZoneSet.has j.zones z = true ∧ (s.zone z).inForce = some (g, .holdOff)) →
              goesOn
                { j with
                  framesSent := sent, repeatsSent := reps, paused := true
                  pauseTimer := some { start := s.now, length := s.params.pauseLimit }
                  play := some { p with phase := .atBoundary, sampled := [] } }) ∧
            (j.preemptPending = false → due →
              (∀ z g, ZoneSet.has j.zones z = true → (s.zone z).inForce ≠ some (g, .holdOff)) →
              goesOn
                { j with
                  framesSent := sent, repeatsSent := reps
                  play :=
                    some
                      { kind := .rep, phase := .inSection 0, since := s.clock
                        sampled := (zonesOf j.zones).map fun z => (z, (s.zone z).drive) } }))

/-! ### Zones and derate groups -/

/-- JOB_INFO answers the record of a live job field by field, or UNKNOWN_JOB (R50), and ZONE_INFO a zone's record (R64),
as they stand; neither changes any state. -/
def Obligations.JobAndZoneInfoAnswer : Prop :=
  (∀ (s : State) (c : CommandFrame) (b : Byte), s.takes c .jobInfo → c.payload = [b] →
      ((∀ j ∈ s.jobs, j.id ≠ b.toNat) → exec .jobInfo s = .next (s.answered c [0x0D#8, b])) ∧
        ∀ j k, s.job? b.toNat = some j → s.code? j.slot = some k →
          exec .jobInfo s =
            .next (s.answered c
              ([0x00#8, b] ++ u8 j.slot.val ++ u32 k.header.label ++ [j.zones] ++ u8 j.cls.code ++ flag j.hold ++
                optional8 j.repeatOverride ++ u16 (j.keepInterval.getD 0) ++ u16 (j.keepLength.getD 0) ++
                optional8 (j.verifyInput.map Fin.val) ++ u8 j.state.code ++ flag j.paused ++ flag j.preemptPending ++
                flag j.released ++ u16 j.framesSent ++ u16 j.repeatsSent ++ optional8 (j.generator.map Fin.val) ++
                u32 j.admissionTime ++ flag j.startTime.isSome ++ u32 (j.startTime.getD 0#32) ++
                optional8 (j.endReason.map EndReason.code)))) ∧
  ∀ (s : State) (c : CommandFrame) (b : Byte), s.takes c .zoneInfo → c.payload = [b] →
    (7 < b.toNat → exec .zoneInfo s = .next (s.answered c [0x02#8])) ∧
      ∀ z : ZoneNo, z.val = b.toNat → ∀ p : List Byte,
        p = u8 (s.zone z).drive ++ u16 (s.zone z).load ++
          (match (s.zone z).inForce with
            | none => [0xFF#8]
            | some (g, _) => u8 g.val) →
        ((s.zone z).state = .off →
          exec .zoneInfo s = .next (s.answered c ([0x00#8, b, 0#8, 0#8] ++ p ++ [0xFF#8]))) ∧
          ((s.zone z).state = .idle →
            exec .zoneInfo s = .next (s.answered c ([0x00#8, b, 1#8, 0#8] ++ p ++ [0xFF#8]))) ∧
          (∀ o, (s.zone z).state = .active o →
            exec .zoneInfo s = .next (s.answered c ([0x00#8, b, 2#8, BitVec.ofNat 8 o] ++ p ++ [0xFF#8]))) ∧
          ∀ t : Timer, (s.zone z).state = .guard t →
            exec .zoneInfo s =
              .next (s.answered c ([0x00#8, b, 3#8, 0#8] ++ p ++ u8 (t.length - (s.now - t.start).toNat)))

/-- ZONE_ENABLE brings the OFF zones of its set to IDLE with the rest of their records kept, and the start arbiter runs
after the reply when a zone changed (R60). ZONE_DISABLE ends every job that names one of its zones and is not SETTLING,
brings every zone of the set to OFF, puts the other zones of those jobs into GUARD, and the start arbiter runs after the
reply (R61, R62): each of these jobs in queue order has its mark in progress cut and takes its end action with
ZONE_DISABLED, which reports it (the end action is the one FRAME_BOUNDARY's statement gives; the cut's place ahead of
it: log entry 26). An empty set is refused with RANGE. -/
def Obligations.ZonesEnabledAndDisabled : Prop :=
  ∀ (s : State) (c : CommandFrame) (zs : Byte), c.payload = [zs] →
    (s.takes c .zoneEnable →
      (zs = 0#8 → exec .zoneEnable s = .next (s.answered c [0x02#8])) ∧
        (zs ≠ 0#8 →
          ∃ u : State, { u with zones := s.zones } = s.popCommand ∧
            (∀ z, u.zone z =
              if ZoneSet.has zs z = true ∧ (s.zone z).state = .off then { s.zone z with state := .idle } else s.zone z) ∧
            exec .zoneEnable s =
              .next
                (if zs &&& s.offZones = 0#8 then u.replied c [0x00#8, zs &&& s.offZones, u.offZones]
                else (u.replied c [0x00#8, zs &&& s.offZones, u.offZones]).runArbiter))) ∧
      (s.takes c .zoneDisable →
        (zs = 0#8 → exec .zoneDisable s = .next (s.answered c [0x02#8])) ∧
          (zs ≠ 0#8 → (s.jobs.map Job.id).Nodup →
            ∀ ended : Job → Bool, (ended = fun j => decide (j.state ≠ .settling ∧ j.zones &&& zs ≠ 0#8)) →
            ∃ u : State, u.jobs = s.jobs.filter (fun j => !ended j) ∧
              (∀ z, (u.zone z).state =
                if ZoneSet.has zs z = true then .off
                else if ∃ j ∈ s.jobs, ended j = true ∧ (s.zone z).state = .active j.id then
                  if s.params.guardTime = 0 then .idle else .guard { start := s.now, length := s.params.guardTime }
                else (s.zone z).state) ∧
              u.captures = s.captures ∧ u.table.load = s.table.load ∧ u.table.learn = s.table.learn ∧
              (∀ i, (∀ j ∈ s.jobs, ended j = true → j.slot ≠ i) → u.slot i = s.slot i) ∧
              (∀ w : State,
                w =
                  (s.jobs.filter ended).foldl
                    (fun w j =>
                      State.endJob
                        (match j.play with
                          | none => w
                          | some p => w.markEnds (s.clock - p.since) p.sampled) j.id .zoneDisabled) s.popCommand →
                (∀ z, u.zone z = if ZoneSet.has zs z = true then { w.zone z with state := .off } else w.zone z) ∧
                  { u with zones := w.zones } = w) ∧
              exec .zoneDisable s =
                .next (u.replied c
                  ([0x00#8, zs &&& ~~~s.offZones, u.offZones] ++ u8 (s.jobs.filter ended).length)).runArbiter))

/-- DERATE_SET replaces the four fields of a group together and changes nothing else, or refuses a group above 3 or a
field out of range with RANGE (R114). -/
def Obligations.DerateSetAnswers : Prop :=
  ∀ (s : State) (c : CommandFrame) (b e th tl a m : Byte), s.takes c .derateSet → c.payload = [b, e, th, tl, a, m] →
    (3 < b.toNat ∨ 1 < e.toNat ∨ th.toNat * 256 + tl.toNat = 0 ∨ 7 < a.toNat →
      exec .derateSet s = .next (s.answered c [0x02#8])) ∧
      ∀ g : GroupNo, g.val = b.toNat → e.toNat ≤ 1 → 1 ≤ th.toNat * 256 + tl.toNat → a.toNat ≤ 7 →
        exec .derateSet s =
          .next (State.answered
            { s with
              groups :=
                s.groups.set g.val
                  { enabled := decide (e = 1#8), threshold := th.toNat * 256 + tl.toNat
                    action := if a = 0#8 then .holdOff else .drive a.toNat, mask := m } g.isLt }
            c [0x00#8, b])

/-- DERATE_GET refuses a group above 3 with RANGE, and otherwise answers the group's settings as they stand, in the
encoding of DERATE_SET; it changes no state (R115). -/
def Obligations.DerateGetAnswers : Prop :=
  ∀ (s : State) (c : CommandFrame) (b : Byte), s.takes c .derateGet → c.payload = [b] →
    (3 < b.toNat → exec .derateGet s = .next (s.answered c [0x02#8])) ∧
      ∀ g : GroupNo, g.val = b.toNat →
        exec .derateGet s =
          .next (s.answered c
            ([0x00#8, b, if (s.groups[g]).enabled then 1#8 else 0#8] ++ u16 (s.groups[g]).threshold ++
              [match (s.groups[g]).action with
                | .holdOff => 0#8
                | .drive n => BitVec.ofNat 8 n, (s.groups[g]).mask]))

/-- DECAY_STEP, every 10 ms: the zone's load estimate falls by LOAD_DECAY and stops at 0, the first group of G0 to G3
that qualifies comes into force with its action, the drive level follows, and ZONE_DERATE is produced when the group has
changed. No other zone changes. Before its instant nothing happens (R112, R116 to R118). When the zone's owner is paused
the pause clearing check follows: with a zone of the job still held off nothing more happens, and otherwise the pause
clears as PAUSE_CLEAR gives, so that a job with a frame due begins it (R121, R85). GUARD_EXPIRY: when a zone's guard is
reached the zone becomes IDLE, the rest of its record and every other zone stay, and the start arbiter runs; before
that, and on a zone not in GUARD, nothing happens (R58). -/
def Obligations.ZoneTimersExpire : Prop :=
  (∀ (s : State) (z : ZoneNo),
      ((∀ t, (s.zone z).state = .guard t → t.reached s.now = false) → exec (.guardExpiry z) s = .next s) ∧
        ∀ t, (s.zone z).state = .guard t → t.reached s.now = true →
          ∃ u : State, exec (.guardExpiry z) s = .next u.runArbiter ∧ { u with zones := s.zones } = s ∧
            ∀ w, u.zone w = if w = z then { s.zone z with state := .idle } else s.zone w) ∧
  ∀ (s : State) (z : ZoneNo) (x : Zone), x = s.zone z →
    (s.clock < x.nextDecay → exec (.decayStep z) s = .next s) ∧
      (x.nextDecay ≤ s.clock →
        ∀ (load : Nat) (q : GroupNo → Prop) (t : State), load = x.load - s.params.loadDecay →
          (∀ g, q g ↔ (s.groups[g]).enabled = true ∧ ZoneSet.has (s.groups[g]).mask z = true ∧
            ((s.groups[g]).threshold ≤ load ∨
              ((∃ a, x.inForce = some (g, a)) ∧ (s.groups[g]).threshold - s.params.derateHysteresis ≤ load))) →
          ((∃ g, q g ∧ (∀ g', g' < g → ¬q g') ∧
              t =
                { s with
                  zones :=
                    s.zones.set z.val
                      { state := x.state
                        drive :=
                          match (s.groups[g]).action with
                          | .drive n => n
                          | .holdOff => 8
                        load := load
                        inForce := some (g, (s.groups[g]).action)
                        nextDecay := x.nextDecay + 10000 } z.isLt
                  line :=
                    if x.inForce.map Prod.fst = some g then s.line
                    else s.line.produce (.zoneDerate z (some g) load s.now) }) ∨
            ((∀ g, ¬q g) ∧
              t =
                { s with
                  zones :=
                    s.zones.set z.val
                      { state := x.state, drive := 8, load := load, inForce := none, nextDecay := x.nextDecay + 10000 }
                      z.isLt
                  line := if x.inForce = none then s.line else s.line.produce (.zoneDerate z none load s.now) })) →
          ((∀ o j, x.state = .active o → s.job? o = some j → j.paused = false) → exec (.decayStep z) s = .next t) ∧
            ∀ o j k, x.state = .active o → s.job? o = some j → s.code? j.slot = some k → j.paused = true →
              ((∃ w g, ZoneSet.has j.zones w = true ∧ (t.zone w).inForce = some (g, .holdOff)) →
                exec (.decayStep z) s = .next t) ∧
                ((∀ w g, ZoneSet.has j.zones w = true → (t.zone w).inForce ≠ some (g, .holdOff)) →
                  exec (.decayStep z) s = exec (.pauseClear o) t ∧
                    (j.preemptPending = false →
                      (match k.header.mode with
                        | .count =>
                          j.repeatsSent <
                            (if k.header.repeatCells = 0 then 0 else j.repeatOverride.getD k.header.repeatFigure)
                        | .hold => j.state = .draining → j.repeatsSent < k.header.repeatFigure) →
                      exec (.decayStep z) s =
                        .next
                          { t with
                            jobs :=
                              s.jobs.map fun m =>
                                if m.id = j.id then
                                  { m with
                                    paused := false, pauseTimer := none
                                    play :=
                                      some
                                        { kind := .rep, phase := .inSection 0, since := s.clock
                                          sampled := (zonesOf j.zones).map fun w => (w, (t.zone w).drive) } }
                                else m })))
/-! ### Receive inputs, runs, learning and verify -/

/-- INPUT_MODE by its checks in order: an accepted one sets mode and mask, clears the run context, and on a move to OFF
discards an open frame. INPUT_INFO answers an input's record and changes no state (R126, R136). -/
def Obligations.InputModeAndInfoAnswer : Prop :=
  ∀ (s : State) (c : CommandFrame) (b : Byte),
    (∀ m k : Byte, s.takes c .inputMode → c.payload = [b, m, k] →
      (1 < b.toNat ∨ 2 < m.toNat → exec .inputMode s = .next (s.answered c [0x02#8])) ∧
        ∀ (v : InputNo) (new : InputMode) (r : RxInput), v.val = b.toNat → m.toNat ≤ 2 → r = s.input v →
          new = (if m = 0#8 then .off else if m = 1#8 then .matching else .raw) →
          (r.mode = .learn ∨ r.mode = .verify →
            exec .inputMode s = .next (s.answered c [0x10#8, b, BitVec.ofNat 8 r.mode.code])) ∧
            (r.mode ≠ .learn → r.mode ≠ .verify →
              exec .inputMode s =
                .next (State.answered
                  { s with
                    inputs :=
                      s.inputs.set v.val
                        { r with
                          mode := new, mask := k, run := none
                          engine := if new = .off ∧ r.engine.isInFrame = true then .discarding (s.endGap v) else r.engine }
                        v.isLt }
                  c [0x00#8, b, m, k, BitVec.ofNat 8 r.mode.code]))) ∧
      (s.takes c .inputInfo → c.payload = [b] →
        (1 < b.toNat → exec .inputInfo s = .next (s.answered c [0x02#8])) ∧
          ∀ (v : InputNo) (r : RxInput), v.val = b.toNat → r = s.input v →
            exec .inputInfo s =
              .next (s.answered c
                ([0x00#8, b, BitVec.ofNat 8 r.mode.code] ++ optional8 (r.savedMode.map InputMode.code) ++
                  [r.mask, BitVec.ofNat 8 r.engine.code] ++
                  u32 (BitVec.ofNat 32
                    (match r.engine with
                      | .quiet => s.endGap v
                      | .inFrame f => f.endGap
                      | .discarding gap => gap)) ++
                  u16 r.frameNext ++ u16 r.drops ++ u16 r.suppressed)))

/-- LEARN by its checks in order, and what an accepted one starts (R149). -/
def Obligations.LearnAnswers : Prop :=
  ∀ (s : State) (c : CommandFrame) (b sl f3 f2 f1 f0 d n : Byte) (f : Nat), s.takes c .learn →
    c.payload = [b, sl, f3, f2, f1, f0, d, n] →
    f = ((f3.toNat * 256 + f2.toNat) * 256 + f1.toNat) * 256 + f0.toNat →
    (1 < b.toNat ∨ 127 < sl.toNat → exec .learn s = .next (s.answered c [0x02#8, sl])) ∧
      ∀ (v : InputNo) (i : SlotNo) (r : RxInput), v.val = b.toNat → i.val = sl.toNat → r = s.input v →
        ∀ inRange : Prop,
          (inRange ↔ (f = 0 ∨ (15000 ≤ f ∧ f ≤ 500000)) ∧ (d = 25#8 ∨ d = 33#8 ∨ d = 50#8) ∧ 2 ≤ n.toNat ∧ n.toNat ≤ 6) →
          (s.slot i ≠ .empty → exec .learn s = .next (s.answered c [0x03#8, sl, BitVec.ofNat 8 (s.slot i).code])) ∧
            (∀ x, s.slot i = .empty → s.table.learn = some x →
              exec .learn s =
                .next (s.answered c [0x04#8, BitVec.ofNat 8 x.slot.val, BitVec.ofNat 8 x.input.val])) ∧
            (s.slot i = .empty → s.table.learn = none →
              (r.mode = .learn ∨ r.mode = .verify ∨ ∃ j ∈ s.jobs, j.verifyInput = some v) →
              exec .learn s = .next (s.answered c [0x10#8, b, BitVec.ofNat 8 r.mode.code])) ∧
            (s.slot i = .empty → s.table.learn = none → r.mode ≠ .learn → r.mode ≠ .verify →
              (∀ j ∈ s.jobs, j.verifyInput ≠ some v) →
              (¬inRange → exec .learn s = .next (s.answered c [0x02#8, sl])) ∧
                (inRange →
                  exec .learn s =
                    .next (State.answered
                      { s with
                        table :=
                          { s.table with
                            slots := s.table.slots.set i.val .learning i.isLt
                            learn :=
                              some
                                { input := v, slot := i, frequency := f, duty := d.toNat, wanted := n.toNat
                                  firstFrame := r.frameNext, patternA := none, patternB := none, phase := .aOnly
                                  minimumGap := none
                                  deadline := { start := s.now, length := s.params.learnTimeout * 1000 } } }
                        inputs := s.inputs.set v.val { r with mode := .learn, savedMode := some r.mode } v.isLt }
                      c ([0x00#8, sl, b] ++ u32 (s.now + BitVec.ofNat 32 (s.params.learnTimeout * 1000))))))

/-- LEARN_CANCEL and LEARN_DEADLINE end the learn in progress with CANCELLED and TIMEOUT: the slot becomes EMPTY,
LEARN_END is produced, the context is freed and the input returns to its saved mode; when that is OFF an open frame is
discarded, its engine becoming DISCARDING, and the run-end check is made (R145). With no learn LEARN_CANCEL is refused
with SLOT_STATE, and before its deadline LEARN_DEADLINE does nothing (R153, R154). A LEARN frame at the head of the
capture queue is declined when no learn of its input wants it (R150), and otherwise taken: a flagged frame ends the
learn with BAD_FRAME; the frame joins pattern A or B by the averages, or ends the learn with INCONSISTENT; its gap
enters the minimum gap; and with the frames wanted taken the code is built and stored, or the learn ends with POOL_FULL
(R148, R151, R152). Either way the entry leaves, the run-end check is made, and the next head is tried in the same
happening (R134, R145). -/
def Obligations.LearnsEnd : Prop :=
  (∀ (s : State) (c : CommandFrame),
    (s.table.learn = none →
      exec .learnDeadline s = .next s ∧
        (s.takes c .learnCancel → c.payload = [] → exec .learnCancel s = .next (s.answered c [0x03#8]))) ∧
      ∀ x, s.table.learn = some x → s.slot x.slot = .learning →
        ((s.now - x.deadline.start).toNat < x.deadline.length → exec .learnDeadline s = .next s) ∧
          (x.deadline.length ≤ (s.now - x.deadline.start).toNat →
            exec .learnDeadline s = .next (s.learnEnded x .empty .timeout 0 0)) ∧
          (s.takes c .learnCancel → c.payload = [] →
            exec .learnCancel s =
              .next ((s.popCommand.learnEnded x .empty .cancelled 0 0).replied c
                [0x00#8, BitVec.ofNat 8 x.slot.val, BitVec.ofNat 8 x.input.val]))) ∧
  ∀ (s : State) (f : CapturedFrame) (rest : List CapturedFrame) (v : InputNo) (leads : State → Prop),
    s.captures = f :: rest → f.input = v → f.consumer = .learner →
    (leads = fun t =>
      exec .captureDispatch s = exec .captureDispatch t ∧ (rest = [] → exec .captureDispatch s = .next t)) →
    (s.table.learn = none → leads (s.headLeft rest v)) ∧
      ∀ x, s.table.learn = some x →
        (x.input ≠ v ∨ 32768 ≤ (f.number + 65536 - x.firstFrame) % 65536 → leads (s.headLeft rest v)) ∧
          (x.input = v → (f.number + 65536 - x.firstFrame) % 65536 < 32768 → s.slot x.slot = .learning →
            (f.flags ≠ { truncated := false, stuck := false, longMark := false } →
              leads (State.headLeft (s.learnEnded x .empty .badFrame 0 0) rest v)) ∧
              (f.flags = { truncated := false, stuck := false, longMark := false } →
                ∀ (average : Pattern → List Nat) (fits : Pattern → Bool) (sorted : Option LearnContext),
                  (average = fun p => p.sums.map fun n => (2 * n + p.frames) / (2 * p.frames)) →
                  (fits = fun p =>
                    decide (f.cells.length = p.sums.length ∧
                      ∀ q ∈ f.cells.zip (average p),
                        ((q.1 : Int) - q.2).natAbs * 100 ≤ q.2 * s.params.matchTolerance + 4000)) →
                  sorted =
                    (match x.patternA, x.patternB with
                      | none, _ => some { x with patternA := some { sums := f.cells, frames := 1 } }
                      | some a, b =>
                        if fits a then
                          if x.phase = .aOnly then
                            some
                              { x with
                                patternA :=
                                  some { sums := List.zipWith (· + ·) a.sums f.cells, frames := a.frames + 1 } }
                          else none
                        else
                          match b with
                          | none =>
                            some { x with patternB := some { sums := f.cells, frames := 1 }, phase := .bSeen }
                          | some b =>
                            if fits b then
                              some
                                { x with
                                  patternB :=
                                    some { sums := List.zipWith (· + ·) b.sums f.cells, frames := b.frames + 1 } }
                            else none) →
                  (sorted = none → leads (State.headLeft (s.learnEnded x .empty .inconsistent 0 0) rest v)) ∧
                    ∀ y z t, sorted = some y →
                      z =
                        { y with
                          minimumGap :=
                            if x.taken = 0 then x.minimumGap
                            else
                              match x.minimumGap, f.gapBefore with
                              | some m, some g => some (min m g)
                              | none, g => g
                              | m, none => m } →
                      t = { s with table := { s.table with learn := some z } } →
                      (z.taken < z.wanted → leads (t.headLeft rest v)) ∧
                        (z.wanted ≤ z.taken → ∀ (stored : Option Pattern → List Nat) (lead rep : List Nat) (code : Code),
                          (stored = fun p => match p with
                            | none => []
                            | some p => (average p).map (max 8)) →
                          lead = (if z.patternB = none then [] else stored z.patternA) →
                          rep = (if z.patternB = none then stored z.patternA else stored z.patternB) →
                          code =
                            { header :=
                                { label := 0#32, frequency := x.frequency, duty := x.duty
                                  mode := if z.patternB = none then .count else .hold
                                  repeatFigure := 1, leadCells := lead.length, repeatCells := rep.length
                                  trailGap := max 1000 (min 500000 (z.minimumGap.getD 0)), matchable := true
                                  tolerance := 0 }
                              cells := lead ++ rep, checksum := crcCells 0xFFFF#16 (lead ++ rep), refs := 0 } →
                          ((lead.length + rep.length + 15) / 16 ≤ s.table.freeBlocks →
                            leads (State.headLeft (t.learnEnded z (.ready code) .stored lead.length rep.length) rest v)) ∧
                            (s.table.freeBlocks < (lead.length + rep.length + 15) / 16 →
                              leads (State.headLeft (t.learnEnded z .empty .poolFull lead.length rep.length) rest v)))))

/-- RX_RAW_EDGE: an edge away from the accepted level starts a trial with the GLITCH_LIMIT in force, and a limit of 0
has the change accepted at once; with a trial not yet due an edge back to it ends the trial without a change, and then a
closing that waited for the trial is taken: the end gap or the stuck mark of an open frame, the discarding's end.
ACCEPTED_CHANGE before the trial's limit does nothing; after it the accepted level changes, dated at the raw edge, and a
mark's end is noted (R124). A trial that is due when an edge comes is accepted ahead of it (log entry 13). In DISCARDING
a change does nothing more (R131). In QUIET a mark start is decided by the first case of R127 that applies: in OFF the
engine stays; when an ACTIVE zone of the mask suppresses it (in VERIFY none does) it is counted and the engine enters
DISCARDING; with no queue entry, and then with no buffer cell free, it is dropped, which raises the drop count, opens
the drop episode and produces CAPTURE_DROP when the episode was closed (R133); otherwise a frame opens with the next
frame number (R130), and an end decided for the input's run no longer stands (R145; log entry 21) or stands until the
frame closes (R147), as a free value has it (log entry 28). -/
def Obligations.RawEdgesAndChanges : Prop :=
  ∀ (s : State) (v : InputNo) (r : RxInput), r = s.input v →
    (exec (.rxRawEdge v r.raw) s = .next s) ∧
      ((∀ t, r.trial = some t → s.clock < t.edge + t.limit) →
        exec (.acceptedChange v) s = .next s ∧
          (∀ l w, l ≠ r.raw → l ≠ r.accepted →
            w =
              { s with
                inputs :=
                  s.inputs.set v.val { r with raw := l, trial := some { edge := s.clock, limit := s.params.glitchLimit } }
                    v.isLt } →
            (0 < s.params.glitchLimit → exec (.rxRawEdge v l) s = .next w) ∧
              (s.params.glitchLimit = 0 → exec (.rxRawEdge v l) s = exec (.acceptedChange v) w)) ∧
          ∀ w, r.accepted ≠ r.raw →
            w = { s with inputs := s.inputs.set v.val { r with raw := r.accepted, trial := none } v.isLt } →
            (r.engine = .quiet → exec (.rxRawEdge v r.accepted) s = .next w) ∧
              (∀ f, r.engine = .inFrame f →
                exec (.rxRawEdge v r.accepted) s =
                  if r.accepted = .space then exec (.endGapClose v) w else exec (.stuckMark v) w) ∧
              ∀ gap, r.engine = .discarding gap → exec (.rxRawEdge v r.accepted) s = exec (.discardEnd v) w) ∧
      (∀ t l, r.trial = some t → t.edge + t.limit ≤ s.clock → l ≠ r.raw →
        ∃ w, exec (.acceptedChange v) s = .next w ∧ exec (.rxRawEdge v l) s = exec (.rxRawEdge v l) w) ∧
      (∀ t, r.trial = some t → t.edge + t.limit ≤ s.clock →
        (r.engine = .quiet ∧ r.accepted = .mark ∨ ∃ gap, r.engine = .discarding gap) →
        exec (.acceptedChange v) s =
          .next
            { s with
              inputs :=
                s.inputs.set v.val
                  { r with
                    accepted := if r.accepted = .mark then .space else .mark, levelSince := t.edge, trial := none
                    lastMarkEnd := if r.accepted = .mark then some t.edge else r.lastMarkEnd } v.isLt }) ∧
      ∀ (t : Trial) (marked : RxInput) (suppressed : Prop), r.trial = some t → t.edge + t.limit ≤ s.clock →
        r.engine = .quiet → r.accepted = .space →
        marked = { r with accepted := .mark, levelSince := t.edge, trial := none } →
        (suppressed ↔ r.mode ≠ .verify ∧ ∃ z o, ZoneSet.has r.mask z = true ∧ (s.zone z).state = .active o) →
        (r.mode = .off → exec (.acceptedChange v) s = .next { s with inputs := s.inputs.set v.val marked v.isLt }) ∧
          (r.mode ≠ .off → suppressed →
            exec (.acceptedChange v) s =
              .next
                { s with
                  inputs :=
                    s.inputs.set v.val
                      { marked with
                        suppressed := if r.suppressed < 65535 then r.suppressed + 1 else r.suppressed
                        engine := .discarding (s.endGap v) } v.isLt }) ∧
          (r.mode ≠ .off → ¬suppressed → 8 ≤ s.entriesUsed →
            exec (.acceptedChange v) s = .next (s.dropped v marked .queueFull)) ∧
          (r.mode ≠ .off → ¬suppressed → s.entriesUsed < 8 → 2048 ≤ s.cellsUsed →
            exec (.acceptedChange v) s = .next (s.dropped v marked .bufferFull)) ∧
          (r.mode ≠ .off → ¬suppressed → s.entriesUsed < 8 → s.cellsUsed < 2048 →
            exec (.acceptedChange v) s =
              .next
                { s with
                  inputs :=
                    s.inputs.set v.val
                      { marked with
                        frameNext := (r.frameNext + 1) % 65536
                        run := r.run.map fun x => if Config.runEndStands = true then x else { x with endDecided := none }
                        engine :=
                          .inFrame
                            { number := r.frameNext, startInstant := t.edge
                              gapBefore := r.lastMarkEnd.map fun e => min (t.edge - e) 1000000
                              endGap := s.endGap v, cells := [], longMark := false } } v.isLt })

/-- In a frame an accepted change closes the cell in progress: with a buffer cell free its length in µs is stored,
saturating at 65,535 with LONG_MARK (R128) and 1 at least (log entry 29), and the cell that brings the frame to 511
closes it TRUNCATED. A space that has lasted the frame's end gap closes the frame, and so does a mark that has lasted
200 ms, stored as 65,535 and flagged STUCK and LONG_MARK (as 511th cell too, and not TRUNCATED: log entry 14). A frame
that closes joins the tail of the capture queue with its consumer fixed by the input's mode, the drop episode closes, an
end decided for the input's run no longer stands (R145), and into an empty queue it is dispatched at once (R129, R132,
R134). A cell for which no buffer cell is free drops the frame with BUFFER_FULL and CAPTURE_DROP, and the run-end and
settling checks follow (R133, R145, R158); that their reports join in this order is the model's choice (log entry 27). A
space that has lasted the end gap returns a discarding engine to QUIET (R131). -/
def Obligations.FramesGrowAndClose : Prop :=
  ∀ (s : State) (v : InputNo) (r : RxInput), r = s.input v →
    (∀ (f : OpenFrame) (lost : RxInput → State)
        (closed : RxInput → List Nat → FrameFlags → Consumer → Engine → State),
      r.engine = .inFrame f →
      (lost = fun x => (((s.dropped v x .bufferFull).checkRunEnd v).checkSettled v).arbitratedIfRemoved s) →
      (closed = fun x cells flags consumer after =>
        { s with
          inputs :=
            s.inputs.set v.val
              { x with
                run := x.run.map fun q => { q with endDecided := none }
                engine := after, episodeOpen := false } v.isLt
          captures :=
            s.captures ++
              [{ input := v, number := f.number, startTime := timeAt f.startInstant
                 endInstant := f.startInstant + cells.sum, gapBefore := f.gapBefore, cells := cells, flags := flags
                 consumer := consumer }] }) →
      (∀ (t : Trial) (d : Nat) (changed : RxInput) (cells : List Nat) (long : Bool), r.trial = some t →
        t.edge + t.limit ≤ s.clock → d = t.edge - r.levelSince → cells = f.cells ++ [max 1 (min d 65535)] →
        long = (f.longMark || decide (65535 < d)) →
        changed =
          { r with
            accepted := if r.accepted = .mark then .space else .mark, levelSince := t.edge, trial := none
            lastMarkEnd := if r.accepted = .mark then some t.edge else r.lastMarkEnd } →
        (2048 ≤ s.cellsUsed → exec (.acceptedChange v) s = .next (lost changed)) ∧
          (s.cellsUsed < 2048 → f.cells.length + 1 < 511 →
            exec (.acceptedChange v) s =
              .next
                { s with
                  inputs :=
                    s.inputs.set v.val { changed with engine := .inFrame { f with cells := cells, longMark := long } }
                      v.isLt }) ∧
          (s.cellsUsed < 2048 → 511 ≤ f.cells.length + 1 → ∀ consumer u, r.mode.consumer? = some consumer →
            u =
              closed changed cells { truncated := true, stuck := false, longMark := long } consumer
                (.discarding (s.endGap v)) →
            (s.captures ≠ [] → exec (.acceptedChange v) s = .next u) ∧
              (s.captures = [] → exec (.acceptedChange v) s = exec .captureDispatch u))) ∧
        (r.trial.isSome = true ∨ r.accepted = .mark ∨ s.clock < r.levelSince + f.endGap →
          exec (.endGapClose v) s = .next s) ∧
        (r.trial.isSome = true ∨ r.accepted = .space ∨ s.clock < r.levelSince + 200000 →
          exec (.stuckMark v) s = .next s) ∧
        (r.trial = none → r.accepted = .mark → r.levelSince + 200000 ≤ s.clock → 2048 ≤ s.cellsUsed →
          exec (.stuckMark v) s = .next (lost r)) ∧
        ∀ consumer u, r.mode.consumer? = some consumer → r.trial = none →
          (r.accepted = .space → r.levelSince + f.endGap ≤ s.clock →
            u = closed r f.cells { truncated := false, stuck := false, longMark := f.longMark } consumer .quiet →
            (s.captures ≠ [] → exec (.endGapClose v) s = .next u) ∧
              (s.captures = [] → exec (.endGapClose v) s = exec .captureDispatch u)) ∧
            (r.accepted = .mark → r.levelSince + 200000 ≤ s.clock → s.cellsUsed < 2048 →
              u =
                closed r (f.cells ++ [65535]) { truncated := false, stuck := true, longMark := true } consumer
                  (.discarding (s.endGap v)) →
              (s.captures ≠ [] → exec (.stuckMark v) s = .next u) ∧
                (s.captures = [] → exec (.stuckMark v) s = exec .captureDispatch u))) ∧
      ∀ gap, r.engine = .discarding gap →
        (r.trial.isSome = true ∨ r.accepted = .mark ∨ s.clock < r.levelSince + gap →
          exec (.discardEnd v) s = .next s) ∧
          (r.trial = none → r.accepted = .space → r.levelSince + gap ≤ s.clock →
            exec (.discardEnd v) s =
              .next { s with inputs := s.inputs.set v.val { r with engine := .quiet } v.isLt })

/-- CAPTURE_DISPATCH of the frame at the head of the queue. A RAW frame makes RX_RAW parts of up to 112 cells, an
unknown MATCH frame RX_UNKNOWN or such parts, and a matched one RX_CODE, behind RX_RUN_END when it ends a run: a match
of the run's slot within the window counts on, and any other starts a new run (R135, R141, R143, R144). With fewer free
report entries than those reports and 8 more the frame waits, holding every entry behind it; otherwise they join in
order and the entry leaves, and with RX deselected it leaves without a report; the run-end check follows, and then the
next head is tried in the same happening (R134, R145, R170, R173). On an empty queue nothing happens. -/
def Obligations.CapturesDispatched : Prop :=
  (∀ s : State, s.captures = [] → exec .captureDispatch s = .next s) ∧
    ∀ (s : State) (f : CapturedFrame) (rest : List CapturedFrame) (v : InputNo) (leads : State → Prop),
      s.captures = f :: rest → f.input = v →
      (leads = fun t =>
        exec .captureDispatch s = exec .captureDispatch t ∧ (rest = [] → exec .captureDispatch s = .next t)) →
      ∀ (u : State) (parts rs : List Report),
        parts =
          ((List.range ((f.cells.length + 111) / 112)).map fun n =>
            Report.rxRaw f n ((f.cells.length + 111) / 112) ((f.cells.drop (112 * n)).take 112)) →
        (f.consumer = .rawForwarder ∧ u = s ∧ rs = parts) ∨
          (f.consumer = .recognizer ∧ s.bestMatch f = none ∧ u = s ∧
            rs = if s.params.unknownForward = 1 then parts else [.rxUnknown f]) ∨
          (∃ k score n, f.consumer = .recognizer ∧ s.bestMatch f = some (k, score) ∧
            u =
              { s with
                inputs :=
                  s.inputs.set v.val
                    { s.input v with
                      run :=
                        some
                          { slot := k.slot, count := n, lastMarkEnd := f.endInstant, windowPassed := false
                            endDecided := none } } v.isLt } ∧
            (((s.input v).run = none ∧ n = 1 ∧ rs = [.rxCode f k.slot (s.label k.slot) k.kind score n]) ∨
              (∃ r g, (s.input v).run = some r ∧ r.slot = k.slot ∧ f.gapBefore = some g ∧
                g ≤ s.params.repeatWindow * 1000 ∧ n = (if r.count < 65535 then r.count + 1 else r.count) ∧
                rs = [.rxCode f k.slot (s.label k.slot) k.kind score n]) ∨
              ∃ r, (s.input v).run = some r ∧
                (r.slot ≠ k.slot ∨ ∀ g, f.gapBefore = some g → s.params.repeatWindow * 1000 < g) ∧ n = 1 ∧
                rs = [.rxRunEnd v r.slot r.count s.now, .rxCode f k.slot (s.label k.slot) k.kind score n])) →
        (s.line.categories.getLsbD 3 = true → 32 < s.line.reports.length + rs.length + 8 →
          exec .captureDispatch s = .next s) ∧
          (s.line.categories.getLsbD 3 = true → s.line.reports.length + rs.length + 8 ≤ 32 →
            leads (State.headLeft { u with line := rs.foldl HostLine.join s.line } rest v)) ∧
          (s.line.categories.getLsbD 3 = false → leads (u.headLeft rest v))

/-- The recognizer's choice (R138 to R140): the best match of an unflagged frame is a non-empty section of a READY,
matchable code with as many cells as the frame, each within tolerance of the frame's, and its score is the sum of the
distances in per- mille of the section's length, rounded down. A section that the frame matches is never passed over:
there is then a best match, its score is the lowest, and of equal scores the lower slot wins and then the lead section.
A flagged frame matches nothing. -/
def Obligations.BestMatchIsWithinTolerance : Prop :=
  ∀ (s : State) (f : CapturedFrame) (tolerance : Code → Nat) (fits : Nat → List Nat → Prop) (scored : List Nat → Nat),
    (tolerance = fun code => if code.header.tolerance = 0 then s.params.matchTolerance else code.header.tolerance) →
    (fits = fun (t : Nat) (cells : List Nat) =>
      cells ≠ [] ∧ f.cells.length = cells.length ∧
        ∀ p ∈ f.cells.zip cells, ((p.1 : Int) - p.2).natAbs * 100 ≤ p.2 * t + 4000) →
    (scored = fun cells : List Nat => ((f.cells.zip cells).map fun p => ((p.1 : Int) - p.2).natAbs).sum * 1000 / cells.sum) →
    (f.flags ≠ { truncated := false, stuck := false, longMark := false } → s.bestMatch f = none) ∧
      (∀ k score, s.bestMatch f = some (k, score) →
        (∃ code, s.slot k.slot = .ready code ∧ code.header.matchable = true ∧ k.cells = code.section k.kind ∧
          k.tolerance = tolerance code) ∧
          fits k.tolerance k.cells ∧ score = scored k.cells) ∧
      (f.flags = { truncated := false, stuck := false, longMark := false } → ∀ (i : SlotNo) (code : Code) (kind : FrameKind),
        s.slot i = .ready code → code.header.matchable = true → fits (tolerance code) (code.section kind) →
        ∃ k score, s.bestMatch f = some (k, score) ∧
          (score < scored (code.section kind) ∨
            (score = scored (code.section kind) ∧ (k.slot < i ∨ (k.slot = i ∧ (k.kind = .lead ∨ kind = .rep))))))

/-- The run-end check: with the window passed, the engine not in a frame and no closed entry of the input, RX_RUN_END
joins and the context is emptied when 9 report entries are free, and otherwise the decided end waits with its time; with
RX deselected the context is emptied without a report; and with a condition failing no end is decided.
REPEAT_WINDOW_ELAPSE makes the check once the window of an active run has passed, RX_RUN_END makes it again for an end
that was decided, and a new REPEAT_WINDOW moves the timed check, or makes it at once when its new instant has passed.
Before the window has passed, and with no end decided, nothing happens (R145). The time of a decided end, and what
undoes the decision, are read from R145 by inference (log entry 21). Whether the opening of a frame undoes it is a free
value, since R145 and the last row of R147 differ (log entry 28): when it does not, the end that was decided is carried
out with its time, as freed entries make report room, while the frame is open and RX is selected; the check that a
REPORT_SELECT makes then is not met, whatever the free value. -/
def Obligations.RunsEnd : Prop :=
  (∀ (s : State) (v : InputNo), (s.input v).run = none →
    s.checkRunEnd v = s ∧ s.moveWindow v = s ∧ s.recheckRunEnd v = s) ∧
  (∀ (s : State) (v : InputNo) (r : Run) (x : Option Run → State) (ends : Prop), (s.input v).run = some r →
    (x = fun q => { s with inputs := s.inputs.set v.val { s.input v with run := q } v.isLt }) →
    (ends ↔ r.lastMarkEnd + s.params.repeatWindow * 1000 ≤ s.clock ∧ (s.input v).engine.isInFrame = false ∧
      ∀ f ∈ s.captures, f.input ≠ v) →
    (¬ends → s.checkRunEnd v = x (some { r with endDecided := none })) ∧
      (ends → s.line.categories.getLsbD 3 = false → s.checkRunEnd v = x none) ∧
      (ends → s.line.categories.getLsbD 3 = true → s.line.reports.length + 9 ≤ 32 →
        s.checkRunEnd v = { x none with line := s.line.join (.rxRunEnd v r.slot r.count (r.endDecided.getD s.now)) }) ∧
      (ends → s.line.categories.getLsbD 3 = true → 32 < s.line.reports.length + 9 →
        s.checkRunEnd v = x (some { r with endDecided := some (r.endDecided.getD s.now) })) ∧
      (s.clock < r.lastMarkEnd + s.params.repeatWindow * 1000 →
        s.moveWindow v = x (some { r with windowPassed := false, endDecided := none })) ∧
      (r.lastMarkEnd + s.params.repeatWindow * 1000 ≤ s.clock →
        s.moveWindow v = (x (some { r with windowPassed := true })).checkRunEnd v ∧
          (r.windowPassed = false →
            exec (.repeatWindowElapse v) s = .next ((x (some { r with windowPassed := true })).checkRunEnd v))) ∧
      (r.endDecided = none → s.recheckRunEnd v = s) ∧ (r.endDecided ≠ none → s.recheckRunEnd v = s.checkRunEnd v) ∧
      (r.endDecided ≠ none → (s.input v).engine.isInFrame = false →
        exec (.rxRunEnd v) s = .next (s.checkRunEnd v)) ∧
      (∀ t, r.endDecided = some t → (s.input v).engine.isInFrame = true →
        exec (.rxRunEnd v) s =
          .next
            (if Config.runEndStands = false ∨ s.line.categories.getLsbD 3 = false then
              x (some { r with endDecided := none })
            else if s.line.reports.length + 9 ≤ 32 then
              { x none with line := s.line.join (.rxRunEnd v r.slot r.count t) }
            else s))) ∧
  ∀ (s : State) (v : InputNo) (r : Run), (s.input v).run = some r →
    (r.windowPassed = true ∨ s.clock < r.lastMarkEnd + s.params.repeatWindow * 1000 →
      exec (.repeatWindowElapse v) s = .next s) ∧
      (r.endDecided = none → exec (.rxRunEnd v) s = .next s) ∧
      (r.lastMarkEnd + s.params.repeatWindow * 1000 ≤ s.clock → (s.input v).engine.isInFrame = false →
        (∀ f ∈ s.captures, f.input ≠ v) → s.line.categories.getLsbD 3 = true →
        (s.line.reports.length + 9 ≤ 32 →
          (r.windowPassed = false → r.endDecided = none →
            exec (.repeatWindowElapse v) s =
              .next
                { s with
                  line := s.line.join (.rxRunEnd v r.slot r.count s.now)
                  inputs := s.inputs.set v.val { s.input v with run := none } v.isLt }) ∧
            (∀ t, r.endDecided = some t →
              exec (.rxRunEnd v) s =
                .next
                  { s with
                    line := s.line.join (.rxRunEnd v r.slot r.count t)
                    inputs := s.inputs.set v.val { s.input v with run := none } v.isLt })) ∧
          (32 < s.line.reports.length + 9 → r.windowPassed = false → r.endDecided = none →
            exec (.repeatWindowElapse v) s =
              .next
                { s with
                  inputs :=
                    s.inputs.set v.val
                      { s.input v with run := some { r with windowPassed := true, endDecided := some s.now } } v.isLt }))

/-- VERIFY_VERDICT: a SETTLING job whose input has no open frame and no closed frame for the verifier is given its
verdict (FAIL on a mismatch, NO_SIGNAL when no frame was seen, PARTIAL when fewer were seen than emitted, else PASS);
the job leaves the queue, its JOB_END carries the verdict, the input returns to its saved mode, the record is dropped,
and the start arbiter runs. Otherwise nothing happens (R158, R159). The settling check does the same wherever it is
made, and with no verify record it does nothing. A VERIFY frame at the head of the capture queue is declined when no
record of its input wants it, and otherwise seen, and compared with the section emitted as its turn gives: EXTRA, COUNT,
the first cell outside tolerance, or a match; the first mismatch is kept (R157). The settling check follows the run-end
check (log entry 27), the next head is tried in the same happening (R134), and a job removed has the start arbiter run
at the end of it. -/
def Obligations.VerdictGiven : Prop :=
  (∀ (s : State) (v : InputNo), (s.input v).verify = none →
    s.checkSettled v = s ∧ exec (.verifyVerdict v) s = .next s) ∧
  (∀ (s : State) (v : InputNo) (r : VerifyRecord) (j : Job) (result : VerifyResult), (s.input v).verify = some r →
    s.job? r.job = some j →
    result =
      (if r.mismatch ≠ none then .fail else if r.seen = 0 then .noSignal else if r.seen < r.emitted then .partly else .pass) →
    (j.state ≠ .settling ∨ (s.input v).engine.isInFrame = true ∨ (∃ f ∈ s.captures, f.input = v ∧ f.consumer = .verifier) →
      s.checkSettled v = s ∧ exec (.verifyVerdict v) s = .next s) ∧
      (j.state = .settling → (s.input v).engine.isInFrame = false →
        (∀ f ∈ s.captures, f.input = v → f.consumer ≠ .verifier) →
        ∃ u : State, s.checkSettled v = u ∧ exec (.verifyVerdict v) s = .next u.runArbiter ∧
          u.jobs = s.jobs.filter (fun m => decide (m.id ≠ j.id)) ∧
          u.input v =
            { s.input v with
              verify := none, mode := (s.input v).savedMode.getD (s.input v).mode, savedMode := none } ∧
          (∀ w, w ≠ v → u.input w = s.input w) ∧ u.captures = s.captures ∧ u.zones = s.zones ∧
          u.generators = s.generators ∧
          (∀ i, u.slot i = if i = j.slot then (s.slot i).withoutReference else s.slot i) ∧
          (∀ k, s.slot j.slot = .ready k → s.line.categories.getLsbD 1 = true → s.line.reports.length < 32 →
            u.line =
              s.line.join
                (.jobEnd
                  { j with
                    verify := { result := result, seen := r.seen, matched := r.matched, mismatch := r.mismatch } }
                  k.header.label)))) ∧
  ∀ (s : State) (f : CapturedFrame) (rest : List CapturedFrame) (v : InputNo) (leads : State → Prop),
    s.captures = f :: rest → f.input = v → f.consumer = .verifier →
    (leads = fun u =>
      ∀ t, t = (State.headLeft u rest v).checkSettled v →
        (rest = [] → exec .captureDispatch s = .next (t.arbitratedIfRemoved s)) ∧
          (t.jobs.length = s.jobs.length → exec .captureDispatch s = exec .captureDispatch t) ∧
          (t.jobs.length < s.jobs.length →
            ∃ w, exec .captureDispatch t = .next w ∧
              exec .captureDispatch s = .next (if w.jobs.length = t.jobs.length then w.runArbiter else w))) →
      ((s.input v).verify = none → leads s) ∧
        ∀ r, (s.input v).verify = some r →
          (32768 ≤ (f.number + 65536 - r.firstFrame) % 65536 → leads s) ∧
            ∀ (j : Job) (k : Code) (n : Nat) (cells : List Nat) (inside : Nat → Nat → Prop) (x : VerifyRecord → State),
              (f.number + 65536 - r.firstFrame) % 65536 < 32768 → s.job? r.job = some j → s.code? j.slot = some k →
              n = (if r.seen < 65535 then r.seen + 1 else r.seen) →
              cells = (if n = 1 ∧ k.header.leadCells ≠ 0 then k.section .lead else k.section .rep) →
              (inside = fun a b : Nat => ((a : Int) - b).natAbs * 100 ≤ b * s.params.verifyTolerance + 4000) →
              (x = fun q => { s with inputs := s.inputs.set v.val { s.input v with verify := some q } v.isLt }) →
              (r.emitted < n →
                leads (x
                    { r with
                      seen := n
                      mismatch :=
                        some (r.mismatch.getD
                          { frameIndex := n, place := .extra, expected := 0, measured := f.cells.length }) })) ∧
                (n ≤ r.emitted → f.cells.length ≠ cells.length →
                  leads (x
                    { r with
                        seen := n
                        mismatch :=
                          some (r.mismatch.getD
                            { frameIndex := n, place := .count, expected := cells.length
                              measured := f.cells.length }) })) ∧
                (∀ i a b, n ≤ r.emitted → f.cells.length = cells.length → f.cells[i]? = some a → cells[i]? = some b →
                  ¬inside a b → (∀ i' a' b', i' < i → f.cells[i']? = some a' → cells[i']? = some b' → inside a' b') →
                  leads (x
                    { r with
                        seen := n
                        mismatch :=
                          some (r.mismatch.getD
                            { frameIndex := n, place := .cell i, expected := b, measured := a }) })) ∧
                (n ≤ r.emitted → f.cells.length = cells.length → (∀ q ∈ f.cells.zip cells, inside q.1 q.2) →
                  leads (x
                    { r with seen := n, matched := if r.matched < 65535 then r.matched + 1 else r.matched }))

/-! ### The host line -/

/-- MESSAGE_FRAME: a well-formed frame whose bytes find the framer in HUNT is checked as R164 gives and leaves the
framer in HUNT. A wrong CRC gives BAD_CRC, and a good one ends HELD: the round count is 0 and every outstanding report
is unsent again (R172). A COMMAND joins the FIFO, or gives OVERRUN when it is full; a KIND that is neither COMMAND nor
REPORT_ACK gives BAD_KIND. A REPORT_ACK, applied before HELD ends, changes nothing when it names no entry that has been
sent; one that names such an entry removes it with every entry ahead of it, sets the round count to 0 and restarts or
stops the timer (R171); REPORTS_LOST then joins when reports were lost, and the producers that wait are tried: the head
of the capture queue, then the run ends of RX0 and RX1 (R170). A link error has the reason's code as its TYPE, the
frame's tag and no payload, joins the frames that wait for HTX, and is not created while 4 wait (R163, R167). That the
timer stops when HELD ends, also after such an acknowledgement, is read from R172 by inference (log entry 15). -/
def Obligations.MessageFramesChecked : Prop :=
  (∀ s : State, (s.nothingHeld → s.retryProducers = s) ∧
    ∃ a b, exec .captureDispatch s = .next a ∧ exec (.rxRunEnd 0) a = .next b ∧
      exec (.rxRunEnd 1) b = .next s.retryProducers) ∧
  (∀ (s : State) (e : LinkFault) (tag : Byte),
    (4 ≤ s.line.linkErrorsWaiting → s.linkError e tag = s) ∧
      (s.line.linkErrorsWaiting < 4 →
        s.linkError e tag =
          { s with
            line :=
              s.line.send s.clock
                { kind := .linkError, tag := tag, payload := []
                  type :=
                    match e with
                    | .badLength => 0x01#8
                    | .badCrc => 0x02#8
                    | .badKind => 0x03#8
                    | .byteTimeout => 0x04#8
                    | .overrun => 0x05#8 } })) ∧
  ∀ (s u : State) (f : WireFrame) (unheld : State → State), s.line.framer = .hunt → f.wellFormed = true →
    u = { s with line := { s.line with lastByte := s.clock } } →
    (unheld = fun w =>
      if w.line.held then
        { w with
          line :=
            { w.line with
              reports := w.line.reports.map fun e => { e with sent := false }
              held := false, rounds := 0, ackTimer := none } }
      else w) →
    (f.crc ≠ frameCrc f.len f.kind f.tag f.type f.payload →
      exec (.messageFrame f) s = .next (u.linkError .badCrc f.tag)) ∧
      (f.crc = frameCrc f.len f.kind f.tag f.type f.payload →
        (f.kind = 0x01#8 → s.line.fifo.length < 4 → ∀ w, w = unheld u →
          exec (.messageFrame f) s =
            .next
              { w with
                line :=
                  { w.line with
                    fifo := s.line.fifo ++ [{ tag := f.tag, type := f.type, payload := f.payload, crc := f.crc }] } }) ∧
          (f.kind = 0x01#8 → 4 ≤ s.line.fifo.length →
            exec (.messageFrame f) s = .next ((unheld u).linkError .overrun f.tag)) ∧
          (f.kind ≠ 0x01#8 → f.kind ≠ 0x04#8 →
            exec (.messageFrame f) s = .next ((unheld u).linkError .badKind f.tag)) ∧
          (f.kind = 0x04#8 → (∀ e ∈ s.line.reports, e.sequence = f.tag.toNat → e.timesSent = 0) →
            exec (.messageFrame f) s = .next (unheld u)) ∧
          ∀ ahead e behind w, f.kind = 0x04#8 → s.line.reports = ahead ++ e :: behind → e.sequence = f.tag.toNat →
            1 ≤ e.timesSent → (∀ x ∈ ahead, x.sequence ≠ f.tag.toNat) →
            w =
              { u with
                line :=
                  { u.line with
                    reports := behind, rounds := 0
                    ackTimer :=
                      if ∃ x ∈ behind, x.sent = true then some { start := s.now, length := s.params.ackTimeout }
                      else none } } →
            (s.line.lost = 0 → exec (.messageFrame f) s = .next (unheld w.retryProducers)) ∧
              (0 < s.line.lost →
                exec (.messageFrame f) s =
                  .next (unheld (State.retryProducers
                    { w with line := { w.line.join (.reportsLost s.line.lost) with lost := 0 } }))))

/-- The framer handles one byte by its state; the second CRC byte has the frame checked as a whole and leaves HUNT. A
gap of more than 10 ms from the end of one byte to the start of the next, inside a partial frame, discards the frame
with BYTE_TIMEOUT, both when it passes and when the next byte finds that it has passed, and that byte is handled in
HUNT; a byte whose stop bit is low is as if it had not been received (R162, R164). That the row of a byte stands at the
byte's end, the whole time of ten bits at the straps' rate after its start, is the model's choice (log entry 10). -/
def Obligations.BytesFramed : Prop :=
  ∀ (s u : State) (b : Byte) (q : Nat), u = { s with line := { s.line with lastByte := s.clock } } →
    q = (if s.line.straps = 0#2 then 520 else if s.line.straps = 1#2 then 86 else if s.line.straps = 2#2 then 21 else 10) →
    exec (.hrxByte b false) s = .next s ∧
      (s.line.framer = .hunt →
        exec .byteTimeout s = .next s ∧
          (b ≠ 0xC3#8 → exec (.hrxByte b true) s = .next u) ∧
          (b = 0xC3#8 → exec (.hrxByte b true) s = .next { u with line := { u.line with framer := .length } })) ∧
      (s.line.framer ≠ .hunt → ∀ w : State,
        w = State.linkError { s with line := { s.line with framer := .hunt } } .byteTimeout 0#8 →
        (s.line.lastByte + 10000 < s.clock → exec .byteTimeout s = .next w) ∧
          (s.line.lastByte + 10000 + q < s.clock →
            (b = 0xC3#8 →
              exec (.hrxByte b true) s =
                .next { w with line := { w.line with framer := .length, lastByte := s.clock } }) ∧
              (b ≠ 0xC3#8 →
                exec (.hrxByte b true) s = .next { w with line := { w.line with lastByte := s.clock } }))) ∧
      (s.clock ≤ s.line.lastByte + 10000 → exec .byteTimeout s = .next s) ∧
      (s.clock ≤ s.line.lastByte + 10000 + q →
        (s.line.framer = .length → 3 ≤ b.toNat → b.toNat ≤ 243 →
          exec (.hrxByte b true) s = .next { u with line := { u.line with framer := .body b [] } }) ∧
          (s.line.framer = .length → b.toNat < 3 ∨ 243 < b.toNat →
            exec (.hrxByte b true) s =
              .next (State.linkError { u with line := { u.line with framer := .hunt } } .badLength 0#8)) ∧
          (∀ len got, s.line.framer = .body len got →
            exec (.hrxByte b true) s =
              .next
                { u with
                  line :=
                    { u.line with
                      framer :=
                        if got.length + 1 < len.toNat then .body len (got ++ [b]) else .crc len (got ++ [b]) none } }) ∧
          (∀ len got, s.line.framer = .crc len got none →
            exec (.hrxByte b true) s = .next { u with line := { u.line with framer := .crc len got (some b) } }) ∧
          ∀ (f : WireFrame) (hi : Byte), f.wellFormed = true → f.crc = hi ++ b →
            s.line.framer = .crc f.len (f.kind :: f.tag :: f.type :: f.payload) (some hi) →
            exec (.hrxByte b true) s = exec (.messageFrame f) { s with line := { s.line with framer := .hunt } })

/-- A REPLY or LINK_ERROR goes out at once on a free line and otherwise joins the waiting list at its tail (R167; log
entry 16). A report of a category that is not selected is not created (R173; the high digit of its TYPE tells the
category); any other joins the report queue behind those in it with the next sequence and times sent 0, and one that
finds no entry free and is not capture-derived is lost, the lost count saturating at 65,535 (R169, R170). When a frame
has been sent to its end the oldest waiting reply or link error goes next, and with none waiting, or on a line that is
free, the oldest unsent report goes when the window is not HELD and fewer than 8 are outstanding: its sent flag is set,
its times sent rises, saturating at 255, and the acknowledgement timer starts when no other is outstanding (R169, R171,
R172). Otherwise the line stays free. A frame under way leaves as SYNC, LEN, KIND, TAG, TYPE, payload and CRC (R163). -/
def Obligations.LineChoosesNext : Prop :=
  (∀ (l : HostLine) (clock : Nat) (f : OutFrame),
    (l.sending = none → l.waiting = [] → l.send clock f = { l with sending := some f, sendingSince := clock }) ∧
      (l.sending.isSome = true ∨ l.waiting ≠ [] → l.send clock f = { l with waiting := l.waiting ++ [f] })) ∧
  (∀ (l : HostLine) (r : Report) (digit : Nat) (selected : Prop), digit = r.type.toNat / 16 →
    (selected ↔ digit = 8 ∨ l.categories.getLsbD (digit - 9) = true) →
    (l.join r =
        { l with
          reports :=
            l.reports ++
              [{ sequence := l.nextSequence, type := r.type, payload := r.payload, timesSent := 0, sent := false }]
          nextSequence := (l.nextSequence + 1) % 256 }) ∧
      (¬selected → l.produce r = l) ∧ (selected → l.reports.length < 32 → l.produce r = l.join r) ∧
      (selected → 32 ≤ l.reports.length →
        l.produce r = { l with lost := if l.lost < 65535 then l.lost + 1 else l.lost })) ∧
  ∀ (s : State),
    (s.line.sending = none → s.line.onHtx = []) ∧
      (∀ (f : OutFrame) (len kind : Byte) (crc : Word16), s.line.sending = some f →
        len = BitVec.ofNat 8 (f.payload.length + 3) →
        kind =
          (match f.kind with
            | .reply => 0x02#8
            | .report => 0x03#8
            | .linkError => 0x05#8) →
        crc = crcBytes 0xFFFF#16 ([len, kind, f.tag, f.type] ++ f.payload) →
        s.line.onHtx =
          [0xC3#8, len, kind, f.tag, f.type] ++ f.payload ++ [crc.extractLsb' 8 8, crc.extractLsb' 0 8]) ∧
    (s.line.sending = none → exec .htxFrameSent s = .next s) ∧
      (∀ f fs x, s.line.sending = some x → s.line.waiting = f :: fs →
        exec .htxFrameSent s =
          .next { s with line := { s.line with waiting := fs, sending := some f, sendingSince := s.clock } }) ∧
      (s.line.sending.isSome = true ∨ s.line.waiting ≠ [] → exec .reportSend s = .next s) ∧
      (s.line.waiting = [] → (s.line.held = true ∨ 8 ≤ s.line.outstanding ∨ ∀ e ∈ s.line.reports, e.sent = true) →
        (s.line.sending = none → exec .reportSend s = .next s) ∧
          (∀ x, s.line.sending = some x →
            exec .htxFrameSent s = .next { s with line := { s.line with sending := none } })) ∧
      ∀ ahead e behind (t : State), s.line.waiting = [] → s.line.held = false → s.line.outstanding < 8 →
        s.line.reports = ahead ++ e :: behind → (∀ x ∈ ahead, x.sent = true) → e.sent = false →
        t =
          { s with
            line :=
              { s.line with
                sending := some { kind := .report, tag := BitVec.ofNat 8 e.sequence, type := e.type, payload := e.payload }
                sendingSince := s.clock
                reports :=
                  ahead ++
                    { e with sent := true, timesSent := if e.timesSent < 255 then e.timesSent + 1 else e.timesSent } ::
                      behind
                ackTimer :=
                  if s.line.outstanding = 0 then some { start := s.now, length := s.params.ackTimeout }
                  else s.line.ackTimer } } →
        (s.line.sending = none → exec .reportSend s = .next t) ∧
          (∀ x, s.line.sending = some x → exec .htxFrameSent s = .next t)

/-- ACK_TIMER_EXPIRY: the round count rises by one and the timer stops; below RETRY_LIMIT every outstanding entry is
unsent again, and at or above it the window enters HELD with its entries as they are. Before the timer is reached
nothing happens (R172). -/
def Obligations.AckTimerExpires : Prop :=
  ∀ (s : State),
    (s.line.ackTimer = none → exec .ackTimerExpiry s = .next s) ∧
      ∀ t, s.line.ackTimer = some t →
        ((s.now - t.start).toNat < t.length → exec .ackTimerExpiry s = .next s) ∧
          (t.length ≤ (s.now - t.start).toNat →
            (s.line.rounds + 1 < s.params.retryLimit →
              exec .ackTimerExpiry s =
                .next
                  { s with
                    line :=
                      { s.line with
                        rounds := s.line.rounds + 1, ackTimer := none
                        reports := s.line.reports.map fun e => { e with sent := false } } }) ∧
              (s.params.retryLimit ≤ s.line.rounds + 1 →
                exec .ackTimerExpiry s =
                  .next { s with line := { s.line with rounds := s.line.rounds + 1, ackTimer := none, held := true } }))

/-! ### Invariants of every step -/

/-- The state after reset is sound: the pool is accounted for, the table, the queue, the references, the zones, the
generators, the capture store and the host line are as the invariants below say. The lines and straps it starts from are
the model's choice (log entry 4). -/
def Obligations.ResetIsSound : Prop :=
  State.reset.poolAccounted ∧ State.reset.tableSound ∧ State.reset.referencesCounted ∧ State.reset.inputsTaken ∧
    State.reset.zonesOwned ∧ State.reset.generatorsCounted ∧ State.reset.captureBounded ∧ State.reset.line.bounded

/-- Every step keeps the pool accounted for: the free blocks and the blocks of the slots are 256 together (R8). -/
def Obligations.StepKeepsPoolAccounted : Prop :=
  ∀ s t : State, s.poolAccounted → step s = .next t → t.poolAccounted

/-- Every step keeps the code table sound: the LOADING slot and the load context belong together, as do the LEARNING
slot and the learn context, with the cells stored counted and summed by the context, and every stored code has all its
cells, none below 8 µs, with the checksum over them (R1, R7, R18, R24, R28, R148, R149, R152, R153). -/
def Obligations.StepKeepsTableSound : Prop :=
  ∀ s t : State, s.tableSound → step s = .next t → t.tableSound

/-- Every step keeps the job queue in order and the references counted: at most 16 jobs with distinct ids from 1 to 255,
URGENT ahead of NORMAL, no verify input named twice, and on every slot as many references as live jobs that name it (R9,
R34, R42, R43). Every step also keeps the inputs taken as the manual says: an input is in LEARN while the learn in
progress has taken it, and then no live job names it; an input is in VERIFY while its verify record names a RUNNING,
DRAINING or SETTLING job that names the input; a taken input, and no other, has a saved mode, OFF, MATCH or RAW; and a
SETTLING job has a verify input (R39, R105, R125, R149, R156). -/
def Obligations.StepKeepsReferencesCounted : Prop :=
  (∀ s t : State, s.referencesCounted → step s = .next t → t.referencesCounted) ∧
    ∀ s t : State, s.inputsTaken → step s = .next t → t.inputsTaken

/-- Every step keeps the zones owned as the manual says: an ACTIVE zone by one RUNNING or DRAINING job that names it,
each zone of such a job ACTIVE with it as owner, and no zone in OFF named by a job that is not SETTLING (R56, R61). -/
def Obligations.StepKeepsZonesOwned : Prop :=
  ∀ s t : State, s.zonesOwned → step s = .next t → t.zonesOwned

/-- Every step keeps the carrier generators counted: a generator's user count is the number of jobs that hold it, it is
FREE when none does, and only a job that plays holds one (R66 to R68). -/
def Obligations.StepKeepsGeneratorsCounted : Prop :=
  ∀ s t : State, s.generatorsCounted → step s = .next t → t.generatorsCounted

/-- Every step keeps the capture store within 2,048 cells and 8 entries, and every closed frame with an odd number of
cells up to 511, each cell of a closed or open frame being 1 to 65,535 µs (R128, R129, R132; the least cell: log entry
29). -/
def Obligations.StepKeepsCaptureBounded : Prop :=
  ∀ s t : State, s.captureBounded → step s = .next t → t.captureBounded

/-- Every step keeps the host line within its bounds: at most 4 commands in the FIFO, 4 link errors waiting, one reply
waiting or being sent, 32 reports of which at most 8 are outstanding, with sequences that run upward modulo 256, and a
REPLY in the replay record (R165 to R167, R169). -/
def Obligations.StepKeepsLineBounded : Prop :=
  ∀ s t : State, s.line.bounded → step s = .next t → t.line.bounded

end
end

