-- ==== Sys2Proof/Laws/State.lean ====
section
/-! SUPPORT. What each writer of the state changes and what it keeps, one lemma per field and writer. -/

namespace Sys2Proof.Machine

@[simp] theorem State.setTable_pending (s : State) (t : CodeTable) : (s.setTable t).pending = s.pending := rfl
@[simp] theorem State.setTable_draws (s : State) (t : CodeTable) : (s.setTable t).draws = s.draws := rfl
@[simp] theorem State.setTable_clock (s : State) (t : CodeTable) : (s.setTable t).clock = s.clock := rfl
@[simp] theorem State.setTable_table (s : State) (t : CodeTable) : (s.setTable t).table = t := rfl
@[simp] theorem State.setTable_jobs (s : State) (t : CodeTable) : (s.setTable t).jobs = s.jobs := rfl
@[simp] theorem State.setTable_nextId (s : State) (t : CodeTable) : (s.setTable t).nextId = s.nextId := rfl
@[simp] theorem State.setTable_zones (s : State) (t : CodeTable) : (s.setTable t).zones = s.zones := rfl
@[simp] theorem State.setTable_generators (s : State) (t : CodeTable) : (s.setTable t).generators = s.generators := rfl
@[simp] theorem State.setTable_groups (s : State) (t : CodeTable) : (s.setTable t).groups = s.groups := rfl
@[simp] theorem State.setTable_inputs (s : State) (t : CodeTable) : (s.setTable t).inputs = s.inputs := rfl
@[simp] theorem State.setTable_captures (s : State) (t : CodeTable) : (s.setTable t).captures = s.captures := rfl
@[simp] theorem State.setTable_line (s : State) (t : CodeTable) : (s.setTable t).line = s.line := rfl
@[simp] theorem State.setTable_params (s : State) (t : CodeTable) : (s.setTable t).params = s.params := rfl

@[simp] theorem State.setJobs_pending (s : State) (js : List Job) : (s.setJobs js).pending = s.pending := rfl
@[simp] theorem State.setJobs_draws (s : State) (js : List Job) : (s.setJobs js).draws = s.draws := rfl
@[simp] theorem State.setJobs_clock (s : State) (js : List Job) : (s.setJobs js).clock = s.clock := rfl
@[simp] theorem State.setJobs_table (s : State) (js : List Job) : (s.setJobs js).table = s.table := rfl
@[simp] theorem State.setJobs_jobs (s : State) (js : List Job) : (s.setJobs js).jobs = js := rfl
@[simp] theorem State.setJobs_nextId (s : State) (js : List Job) : (s.setJobs js).nextId = s.nextId := rfl
@[simp] theorem State.setJobs_zones (s : State) (js : List Job) : (s.setJobs js).zones = s.zones := rfl
@[simp] theorem State.setJobs_generators (s : State) (js : List Job) : (s.setJobs js).generators = s.generators := rfl
@[simp] theorem State.setJobs_groups (s : State) (js : List Job) : (s.setJobs js).groups = s.groups := rfl
@[simp] theorem State.setJobs_inputs (s : State) (js : List Job) : (s.setJobs js).inputs = s.inputs := rfl
@[simp] theorem State.setJobs_captures (s : State) (js : List Job) : (s.setJobs js).captures = s.captures := rfl
@[simp] theorem State.setJobs_line (s : State) (js : List Job) : (s.setJobs js).line = s.line := rfl
@[simp] theorem State.setJobs_params (s : State) (js : List Job) : (s.setJobs js).params = s.params := rfl

@[simp] theorem State.setNextId_pending (s : State) (n : Nat) : (s.setNextId n).pending = s.pending := rfl
@[simp] theorem State.setNextId_draws (s : State) (n : Nat) : (s.setNextId n).draws = s.draws := rfl
@[simp] theorem State.setNextId_clock (s : State) (n : Nat) : (s.setNextId n).clock = s.clock := rfl
@[simp] theorem State.setNextId_table (s : State) (n : Nat) : (s.setNextId n).table = s.table := rfl
@[simp] theorem State.setNextId_jobs (s : State) (n : Nat) : (s.setNextId n).jobs = s.jobs := rfl
@[simp] theorem State.setNextId_nextId (s : State) (n : Nat) : (s.setNextId n).nextId = n := rfl
@[simp] theorem State.setNextId_zones (s : State) (n : Nat) : (s.setNextId n).zones = s.zones := rfl
@[simp] theorem State.setNextId_generators (s : State) (n : Nat) : (s.setNextId n).generators = s.generators := rfl
@[simp] theorem State.setNextId_groups (s : State) (n : Nat) : (s.setNextId n).groups = s.groups := rfl
@[simp] theorem State.setNextId_inputs (s : State) (n : Nat) : (s.setNextId n).inputs = s.inputs := rfl
@[simp] theorem State.setNextId_captures (s : State) (n : Nat) : (s.setNextId n).captures = s.captures := rfl
@[simp] theorem State.setNextId_line (s : State) (n : Nat) : (s.setNextId n).line = s.line := rfl
@[simp] theorem State.setNextId_params (s : State) (n : Nat) : (s.setNextId n).params = s.params := rfl

@[simp] theorem State.setZones_pending (s : State) (zs : Vector Zone 8) : (s.setZones zs).pending = s.pending := rfl
@[simp] theorem State.setZones_draws (s : State) (zs : Vector Zone 8) : (s.setZones zs).draws = s.draws := rfl
@[simp] theorem State.setZones_clock (s : State) (zs : Vector Zone 8) : (s.setZones zs).clock = s.clock := rfl
@[simp] theorem State.setZones_table (s : State) (zs : Vector Zone 8) : (s.setZones zs).table = s.table := rfl
@[simp] theorem State.setZones_jobs (s : State) (zs : Vector Zone 8) : (s.setZones zs).jobs = s.jobs := rfl
@[simp] theorem State.setZones_nextId (s : State) (zs : Vector Zone 8) : (s.setZones zs).nextId = s.nextId := rfl
@[simp] theorem State.setZones_zones (s : State) (zs : Vector Zone 8) : (s.setZones zs).zones = zs := rfl
@[simp] theorem State.setZones_generators (s : State) (zs : Vector Zone 8) : (s.setZones zs).generators = s.generators := rfl
@[simp] theorem State.setZones_groups (s : State) (zs : Vector Zone 8) : (s.setZones zs).groups = s.groups := rfl
@[simp] theorem State.setZones_inputs (s : State) (zs : Vector Zone 8) : (s.setZones zs).inputs = s.inputs := rfl
@[simp] theorem State.setZones_captures (s : State) (zs : Vector Zone 8) : (s.setZones zs).captures = s.captures := rfl
@[simp] theorem State.setZones_line (s : State) (zs : Vector Zone 8) : (s.setZones zs).line = s.line := rfl
@[simp] theorem State.setZones_params (s : State) (zs : Vector Zone 8) : (s.setZones zs).params = s.params := rfl

@[simp] theorem State.setGenerators_pending (s : State) (gs : Vector (Option Carrier) 4) : (s.setGenerators gs).pending = s.pending := rfl
@[simp] theorem State.setGenerators_draws (s : State) (gs : Vector (Option Carrier) 4) : (s.setGenerators gs).draws = s.draws := rfl
@[simp] theorem State.setGenerators_clock (s : State) (gs : Vector (Option Carrier) 4) : (s.setGenerators gs).clock = s.clock := rfl
@[simp] theorem State.setGenerators_table (s : State) (gs : Vector (Option Carrier) 4) : (s.setGenerators gs).table = s.table := rfl
@[simp] theorem State.setGenerators_jobs (s : State) (gs : Vector (Option Carrier) 4) : (s.setGenerators gs).jobs = s.jobs := rfl
@[simp] theorem State.setGenerators_nextId (s : State) (gs : Vector (Option Carrier) 4) : (s.setGenerators gs).nextId = s.nextId := rfl
@[simp] theorem State.setGenerators_zones (s : State) (gs : Vector (Option Carrier) 4) : (s.setGenerators gs).zones = s.zones := rfl
@[simp] theorem State.setGenerators_generators (s : State) (gs : Vector (Option Carrier) 4) : (s.setGenerators gs).generators = gs := rfl
@[simp] theorem State.setGenerators_groups (s : State) (gs : Vector (Option Carrier) 4) : (s.setGenerators gs).groups = s.groups := rfl
@[simp] theorem State.setGenerators_inputs (s : State) (gs : Vector (Option Carrier) 4) : (s.setGenerators gs).inputs = s.inputs := rfl
@[simp] theorem State.setGenerators_captures (s : State) (gs : Vector (Option Carrier) 4) : (s.setGenerators gs).captures = s.captures := rfl
@[simp] theorem State.setGenerators_line (s : State) (gs : Vector (Option Carrier) 4) : (s.setGenerators gs).line = s.line := rfl
@[simp] theorem State.setGenerators_params (s : State) (gs : Vector (Option Carrier) 4) : (s.setGenerators gs).params = s.params := rfl

@[simp] theorem State.setGroups_pending (s : State) (gs : Vector Group 4) : (s.setGroups gs).pending = s.pending := rfl
@[simp] theorem State.setGroups_draws (s : State) (gs : Vector Group 4) : (s.setGroups gs).draws = s.draws := rfl
@[simp] theorem State.setGroups_clock (s : State) (gs : Vector Group 4) : (s.setGroups gs).clock = s.clock := rfl
@[simp] theorem State.setGroups_table (s : State) (gs : Vector Group 4) : (s.setGroups gs).table = s.table := rfl
@[simp] theorem State.setGroups_jobs (s : State) (gs : Vector Group 4) : (s.setGroups gs).jobs = s.jobs := rfl
@[simp] theorem State.setGroups_nextId (s : State) (gs : Vector Group 4) : (s.setGroups gs).nextId = s.nextId := rfl
@[simp] theorem State.setGroups_zones (s : State) (gs : Vector Group 4) : (s.setGroups gs).zones = s.zones := rfl
@[simp] theorem State.setGroups_generators (s : State) (gs : Vector Group 4) : (s.setGroups gs).generators = s.generators := rfl
@[simp] theorem State.setGroups_groups (s : State) (gs : Vector Group 4) : (s.setGroups gs).groups = gs := rfl
@[simp] theorem State.setGroups_inputs (s : State) (gs : Vector Group 4) : (s.setGroups gs).inputs = s.inputs := rfl
@[simp] theorem State.setGroups_captures (s : State) (gs : Vector Group 4) : (s.setGroups gs).captures = s.captures := rfl
@[simp] theorem State.setGroups_line (s : State) (gs : Vector Group 4) : (s.setGroups gs).line = s.line := rfl
@[simp] theorem State.setGroups_params (s : State) (gs : Vector Group 4) : (s.setGroups gs).params = s.params := rfl

@[simp] theorem State.setInputs_pending (s : State) (is : Vector RxInput 2) : (s.setInputs is).pending = s.pending := rfl
@[simp] theorem State.setInputs_draws (s : State) (is : Vector RxInput 2) : (s.setInputs is).draws = s.draws := rfl
@[simp] theorem State.setInputs_clock (s : State) (is : Vector RxInput 2) : (s.setInputs is).clock = s.clock := rfl
@[simp] theorem State.setInputs_table (s : State) (is : Vector RxInput 2) : (s.setInputs is).table = s.table := rfl
@[simp] theorem State.setInputs_jobs (s : State) (is : Vector RxInput 2) : (s.setInputs is).jobs = s.jobs := rfl
@[simp] theorem State.setInputs_nextId (s : State) (is : Vector RxInput 2) : (s.setInputs is).nextId = s.nextId := rfl
@[simp] theorem State.setInputs_zones (s : State) (is : Vector RxInput 2) : (s.setInputs is).zones = s.zones := rfl
@[simp] theorem State.setInputs_generators (s : State) (is : Vector RxInput 2) : (s.setInputs is).generators = s.generators := rfl
@[simp] theorem State.setInputs_groups (s : State) (is : Vector RxInput 2) : (s.setInputs is).groups = s.groups := rfl
@[simp] theorem State.setInputs_inputs (s : State) (is : Vector RxInput 2) : (s.setInputs is).inputs = is := rfl
@[simp] theorem State.setInputs_captures (s : State) (is : Vector RxInput 2) : (s.setInputs is).captures = s.captures := rfl
@[simp] theorem State.setInputs_line (s : State) (is : Vector RxInput 2) : (s.setInputs is).line = s.line := rfl
@[simp] theorem State.setInputs_params (s : State) (is : Vector RxInput 2) : (s.setInputs is).params = s.params := rfl

@[simp] theorem State.setCaptures_pending (s : State) (cs : List CapturedFrame) : (s.setCaptures cs).pending = s.pending := rfl
@[simp] theorem State.setCaptures_draws (s : State) (cs : List CapturedFrame) : (s.setCaptures cs).draws = s.draws := rfl
@[simp] theorem State.setCaptures_clock (s : State) (cs : List CapturedFrame) : (s.setCaptures cs).clock = s.clock := rfl
@[simp] theorem State.setCaptures_table (s : State) (cs : List CapturedFrame) : (s.setCaptures cs).table = s.table := rfl
@[simp] theorem State.setCaptures_jobs (s : State) (cs : List CapturedFrame) : (s.setCaptures cs).jobs = s.jobs := rfl
@[simp] theorem State.setCaptures_nextId (s : State) (cs : List CapturedFrame) : (s.setCaptures cs).nextId = s.nextId := rfl
@[simp] theorem State.setCaptures_zones (s : State) (cs : List CapturedFrame) : (s.setCaptures cs).zones = s.zones := rfl
@[simp] theorem State.setCaptures_generators (s : State) (cs : List CapturedFrame) : (s.setCaptures cs).generators = s.generators := rfl
@[simp] theorem State.setCaptures_groups (s : State) (cs : List CapturedFrame) : (s.setCaptures cs).groups = s.groups := rfl
@[simp] theorem State.setCaptures_inputs (s : State) (cs : List CapturedFrame) : (s.setCaptures cs).inputs = s.inputs := rfl
@[simp] theorem State.setCaptures_captures (s : State) (cs : List CapturedFrame) : (s.setCaptures cs).captures = cs := rfl
@[simp] theorem State.setCaptures_line (s : State) (cs : List CapturedFrame) : (s.setCaptures cs).line = s.line := rfl
@[simp] theorem State.setCaptures_params (s : State) (cs : List CapturedFrame) : (s.setCaptures cs).params = s.params := rfl

@[simp] theorem State.setLine_pending (s : State) (l : HostLine) : (s.setLine l).pending = s.pending := rfl
@[simp] theorem State.setLine_draws (s : State) (l : HostLine) : (s.setLine l).draws = s.draws := rfl
@[simp] theorem State.setLine_clock (s : State) (l : HostLine) : (s.setLine l).clock = s.clock := rfl
@[simp] theorem State.setLine_table (s : State) (l : HostLine) : (s.setLine l).table = s.table := rfl
@[simp] theorem State.setLine_jobs (s : State) (l : HostLine) : (s.setLine l).jobs = s.jobs := rfl
@[simp] theorem State.setLine_nextId (s : State) (l : HostLine) : (s.setLine l).nextId = s.nextId := rfl
@[simp] theorem State.setLine_zones (s : State) (l : HostLine) : (s.setLine l).zones = s.zones := rfl
@[simp] theorem State.setLine_generators (s : State) (l : HostLine) : (s.setLine l).generators = s.generators := rfl
@[simp] theorem State.setLine_groups (s : State) (l : HostLine) : (s.setLine l).groups = s.groups := rfl
@[simp] theorem State.setLine_inputs (s : State) (l : HostLine) : (s.setLine l).inputs = s.inputs := rfl
@[simp] theorem State.setLine_captures (s : State) (l : HostLine) : (s.setLine l).captures = s.captures := rfl
@[simp] theorem State.setLine_line (s : State) (l : HostLine) : (s.setLine l).line = l := rfl
@[simp] theorem State.setLine_params (s : State) (l : HostLine) : (s.setLine l).params = s.params := rfl

@[simp] theorem State.setParams_pending (s : State) (ps : Params) : (s.setParams ps).pending = s.pending := rfl
@[simp] theorem State.setParams_draws (s : State) (ps : Params) : (s.setParams ps).draws = s.draws := rfl
@[simp] theorem State.setParams_clock (s : State) (ps : Params) : (s.setParams ps).clock = s.clock := rfl
@[simp] theorem State.setParams_table (s : State) (ps : Params) : (s.setParams ps).table = s.table := rfl
@[simp] theorem State.setParams_jobs (s : State) (ps : Params) : (s.setParams ps).jobs = s.jobs := rfl
@[simp] theorem State.setParams_nextId (s : State) (ps : Params) : (s.setParams ps).nextId = s.nextId := rfl
@[simp] theorem State.setParams_zones (s : State) (ps : Params) : (s.setParams ps).zones = s.zones := rfl
@[simp] theorem State.setParams_generators (s : State) (ps : Params) : (s.setParams ps).generators = s.generators := rfl
@[simp] theorem State.setParams_groups (s : State) (ps : Params) : (s.setParams ps).groups = s.groups := rfl
@[simp] theorem State.setParams_inputs (s : State) (ps : Params) : (s.setParams ps).inputs = s.inputs := rfl
@[simp] theorem State.setParams_captures (s : State) (ps : Params) : (s.setParams ps).captures = s.captures := rfl
@[simp] theorem State.setParams_line (s : State) (ps : Params) : (s.setParams ps).line = s.line := rfl
@[simp] theorem State.setParams_params (s : State) (ps : Params) : (s.setParams ps).params = ps := rfl

end Sys2Proof.Machine
end

