-- ==== Sys2Proof/Laws/Ops.lean ====
section
/-! SUPPORT. What the named operations over the state do, said once: the fields each keeps, and what reading back what they
write gives. -/

namespace Sys2Proof.Machine

/-! ### Fields kept -/

/-- What State.setZone keeps. -/
@[simp] theorem State.setZone_keeps (s : State) (z : ZoneNo) (x : Zone) :
    (s.setZone z x).pending = s.pending ∧ (s.setZone z x).draws = s.draws ∧ (s.setZone z x).clock = s.clock ∧
    (s.setZone z x).table = s.table ∧ (s.setZone z x).jobs = s.jobs ∧ (s.setZone z x).nextId = s.nextId ∧
    (s.setZone z x).generators = s.generators ∧ (s.setZone z x).groups = s.groups ∧
    (s.setZone z x).inputs = s.inputs ∧ (s.setZone z x).captures = s.captures ∧ (s.setZone z x).line = s.line ∧
    (s.setZone z x).params = s.params := by
  simp [State.setZone]

/-- What State.setInput keeps. -/
@[simp] theorem State.setInput_keeps (s : State) (v : InputNo) (r : RxInput) :
    (s.setInput v r).pending = s.pending ∧ (s.setInput v r).draws = s.draws ∧ (s.setInput v r).clock = s.clock ∧
    (s.setInput v r).table = s.table ∧ (s.setInput v r).jobs = s.jobs ∧ (s.setInput v r).nextId = s.nextId ∧
    (s.setInput v r).zones = s.zones ∧ (s.setInput v r).generators = s.generators ∧
    (s.setInput v r).groups = s.groups ∧ (s.setInput v r).captures = s.captures ∧ (s.setInput v r).line = s.line ∧
    (s.setInput v r).params = s.params := by
  simp [State.setInput]

/-- What State.updateJob keeps. -/
@[simp] theorem State.updateJob_keeps (s : State) (id : Nat) (f : Job → Job) :
    (s.updateJob id f).pending = s.pending ∧ (s.updateJob id f).draws = s.draws ∧
    (s.updateJob id f).clock = s.clock ∧ (s.updateJob id f).table = s.table ∧ (s.updateJob id f).nextId = s.nextId ∧
    (s.updateJob id f).zones = s.zones ∧ (s.updateJob id f).generators = s.generators ∧
    (s.updateJob id f).groups = s.groups ∧ (s.updateJob id f).inputs = s.inputs ∧
    (s.updateJob id f).captures = s.captures ∧ (s.updateJob id f).line = s.line ∧
    (s.updateJob id f).params = s.params := by
  simp [State.updateJob]

/-- What State.removeJob keeps. -/
@[simp] theorem State.removeJob_keeps (s : State) (id : Nat) :
    (s.removeJob id).pending = s.pending ∧ (s.removeJob id).draws = s.draws ∧ (s.removeJob id).clock = s.clock ∧
    (s.removeJob id).table = s.table ∧ (s.removeJob id).nextId = s.nextId ∧ (s.removeJob id).zones = s.zones ∧
    (s.removeJob id).generators = s.generators ∧ (s.removeJob id).groups = s.groups ∧
    (s.removeJob id).inputs = s.inputs ∧ (s.removeJob id).captures = s.captures ∧ (s.removeJob id).line = s.line ∧
    (s.removeJob id).params = s.params := by
  simp [State.removeJob]

/-- What State.putSlot keeps. -/
@[simp] theorem State.putSlot_keeps (s : State) (i : SlotNo) (x : Slot) :
    (s.putSlot i x).pending = s.pending ∧ (s.putSlot i x).draws = s.draws ∧ (s.putSlot i x).clock = s.clock ∧
    (s.putSlot i x).jobs = s.jobs ∧ (s.putSlot i x).nextId = s.nextId ∧ (s.putSlot i x).zones = s.zones ∧
    (s.putSlot i x).generators = s.generators ∧ (s.putSlot i x).groups = s.groups ∧
    (s.putSlot i x).inputs = s.inputs ∧ (s.putSlot i x).captures = s.captures ∧ (s.putSlot i x).line = s.line ∧
    (s.putSlot i x).params = s.params := by
  simp [State.putSlot]

/-- What State.setLoad keeps. -/
@[simp] theorem State.setLoad_keeps (s : State) (c : Option LoadContext) :
    (s.setLoad c).pending = s.pending ∧ (s.setLoad c).draws = s.draws ∧ (s.setLoad c).clock = s.clock ∧
    (s.setLoad c).jobs = s.jobs ∧ (s.setLoad c).nextId = s.nextId ∧ (s.setLoad c).zones = s.zones ∧
    (s.setLoad c).generators = s.generators ∧ (s.setLoad c).groups = s.groups ∧ (s.setLoad c).inputs = s.inputs ∧
    (s.setLoad c).captures = s.captures ∧ (s.setLoad c).line = s.line ∧ (s.setLoad c).params = s.params := by
  simp [State.setLoad]

/-- What State.setLearn keeps. -/
@[simp] theorem State.setLearn_keeps (s : State) (c : Option LearnContext) :
    (s.setLearn c).pending = s.pending ∧ (s.setLearn c).draws = s.draws ∧ (s.setLearn c).clock = s.clock ∧
    (s.setLearn c).jobs = s.jobs ∧ (s.setLearn c).nextId = s.nextId ∧ (s.setLearn c).zones = s.zones ∧
    (s.setLearn c).generators = s.generators ∧ (s.setLearn c).groups = s.groups ∧ (s.setLearn c).inputs = s.inputs ∧
    (s.setLearn c).captures = s.captures ∧ (s.setLearn c).line = s.line ∧ (s.setLearn c).params = s.params := by
  simp [State.setLearn]

/-- What State.produce keeps. -/
@[simp] theorem State.produce_keeps (s : State) (r : Report) :
    (s.produce r).pending = s.pending ∧ (s.produce r).draws = s.draws ∧ (s.produce r).clock = s.clock ∧
    (s.produce r).table = s.table ∧ (s.produce r).jobs = s.jobs ∧ (s.produce r).nextId = s.nextId ∧
    (s.produce r).zones = s.zones ∧ (s.produce r).generators = s.generators ∧ (s.produce r).groups = s.groups ∧
    (s.produce r).inputs = s.inputs ∧ (s.produce r).captures = s.captures ∧ (s.produce r).params = s.params := by
  simp [State.produce]

/-- What State.joinCaptured keeps. -/
@[simp] theorem State.joinCaptured_keeps (s : State) (rs : List Report) :
    (s.joinCaptured rs).pending = s.pending ∧ (s.joinCaptured rs).draws = s.draws ∧
    (s.joinCaptured rs).clock = s.clock ∧ (s.joinCaptured rs).table = s.table ∧ (s.joinCaptured rs).jobs = s.jobs ∧
    (s.joinCaptured rs).nextId = s.nextId ∧ (s.joinCaptured rs).zones = s.zones ∧
    (s.joinCaptured rs).generators = s.generators ∧ (s.joinCaptured rs).groups = s.groups ∧
    (s.joinCaptured rs).inputs = s.inputs ∧ (s.joinCaptured rs).captures = s.captures ∧
    (s.joinCaptured rs).params = s.params := by
  simp [State.joinCaptured]

/-- What State.linkError keeps. -/
@[simp] theorem State.linkError_keeps (s : State) (e : LinkFault) (tag : Byte) :
    (s.linkError e tag).pending = s.pending ∧ (s.linkError e tag).draws = s.draws ∧
    (s.linkError e tag).clock = s.clock ∧ (s.linkError e tag).table = s.table ∧ (s.linkError e tag).jobs = s.jobs ∧
    (s.linkError e tag).nextId = s.nextId ∧ (s.linkError e tag).zones = s.zones ∧
    (s.linkError e tag).generators = s.generators ∧ (s.linkError e tag).groups = s.groups ∧
    (s.linkError e tag).inputs = s.inputs ∧ (s.linkError e tag).captures = s.captures ∧
    (s.linkError e tag).params = s.params := by
  unfold State.linkError
  split <;> simp

/-! ### Reading back -/

/-- A zone record reads as it was written, and the others stay. -/
theorem State.zone_setZone (s : State) (z w : ZoneNo) (x : Zone) :
    (s.setZone z x).zone w = if w = z then x else s.zone w := by
  simp only [State.zone, State.setZone, State.setZones_zones, Fin.getElem_fin, Vector.getElem_set, Fin.ext_iff]
  split <;> split <;> first | rfl | omega

/-- An input reads as it was written, and the other stays. -/
theorem State.input_setInput (s : State) (v w : InputNo) (r : RxInput) :
    (s.setInput v r).input w = if w = v then r else s.input w := by
  simp only [State.input, State.setInput, State.setInputs_inputs, Fin.getElem_fin, Vector.getElem_set, Fin.ext_iff]
  split <;> split <;> first | rfl | omega

/-- A slot reads as it was written, and the others stay. -/
theorem State.slot_putSlot (s : State) (i k : SlotNo) (x : Slot) :
    (s.putSlot i x).slot k = if k = i then x else s.slot k := by
  simp only [State.slot, State.putSlot, State.setTable_table, Fin.getElem_fin, Vector.getElem_set, Fin.ext_iff]
  split <;> split <;> first | rfl | omega

@[simp] theorem State.zone_setZone_self (s : State) (z : ZoneNo) (x : Zone) : (s.setZone z x).zone z = x := by
  simp [State.zone_setZone]

@[simp] theorem State.input_setInput_self (s : State) (v : InputNo) (r : RxInput) : (s.setInput v r).input v = r := by
  simp [State.input_setInput]

@[simp] theorem State.slot_putSlot_self (s : State) (i : SlotNo) (x : Slot) : (s.putSlot i x).slot i = x := by
  simp [State.slot_putSlot]

/-- Setting a context leaves every slot and the pool. -/
@[simp] theorem State.setLoad_table (s : State) (c : Option LoadContext) :
    (s.setLoad c).table = { s.table with load := c } := rfl

@[simp] theorem State.setLearn_table (s : State) (c : Option LearnContext) :
    (s.setLearn c).table = { s.table with learn := c } := rfl

/-- What writing a slot does to the table (R8). -/
theorem State.putSlot_table (s : State) (i : SlotNo) (x : Slot) :
    (s.putSlot i x).table =
      { s.table with
        slots := s.table.slots.set i.val x i.isLt
        freeBlocks := s.table.freeBlocks + (s.slot i).blocks - x.blocks } := rfl

/-! ### Vectors -/

/-- The list of a changed vector is the changed list. -/
@[simp] theorem mapVector_toList {α β : Type} {n : Nat} (v : Vector α n) (f : α → β) :
    (mapVector v f).toList = v.toList.map f := by
  simp [mapVector, Vector.toList]

/-- An element of a changed vector is the changed element. -/
@[simp] theorem mapVector_getElem {α β : Type} {n : Nat} (v : Vector α n) (f : α → β) (i : Nat) (h : i < n) :
    (mapVector v f)[i] = f v[i] := by
  simp [mapVector, Vector.getElem_mk]

/-! ### Reports -/

/-- Everything that producing a report can do to the host line (R170, R173): nothing, a join at the tail with the next
sequence, or a rise of the lost count. -/
theorem HostLine.produce_cases (l : HostLine) (r : Report) :
    (l.selects r.category = false ∧ l.produce r = l) ∨
      (l.selects r.category = true ∧ l.reports.length < 32 ∧ l.produce r = l.join r) ∨
      (l.selects r.category = true ∧ 32 ≤ l.reports.length ∧ l.produce r = { l with lost := bump l.lost }) := by
  unfold HostLine.produce
  by_cases h : l.selects r.category = true
  · by_cases h2 : l.reports.length < Config.reportEntries
    · exact .inr (.inl ⟨h, h2, by simp [h, h2]⟩)
    · exact .inr (.inr ⟨h, by simpa [Config.reportEntries] using h2, by simp [h, h2]⟩)
  · exact .inl ⟨by simpa using h, by simp [h]⟩

/-- Everything that sending a frame can do to the host line (R167). -/
theorem HostLine.send_cases (l : HostLine) (clock : Nat) (f : OutFrame) :
    (l.sending = none ∧ l.waiting = [] ∧ l.send clock f = { l with sending := some f, sendingSince := clock }) ∨
      ((l.sending.isSome = true ∨ l.waiting ≠ []) ∧ l.send clock f = { l with waiting := l.waiting ++ [f] }) := by
  unfold HostLine.send
  cases h : l.sending <;> cases h2 : l.waiting <;> simp

/-- A frame on HTX is SYNC, LEN, KIND, TAG, TYPE, its payload and two CRC bytes (R163). -/
@[simp] theorem OutFrame.bytes_length (f : OutFrame) : f.bytes.length = f.payload.length + 7 := by
  simp [OutFrame.bytes, frameBytes, OutFrame.wire, makeFrame]

end Sys2Proof.Machine
end

