-- ==== Sys2Proof/Laws/Blocks.lean ====
section
/-! SUPPORT. What the shared operations of the blocks keep, said once for each operation. -/

namespace Sys2Proof.Machine

/-- What State.evaluate keeps. -/
@[simp] theorem State.evaluate_keeps (s : State) (z : ZoneNo) :
    (s.evaluate z).pending = s.pending ∧ (s.evaluate z).draws = s.draws ∧ (s.evaluate z).clock = s.clock ∧
    (s.evaluate z).table = s.table ∧ (s.evaluate z).jobs = s.jobs ∧ (s.evaluate z).nextId = s.nextId ∧
    (s.evaluate z).generators = s.generators ∧ (s.evaluate z).groups = s.groups ∧ (s.evaluate z).inputs = s.inputs ∧
    (s.evaluate z).captures = s.captures ∧ (s.evaluate z).params = s.params := by
  unfold State.evaluate
  simp only []
  split <;> simp

/-- What State.markEnd keeps. -/
@[simp] theorem State.markEnd_keeps (s : State) (z : ZoneNo) (d v : Nat) :
    (s.markEnd z d v).pending = s.pending ∧ (s.markEnd z d v).draws = s.draws ∧ (s.markEnd z d v).clock = s.clock ∧
    (s.markEnd z d v).table = s.table ∧ (s.markEnd z d v).jobs = s.jobs ∧ (s.markEnd z d v).nextId = s.nextId ∧
    (s.markEnd z d v).generators = s.generators ∧ (s.markEnd z d v).groups = s.groups ∧
    (s.markEnd z d v).inputs = s.inputs ∧ (s.markEnd z d v).captures = s.captures ∧
    (s.markEnd z d v).params = s.params := by
  simp [State.markEnd]

/-- What State.markEnds keeps. -/
@[simp] theorem State.markEnds_keeps (s : State) (d : Nat) (ps : List (ZoneNo × Nat)) :
    (s.markEnds d ps).pending = s.pending ∧ (s.markEnds d ps).draws = s.draws ∧ (s.markEnds d ps).clock = s.clock ∧
    (s.markEnds d ps).table = s.table ∧ (s.markEnds d ps).jobs = s.jobs ∧ (s.markEnds d ps).nextId = s.nextId ∧
    (s.markEnds d ps).generators = s.generators ∧ (s.markEnds d ps).groups = s.groups ∧
    (s.markEnds d ps).inputs = s.inputs ∧ (s.markEnds d ps).captures = s.captures ∧
    (s.markEnds d ps).params = s.params := by
  unfold State.markEnds
  induction ps generalizing s with
  | nil => simp
  | cons p ps ih => simpa using ih (s.markEnd p.1 d p.2)

/-- What State.setRun keeps. -/
@[simp] theorem State.setRun_keeps (s : State) (v : InputNo) (r : Option Run) :
    (s.setRun v r).pending = s.pending ∧ (s.setRun v r).draws = s.draws ∧ (s.setRun v r).clock = s.clock ∧
    (s.setRun v r).table = s.table ∧ (s.setRun v r).jobs = s.jobs ∧ (s.setRun v r).nextId = s.nextId ∧
    (s.setRun v r).zones = s.zones ∧ (s.setRun v r).generators = s.generators ∧ (s.setRun v r).groups = s.groups ∧
    (s.setRun v r).captures = s.captures ∧ (s.setRun v r).line = s.line ∧ (s.setRun v r).params = s.params := by
  simp [State.setRun]

/-- What State.decideRunEnd keeps. -/
@[simp] theorem State.decideRunEnd_keeps (s : State) (v : InputNo) (r : Run) :
    (s.decideRunEnd v r).pending = s.pending ∧ (s.decideRunEnd v r).draws = s.draws ∧
    (s.decideRunEnd v r).clock = s.clock ∧ (s.decideRunEnd v r).table = s.table ∧ (s.decideRunEnd v r).jobs = s.jobs ∧
    (s.decideRunEnd v r).nextId = s.nextId ∧ (s.decideRunEnd v r).zones = s.zones ∧
    (s.decideRunEnd v r).generators = s.generators ∧ (s.decideRunEnd v r).groups = s.groups ∧
    (s.decideRunEnd v r).captures = s.captures ∧ (s.decideRunEnd v r).params = s.params := by
  unfold State.decideRunEnd
  simp only []
  split <;> simp

/-- What State.checkRunEnd keeps. -/
@[simp] theorem State.checkRunEnd_keeps (s : State) (v : InputNo) :
    (s.checkRunEnd v).pending = s.pending ∧ (s.checkRunEnd v).draws = s.draws ∧ (s.checkRunEnd v).clock = s.clock ∧
    (s.checkRunEnd v).table = s.table ∧ (s.checkRunEnd v).jobs = s.jobs ∧ (s.checkRunEnd v).nextId = s.nextId ∧
    (s.checkRunEnd v).zones = s.zones ∧ (s.checkRunEnd v).generators = s.generators ∧
    (s.checkRunEnd v).groups = s.groups ∧ (s.checkRunEnd v).captures = s.captures ∧
    (s.checkRunEnd v).params = s.params := by
  unfold State.checkRunEnd
  split
  · simp
  · split <;> simp

/-- What State.recheckRunEnd keeps. -/
@[simp] theorem State.recheckRunEnd_keeps (s : State) (v : InputNo) :
    (s.recheckRunEnd v).pending = s.pending ∧ (s.recheckRunEnd v).draws = s.draws ∧
    (s.recheckRunEnd v).clock = s.clock ∧ (s.recheckRunEnd v).table = s.table ∧ (s.recheckRunEnd v).jobs = s.jobs ∧
    (s.recheckRunEnd v).nextId = s.nextId ∧ (s.recheckRunEnd v).zones = s.zones ∧
    (s.recheckRunEnd v).generators = s.generators ∧ (s.recheckRunEnd v).groups = s.groups ∧
    (s.recheckRunEnd v).captures = s.captures ∧ (s.recheckRunEnd v).params = s.params := by
  unfold State.recheckRunEnd
  split
  · split <;> simp
  · simp

/-- What State.retryRunEnd keeps. -/
@[simp] theorem State.retryRunEnd_keeps (s : State) (v : InputNo) :
    (s.retryRunEnd v).pending = s.pending ∧ (s.retryRunEnd v).draws = s.draws ∧ (s.retryRunEnd v).clock = s.clock ∧
    (s.retryRunEnd v).table = s.table ∧ (s.retryRunEnd v).jobs = s.jobs ∧ (s.retryRunEnd v).nextId = s.nextId ∧
    (s.retryRunEnd v).zones = s.zones ∧ (s.retryRunEnd v).generators = s.generators ∧
    (s.retryRunEnd v).groups = s.groups ∧ (s.retryRunEnd v).captures = s.captures ∧
    (s.retryRunEnd v).params = s.params := by
  unfold State.retryRunEnd
  split
  · split <;> simp
  · simp

/-- What State.discardOpen keeps. -/
@[simp] theorem State.discardOpen_keeps (s : State) (v : InputNo) :
    (s.discardOpen v).pending = s.pending ∧ (s.discardOpen v).draws = s.draws ∧ (s.discardOpen v).clock = s.clock ∧
    (s.discardOpen v).table = s.table ∧ (s.discardOpen v).jobs = s.jobs ∧ (s.discardOpen v).nextId = s.nextId ∧
    (s.discardOpen v).zones = s.zones ∧ (s.discardOpen v).generators = s.generators ∧
    (s.discardOpen v).groups = s.groups ∧ (s.discardOpen v).captures = s.captures ∧
    (s.discardOpen v).params = s.params := by
  unfold State.discardOpen
  split <;> simp

/-- What State.takeInput keeps. -/
@[simp] theorem State.takeInput_keeps (s : State) (v : InputNo) (m : InputMode) :
    (s.takeInput v m).pending = s.pending ∧ (s.takeInput v m).draws = s.draws ∧ (s.takeInput v m).clock = s.clock ∧
    (s.takeInput v m).table = s.table ∧ (s.takeInput v m).jobs = s.jobs ∧ (s.takeInput v m).nextId = s.nextId ∧
    (s.takeInput v m).zones = s.zones ∧ (s.takeInput v m).generators = s.generators ∧
    (s.takeInput v m).groups = s.groups ∧ (s.takeInput v m).captures = s.captures ∧ (s.takeInput v m).line = s.line ∧
    (s.takeInput v m).params = s.params := by
  simp [State.takeInput]

/-- What State.giveBackInput keeps. -/
@[simp] theorem State.giveBackInput_keeps (s : State) (v : InputNo) :
    (s.giveBackInput v).pending = s.pending ∧ (s.giveBackInput v).draws = s.draws ∧
    (s.giveBackInput v).clock = s.clock ∧ (s.giveBackInput v).table = s.table ∧ (s.giveBackInput v).jobs = s.jobs ∧
    (s.giveBackInput v).nextId = s.nextId ∧ (s.giveBackInput v).zones = s.zones ∧
    (s.giveBackInput v).generators = s.generators ∧ (s.giveBackInput v).groups = s.groups ∧
    (s.giveBackInput v).captures = s.captures ∧ (s.giveBackInput v).params = s.params := by
  unfold State.giveBackInput
  simp only []
  split <;> simp

/-- What State.retire keeps. -/
@[simp] theorem State.retire_keeps (s : State) (i : SlotNo) (c : Code) :
    (s.retire i c).pending = s.pending ∧ (s.retire i c).draws = s.draws ∧ (s.retire i c).clock = s.clock ∧
    (s.retire i c).jobs = s.jobs ∧ (s.retire i c).nextId = s.nextId ∧ (s.retire i c).zones = s.zones ∧
    (s.retire i c).generators = s.generators ∧ (s.retire i c).groups = s.groups ∧ (s.retire i c).inputs = s.inputs ∧
    (s.retire i c).captures = s.captures ∧ (s.retire i c).params = s.params := by
  simp [State.retire]

/-- What State.dropReference keeps. -/
@[simp] theorem State.dropReference_keeps (s : State) (i : SlotNo) :
    (s.dropReference i).pending = s.pending ∧ (s.dropReference i).draws = s.draws ∧
    (s.dropReference i).clock = s.clock ∧ (s.dropReference i).jobs = s.jobs ∧ (s.dropReference i).nextId = s.nextId ∧
    (s.dropReference i).zones = s.zones ∧ (s.dropReference i).generators = s.generators ∧
    (s.dropReference i).groups = s.groups ∧ (s.dropReference i).inputs = s.inputs ∧
    (s.dropReference i).captures = s.captures ∧ (s.dropReference i).params = s.params := by
  unfold State.dropReference
  repeat' split
  all_goals simp

/-- What State.finishJob keeps. -/
@[simp] theorem State.finishJob_keeps (s : State) (id : Nat) :
    (s.finishJob id).pending = s.pending ∧ (s.finishJob id).draws = s.draws ∧ (s.finishJob id).clock = s.clock ∧
    (s.finishJob id).nextId = s.nextId ∧ (s.finishJob id).zones = s.zones ∧
    (s.finishJob id).generators = s.generators ∧ (s.finishJob id).groups = s.groups ∧
    (s.finishJob id).inputs = s.inputs ∧ (s.finishJob id).captures = s.captures ∧
    (s.finishJob id).params = s.params := by
  unfold State.finishJob
  split <;> simp

/-- What State.leaveZones keeps. -/
@[simp] theorem State.leaveZones_keeps (s : State) (id : Nat) :
    (s.leaveZones id).pending = s.pending ∧ (s.leaveZones id).draws = s.draws ∧ (s.leaveZones id).clock = s.clock ∧
    (s.leaveZones id).table = s.table ∧ (s.leaveZones id).jobs = s.jobs ∧ (s.leaveZones id).nextId = s.nextId ∧
    (s.leaveZones id).generators = s.generators ∧ (s.leaveZones id).groups = s.groups ∧
    (s.leaveZones id).inputs = s.inputs ∧ (s.leaveZones id).captures = s.captures ∧ (s.leaveZones id).line = s.line ∧
    (s.leaveZones id).params = s.params := by
  simp [State.leaveZones]

/-- What State.releaseGenerator keeps. -/
@[simp] theorem State.releaseGenerator_keeps (s : State) (g : Option (Fin 4)) :
    (s.releaseGenerator g).pending = s.pending ∧ (s.releaseGenerator g).draws = s.draws ∧
    (s.releaseGenerator g).clock = s.clock ∧ (s.releaseGenerator g).table = s.table ∧
    (s.releaseGenerator g).jobs = s.jobs ∧ (s.releaseGenerator g).nextId = s.nextId ∧
    (s.releaseGenerator g).zones = s.zones ∧ (s.releaseGenerator g).groups = s.groups ∧
    (s.releaseGenerator g).inputs = s.inputs ∧ (s.releaseGenerator g).captures = s.captures ∧
    (s.releaseGenerator g).line = s.line ∧ (s.releaseGenerator g).params = s.params := by
  unfold State.releaseGenerator
  split <;> simp

/-- What State.takeGenerator keeps. -/
@[simp] theorem State.takeGenerator_keeps (s : State) (h : Header) (g : Option (Fin 4)) :
    (s.takeGenerator h g).pending = s.pending ∧ (s.takeGenerator h g).draws = s.draws ∧
    (s.takeGenerator h g).clock = s.clock ∧ (s.takeGenerator h g).table = s.table ∧
    (s.takeGenerator h g).jobs = s.jobs ∧ (s.takeGenerator h g).nextId = s.nextId ∧
    (s.takeGenerator h g).zones = s.zones ∧ (s.takeGenerator h g).groups = s.groups ∧
    (s.takeGenerator h g).inputs = s.inputs ∧ (s.takeGenerator h g).captures = s.captures ∧
    (s.takeGenerator h g).line = s.line ∧ (s.takeGenerator h g).params = s.params := by
  unfold State.takeGenerator
  split <;> simp

/-- What State.unbind keeps. -/
@[simp] theorem State.unbind_keeps (s : State) (v : InputNo) :
    (s.unbind v).pending = s.pending ∧ (s.unbind v).draws = s.draws ∧ (s.unbind v).clock = s.clock ∧
    (s.unbind v).table = s.table ∧ (s.unbind v).jobs = s.jobs ∧ (s.unbind v).nextId = s.nextId ∧
    (s.unbind v).zones = s.zones ∧ (s.unbind v).generators = s.generators ∧ (s.unbind v).groups = s.groups ∧
    (s.unbind v).captures = s.captures ∧ (s.unbind v).params = s.params := by
  simp [State.unbind]

/-- What State.abandonVerify keeps. -/
@[simp] theorem State.abandonVerify_keeps (s : State) (id : Nat) (v : InputNo) (r : VerifyRecord) :
    (s.abandonVerify id v r).pending = s.pending ∧ (s.abandonVerify id v r).draws = s.draws ∧
    (s.abandonVerify id v r).clock = s.clock ∧ (s.abandonVerify id v r).table = s.table ∧
    (s.abandonVerify id v r).nextId = s.nextId ∧ (s.abandonVerify id v r).zones = s.zones ∧
    (s.abandonVerify id v r).generators = s.generators ∧ (s.abandonVerify id v r).groups = s.groups ∧
    (s.abandonVerify id v r).captures = s.captures ∧ (s.abandonVerify id v r).params = s.params := by
  simp [State.abandonVerify]

/-- What State.giveVerdict keeps. -/
@[simp] theorem State.giveVerdict_keeps (s : State) (v : InputNo) (r : VerifyRecord) :
    (s.giveVerdict v r).pending = s.pending ∧ (s.giveVerdict v r).draws = s.draws ∧
    (s.giveVerdict v r).clock = s.clock ∧ (s.giveVerdict v r).nextId = s.nextId ∧
    (s.giveVerdict v r).zones = s.zones ∧ (s.giveVerdict v r).generators = s.generators ∧
    (s.giveVerdict v r).groups = s.groups ∧ (s.giveVerdict v r).captures = s.captures ∧
    (s.giveVerdict v r).params = s.params := by
  simp [State.giveVerdict]

/-- What State.checkSettled keeps. -/
@[simp] theorem State.checkSettled_keeps (s : State) (v : InputNo) :
    (s.checkSettled v).pending = s.pending ∧ (s.checkSettled v).draws = s.draws ∧
    (s.checkSettled v).clock = s.clock ∧ (s.checkSettled v).nextId = s.nextId ∧ (s.checkSettled v).zones = s.zones ∧
    (s.checkSettled v).generators = s.generators ∧ (s.checkSettled v).groups = s.groups ∧
    (s.checkSettled v).captures = s.captures ∧ (s.checkSettled v).params = s.params := by
  unfold State.checkSettled
  repeat' split
  all_goals simp

/-- What State.endJob keeps. -/
@[simp] theorem State.endJob_keeps (s : State) (id : Nat) (reason : EndReason) :
    (s.endJob id reason).pending = s.pending ∧ (s.endJob id reason).draws = s.draws ∧
    (s.endJob id reason).clock = s.clock ∧ (s.endJob id reason).nextId = s.nextId ∧
    (s.endJob id reason).groups = s.groups ∧ (s.endJob id reason).captures = s.captures ∧
    (s.endJob id reason).params = s.params := by
  unfold State.endJob
  repeat' split
  all_goals simp

/-- What State.beginFrame keeps. -/
@[simp] theorem State.beginFrame_keeps (s : State) (j : Job) (kind : FrameKind) :
    (s.beginFrame j kind).pending = s.pending ∧ (s.beginFrame j kind).draws = s.draws ∧
    (s.beginFrame j kind).clock = s.clock ∧ (s.beginFrame j kind).table = s.table ∧
    (s.beginFrame j kind).nextId = s.nextId ∧ (s.beginFrame j kind).zones = s.zones ∧
    (s.beginFrame j kind).generators = s.generators ∧ (s.beginFrame j kind).groups = s.groups ∧
    (s.beginFrame j kind).inputs = s.inputs ∧ (s.beginFrame j kind).captures = s.captures ∧
    (s.beginFrame j kind).line = s.line ∧ (s.beginFrame j kind).params = s.params := by
  simp [State.beginFrame]

/-- What State.cutFrame keeps. -/
@[simp] theorem State.cutFrame_keeps (s : State) (j : Job) :
    (s.cutFrame j).pending = s.pending ∧ (s.cutFrame j).draws = s.draws ∧ (s.cutFrame j).clock = s.clock ∧
    (s.cutFrame j).table = s.table ∧ (s.cutFrame j).jobs = s.jobs ∧ (s.cutFrame j).nextId = s.nextId ∧
    (s.cutFrame j).generators = s.generators ∧ (s.cutFrame j).groups = s.groups ∧ (s.cutFrame j).inputs = s.inputs ∧
    (s.cutFrame j).captures = s.captures ∧ (s.cutFrame j).params = s.params := by
  unfold State.cutFrame
  split <;> simp

/-- What State.bindVerify keeps. -/
@[simp] theorem State.bindVerify_keeps (s : State) (j : Job) :
    (s.bindVerify j).pending = s.pending ∧ (s.bindVerify j).draws = s.draws ∧ (s.bindVerify j).clock = s.clock ∧
    (s.bindVerify j).table = s.table ∧ (s.bindVerify j).jobs = s.jobs ∧ (s.bindVerify j).nextId = s.nextId ∧
    (s.bindVerify j).zones = s.zones ∧ (s.bindVerify j).generators = s.generators ∧
    (s.bindVerify j).groups = s.groups ∧ (s.bindVerify j).captures = s.captures ∧ (s.bindVerify j).line = s.line ∧
    (s.bindVerify j).params = s.params := by
  unfold State.bindVerify
  repeat' split
  all_goals simp

/-- What State.ownZones keeps. -/
@[simp] theorem State.ownZones_keeps (s : State) (id : Nat) (zs : ZoneSet) :
    (s.ownZones id zs).pending = s.pending ∧ (s.ownZones id zs).draws = s.draws ∧
    (s.ownZones id zs).clock = s.clock ∧ (s.ownZones id zs).table = s.table ∧ (s.ownZones id zs).jobs = s.jobs ∧
    (s.ownZones id zs).nextId = s.nextId ∧ (s.ownZones id zs).generators = s.generators ∧
    (s.ownZones id zs).groups = s.groups ∧ (s.ownZones id zs).inputs = s.inputs ∧
    (s.ownZones id zs).captures = s.captures ∧ (s.ownZones id zs).line = s.line ∧
    (s.ownZones id zs).params = s.params := by
  unfold State.ownZones
  induction zonesOf zs generalizing s with
  | nil => simp
  | cons z zs ih => simpa using ih (s.setZone z { s.zone z with state := .active id })

/-- What State.startJob keeps. -/
@[simp] theorem State.startJob_keeps (s : State) (j : Job) (h : Header) (g : Option (Fin 4)) :
    (s.startJob j h g).pending = s.pending ∧ (s.startJob j h g).draws = s.draws ∧
    (s.startJob j h g).clock = s.clock ∧ (s.startJob j h g).table = s.table ∧ (s.startJob j h g).nextId = s.nextId ∧
    (s.startJob j h g).groups = s.groups ∧ (s.startJob j h g).captures = s.captures ∧
    (s.startJob j h g).params = s.params := by
  simp [State.startJob]

/-- What arbiterScan keeps. -/
@[simp] theorem arbiterScan_keeps (s : State) (js : List Job) (blocked : ZoneSet) :
    (arbiterScan js blocked s).pending = s.pending ∧ (arbiterScan js blocked s).draws = s.draws ∧
    (arbiterScan js blocked s).clock = s.clock ∧ (arbiterScan js blocked s).table = s.table ∧
    (arbiterScan js blocked s).nextId = s.nextId ∧ (arbiterScan js blocked s).groups = s.groups ∧
    (arbiterScan js blocked s).captures = s.captures ∧ (arbiterScan js blocked s).params = s.params := by
  induction js generalizing s blocked with
  | nil => simp [arbiterScan]
  | cons j js ih =>
    unfold arbiterScan
    repeat' split
    · rename_i h g _
      simpa using ih (s.startJob j h g) blocked
    · exact ih s _
    · exact ih s _

/-- What State.runArbiter keeps. -/
@[simp] theorem State.runArbiter_keeps (s : State) :
    (s.runArbiter).pending = s.pending ∧ (s.runArbiter).draws = s.draws ∧ (s.runArbiter).clock = s.clock ∧
    (s.runArbiter).table = s.table ∧ (s.runArbiter).nextId = s.nextId ∧ (s.runArbiter).groups = s.groups ∧
    (s.runArbiter).captures = s.captures ∧ (s.runArbiter).params = s.params := by
  simp [State.runArbiter]

/-- What State.pauseJob keeps. -/
@[simp] theorem State.pauseJob_keeps (s : State) (id : Nat) :
    (s.pauseJob id).pending = s.pending ∧ (s.pauseJob id).draws = s.draws ∧ (s.pauseJob id).clock = s.clock ∧
    (s.pauseJob id).table = s.table ∧ (s.pauseJob id).nextId = s.nextId ∧ (s.pauseJob id).zones = s.zones ∧
    (s.pauseJob id).generators = s.generators ∧ (s.pauseJob id).groups = s.groups ∧
    (s.pauseJob id).inputs = s.inputs ∧ (s.pauseJob id).captures = s.captures ∧ (s.pauseJob id).line = s.line ∧
    (s.pauseJob id).params = s.params := by
  simp [State.pauseJob]

/-- What State.decideBoundary keeps. -/
@[simp] theorem State.decideBoundary_keeps (s : State) (j : Job) (h : Header) :
    (s.decideBoundary j h).pending = s.pending ∧ (s.decideBoundary j h).draws = s.draws ∧
    (s.decideBoundary j h).clock = s.clock ∧ (s.decideBoundary j h).nextId = s.nextId ∧
    (s.decideBoundary j h).groups = s.groups ∧ (s.decideBoundary j h).captures = s.captures ∧
    (s.decideBoundary j h).params = s.params := by
  unfold State.decideBoundary
  repeat' split
  all_goals simp

/-- What State.clearPause keeps. -/
@[simp] theorem State.clearPause_keeps (s : State) (j : Job) (h : Header) :
    (s.clearPause j h).pending = s.pending ∧ (s.clearPause j h).draws = s.draws ∧
    (s.clearPause j h).clock = s.clock ∧ (s.clearPause j h).nextId = s.nextId ∧
    (s.clearPause j h).groups = s.groups ∧ (s.clearPause j h).captures = s.captures ∧
    (s.clearPause j h).params = s.params := by
  simp [State.clearPause]

/-- What State.endLearn keeps. -/
@[simp] theorem State.endLearn_keeps (s : State) (c : LearnContext) (result : LearnResult) (lead rep : Nat) :
    (s.endLearn c result lead rep).pending = s.pending ∧ (s.endLearn c result lead rep).draws = s.draws ∧
    (s.endLearn c result lead rep).clock = s.clock ∧ (s.endLearn c result lead rep).jobs = s.jobs ∧
    (s.endLearn c result lead rep).nextId = s.nextId ∧ (s.endLearn c result lead rep).zones = s.zones ∧
    (s.endLearn c result lead rep).generators = s.generators ∧ (s.endLearn c result lead rep).groups = s.groups ∧
    (s.endLearn c result lead rep).captures = s.captures ∧ (s.endLearn c result lead rep).params = s.params := by
  unfold State.endLearn
  simp only []
  split <;> simp

/-- What State.buildLearned keeps. -/
@[simp] theorem State.buildLearned_keeps (s : State) (c : LearnContext) :
    (s.buildLearned c).pending = s.pending ∧ (s.buildLearned c).draws = s.draws ∧
    (s.buildLearned c).clock = s.clock ∧ (s.buildLearned c).jobs = s.jobs ∧ (s.buildLearned c).nextId = s.nextId ∧
    (s.buildLearned c).zones = s.zones ∧ (s.buildLearned c).generators = s.generators ∧
    (s.buildLearned c).groups = s.groups ∧ (s.buildLearned c).captures = s.captures ∧
    (s.buildLearned c).params = s.params := by
  unfold State.buildLearned
  simp only []
  split
  · split <;> simp
  · simp

/-- What State.learnFrame keeps. -/
@[simp] theorem State.learnFrame_keeps (s : State) (c : LearnContext) (f : CapturedFrame) :
    (s.learnFrame c f).pending = s.pending ∧ (s.learnFrame c f).draws = s.draws ∧
    (s.learnFrame c f).clock = s.clock ∧ (s.learnFrame c f).jobs = s.jobs ∧ (s.learnFrame c f).nextId = s.nextId ∧
    (s.learnFrame c f).zones = s.zones ∧ (s.learnFrame c f).generators = s.generators ∧
    (s.learnFrame c f).groups = s.groups ∧ (s.learnFrame c f).captures = s.captures ∧
    (s.learnFrame c f).params = s.params := by
  unfold State.learnFrame
  split
  · simp
  · split
    · simp
    · simp only []
      split <;> simp

/-- What State.offerLearner keeps. -/
@[simp] theorem State.offerLearner_keeps (s : State) (f : CapturedFrame) :
    (s.offerLearner f).pending = s.pending ∧ (s.offerLearner f).draws = s.draws ∧
    (s.offerLearner f).clock = s.clock ∧ (s.offerLearner f).jobs = s.jobs ∧ (s.offerLearner f).nextId = s.nextId ∧
    (s.offerLearner f).zones = s.zones ∧ (s.offerLearner f).generators = s.generators ∧
    (s.offerLearner f).groups = s.groups ∧ (s.offerLearner f).captures = s.captures ∧
    (s.offerLearner f).params = s.params := by
  unfold State.offerLearner
  repeat' split
  all_goals simp

/-- What State.setVerify keeps. -/
@[simp] theorem State.setVerify_keeps (s : State) (v : InputNo) (r : Option VerifyRecord) :
    (s.setVerify v r).pending = s.pending ∧ (s.setVerify v r).draws = s.draws ∧ (s.setVerify v r).clock = s.clock ∧
    (s.setVerify v r).table = s.table ∧ (s.setVerify v r).jobs = s.jobs ∧ (s.setVerify v r).nextId = s.nextId ∧
    (s.setVerify v r).zones = s.zones ∧ (s.setVerify v r).generators = s.generators ∧
    (s.setVerify v r).groups = s.groups ∧ (s.setVerify v r).captures = s.captures ∧ (s.setVerify v r).line = s.line ∧
    (s.setVerify v r).params = s.params := by
  simp [State.setVerify]

/-- What State.noticeEmitted keeps. -/
@[simp] theorem State.noticeEmitted_keeps (s : State) (j : Job) :
    (s.noticeEmitted j).pending = s.pending ∧ (s.noticeEmitted j).draws = s.draws ∧
    (s.noticeEmitted j).clock = s.clock ∧ (s.noticeEmitted j).table = s.table ∧ (s.noticeEmitted j).jobs = s.jobs ∧
    (s.noticeEmitted j).nextId = s.nextId ∧ (s.noticeEmitted j).zones = s.zones ∧
    (s.noticeEmitted j).generators = s.generators ∧ (s.noticeEmitted j).groups = s.groups ∧
    (s.noticeEmitted j).captures = s.captures ∧ (s.noticeEmitted j).line = s.line ∧
    (s.noticeEmitted j).params = s.params := by
  unfold State.noticeEmitted
  repeat' split
  all_goals simp

/-- What State.verifyFrame keeps. -/
@[simp] theorem State.verifyFrame_keeps (s : State) (v : InputNo) (r : VerifyRecord) (c : Code) (f : CapturedFrame) :
    (s.verifyFrame v r c f).pending = s.pending ∧ (s.verifyFrame v r c f).draws = s.draws ∧
    (s.verifyFrame v r c f).clock = s.clock ∧ (s.verifyFrame v r c f).table = s.table ∧
    (s.verifyFrame v r c f).jobs = s.jobs ∧ (s.verifyFrame v r c f).nextId = s.nextId ∧
    (s.verifyFrame v r c f).zones = s.zones ∧ (s.verifyFrame v r c f).generators = s.generators ∧
    (s.verifyFrame v r c f).groups = s.groups ∧ (s.verifyFrame v r c f).captures = s.captures ∧
    (s.verifyFrame v r c f).line = s.line ∧ (s.verifyFrame v r c f).params = s.params := by
  simp [State.verifyFrame]

/-- What State.offerVerifier keeps. -/
@[simp] theorem State.offerVerifier_keeps (s : State) (f : CapturedFrame) :
    (s.offerVerifier f).pending = s.pending ∧ (s.offerVerifier f).draws = s.draws ∧
    (s.offerVerifier f).clock = s.clock ∧ (s.offerVerifier f).table = s.table ∧ (s.offerVerifier f).jobs = s.jobs ∧
    (s.offerVerifier f).nextId = s.nextId ∧ (s.offerVerifier f).zones = s.zones ∧
    (s.offerVerifier f).generators = s.generators ∧ (s.offerVerifier f).groups = s.groups ∧
    (s.offerVerifier f).captures = s.captures ∧ (s.offerVerifier f).line = s.line ∧
    (s.offerVerifier f).params = s.params := by
  unfold State.offerVerifier
  repeat' split
  all_goals simp

/-- What State.leaveQueue keeps. -/
@[simp] theorem State.leaveQueue_keeps (s : State) (f : CapturedFrame) :
    (s.leaveQueue f).pending = s.pending ∧ (s.leaveQueue f).draws = s.draws ∧ (s.leaveQueue f).clock = s.clock ∧
    (s.leaveQueue f).nextId = s.nextId ∧ (s.leaveQueue f).zones = s.zones ∧
    (s.leaveQueue f).generators = s.generators ∧ (s.leaveQueue f).groups = s.groups ∧
    (s.leaveQueue f).params = s.params := by
  unfold State.leaveQueue
  simp only []
  split <;> simp

/-- What State.arbiterAfter keeps. -/
@[simp] theorem State.arbiterAfter_keeps (s : State) (before : State) :
    (s.arbiterAfter before).pending = s.pending ∧ (s.arbiterAfter before).draws = s.draws ∧
    (s.arbiterAfter before).clock = s.clock ∧ (s.arbiterAfter before).table = s.table ∧
    (s.arbiterAfter before).nextId = s.nextId ∧ (s.arbiterAfter before).groups = s.groups ∧
    (s.arbiterAfter before).captures = s.captures ∧ (s.arbiterAfter before).params = s.params := by
  unfold State.arbiterAfter
  split <;> simp

/-- What State.recognize keeps when it answers. -/
theorem State.recognize_keeps {s t : State} {f : CapturedFrame} (h : s.recognize f = some t) :
    t.pending = s.pending ∧ t.draws = s.draws ∧ t.clock = s.clock ∧ t.table = s.table ∧ t.jobs = s.jobs ∧
    t.nextId = s.nextId ∧ t.zones = s.zones ∧ t.generators = s.generators ∧ t.groups = s.groups ∧
    t.captures = s.captures ∧ t.params = s.params := by
  unfold State.recognize at h
  split at h <;> simp only [] at h <;> split at h <;> cases h <;> simp

/-- What State.forwardRaw keeps when it answers. -/
theorem State.forwardRaw_keeps {s t : State} {f : CapturedFrame} (h : s.forwardRaw f = some t) :
    t.pending = s.pending ∧ t.draws = s.draws ∧ t.clock = s.clock ∧ t.table = s.table ∧ t.jobs = s.jobs ∧
    t.nextId = s.nextId ∧ t.zones = s.zones ∧ t.generators = s.generators ∧ t.groups = s.groups ∧
    t.inputs = s.inputs ∧ t.captures = s.captures ∧ t.params = s.params := by
  unfold State.forwardRaw at h
  split at h <;> cases h
  simp

/-- What State.consume keeps when it answers. -/
theorem State.consume_keeps {s t : State} {f : CapturedFrame} (h : s.consume f = some t) :
    t.pending = s.pending ∧ t.draws = s.draws ∧ t.clock = s.clock ∧ t.jobs = s.jobs ∧ t.nextId = s.nextId ∧
    t.zones = s.zones ∧ t.generators = s.generators ∧ t.groups = s.groups ∧ t.captures = s.captures ∧
    t.params = s.params := by
  unfold State.consume at h
  split at h
  · have k := State.recognize_keeps h
    tauto
  · have k := State.forwardRaw_keeps h
    tauto
  · cases h
    simp
  · cases h
    simp

/-- What State.tryHead keeps when it answers. -/
theorem State.tryHead_keeps {s t : State} (h : s.tryHead = some t) :
    t.pending = s.pending ∧ t.draws = s.draws ∧ t.clock = s.clock ∧ t.nextId = s.nextId ∧ t.zones = s.zones ∧
    t.generators = s.generators ∧ t.groups = s.groups ∧ t.params = s.params := by
  unfold State.tryHead at h
  split at h
  · cases h
  · obtain ⟨s', hc, rfl⟩ := Option.map_eq_some_iff.mp h
    have k := State.consume_keeps hc
    simp only [State.leaveQueue_keeps]
    tauto

/-- What tryHeads keeps. -/
@[simp] theorem tryHeads_keeps (s : State) (n : Nat) :
    (tryHeads n s).pending = s.pending ∧ (tryHeads n s).draws = s.draws ∧ (tryHeads n s).clock = s.clock ∧
    (tryHeads n s).nextId = s.nextId ∧ (tryHeads n s).zones = s.zones ∧ (tryHeads n s).generators = s.generators ∧
    (tryHeads n s).groups = s.groups ∧ (tryHeads n s).params = s.params := by
  induction n generalizing s with
  | zero => simp [tryHeads]
  | succ n ih =>
    unfold tryHeads
    split
    · rename_i s' h
      have k := State.tryHead_keeps h
      have k' := ih s'
      simp only [k, k', and_self]
    · simp

/-- What State.dispatch keeps. -/
@[simp] theorem State.dispatch_keeps (s : State) :
    (s.dispatch).pending = s.pending ∧ (s.dispatch).draws = s.draws ∧ (s.dispatch).clock = s.clock ∧
    (s.dispatch).nextId = s.nextId ∧ (s.dispatch).groups = s.groups ∧ (s.dispatch).params = s.params := by
  simp [State.dispatch]

/-- What State.retryProducers keeps. -/
@[simp] theorem State.retryProducers_keeps (s : State) :
    (s.retryProducers).pending = s.pending ∧ (s.retryProducers).draws = s.draws ∧
    (s.retryProducers).clock = s.clock ∧ (s.retryProducers).nextId = s.nextId ∧
    (s.retryProducers).groups = s.groups ∧ (s.retryProducers).params = s.params := by
  simp [State.retryProducers]

/-- What State.recheckProducers keeps. -/
@[simp] theorem State.recheckProducers_keeps (s : State) :
    (s.recheckProducers).pending = s.pending ∧ (s.recheckProducers).draws = s.draws ∧
    (s.recheckProducers).clock = s.clock ∧ (s.recheckProducers).nextId = s.nextId ∧
    (s.recheckProducers).groups = s.groups ∧ (s.recheckProducers).params = s.params := by
  simp [State.recheckProducers]

/-- What State.entriesFreed keeps. -/
@[simp] theorem State.entriesFreed_keeps (s : State) :
    (s.entriesFreed).pending = s.pending ∧ (s.entriesFreed).draws = s.draws ∧ (s.entriesFreed).clock = s.clock ∧
    (s.entriesFreed).nextId = s.nextId ∧ (s.entriesFreed).groups = s.groups ∧ (s.entriesFreed).params = s.params := by
  simp [State.entriesFreed]

/-! ### Capture -/

/-- A stored cell is 1 to 65,535 µs (R129; log entry 29). -/
theorem storedLength_range (d : Nat) : 1 ≤ storedLength d ∧ storedLength d ≤ 65535 := by
  unfold storedLength
  omega

/-- Storing a cell adds one cell at the end. -/
@[simp] theorem OpenFrame.store_cells (f : OpenFrame) (d : Nat) : (f.store d).cells = f.cells ++ [storedLength d] := rfl

end Sys2Proof.Machine
end

