-- ==== Sys2Proof/Laws/Interpreter.lean ====
section
/-! SUPPORT. What the command interpreter does with a frame, said once for every command (R166). -/

namespace Sys2Proof.Machine

/-- A frame that is taken is executed, or refused for its form, and answered (R166, steps 2 to 4). -/
theorem State.takeCommand_takes {s : State} {c : CommandFrame} {i : Instr} (h : s.takes c i) (form : List Byte → Bool)
    (act : List Byte → State → Answer) :
    s.takeCommand i form act =
      State.finish (if form c.payload then act c.payload s.popCommand else s.popCommand.refuse .badMessage []) c := by
  obtain ⟨hh, hr, hp, hi⟩ := h
  unfold State.takeCommand
  cases hf : s.line.fifo with
  | nil => simp [hf] at hh
  | cons d ds =>
    have hd : d = c := by simpa [hf] using hh
    subst hd
    have hq : s.popCommand.line.replayFor d = none := hp
    simp [hr, hi, State.interpret, hq]

/-- A frame that the replay record holds is answered from it (R166, step 1). -/
theorem State.takeCommand_replay {s : State} {c : CommandFrame} {i : Instr} {r : OutFrame} (hh : s.line.fifo.head? = some c)
    (hr : s.line.ready = true) (hp : s.line.replayFor c = some r) (hi : c.row = i) (form : List Byte → Bool)
    (act : List Byte → State → Answer) : s.takeCommand i form act = s.popCommand.sendFrame r := by
  unfold State.takeCommand
  cases hf : s.line.fifo with
  | nil => simp [hf] at hh
  | cons d ds =>
    have hd : d = c := by simpa [hf] using hh
    subst hd
    have hq : s.popCommand.line.replayFor d = some r := hp
    simp [hr, hi, State.interpret, hq]

/-- Nothing is taken from an empty FIFO, while a reply waits or is being sent, or for another row's frame (R166). -/
theorem State.takeCommand_idle {s : State} {i : Instr}
    (h : s.line.fifo = [] ∨ s.line.ready = false ∨ ∃ d, s.line.fifo.head? = some d ∧ d.row ≠ i) (form : List Byte → Bool)
    (act : List Byte → State → Answer) : s.takeCommand i form act = s := by
  unfold State.takeCommand
  cases hf : s.line.fifo with
  | nil => rfl
  | cons d ds =>
    rcases h with h | h | ⟨e, he, h⟩
    · simp [hf] at h
    · simp [h]
    · have : d = e := by simpa [hf] using he
      subst this
      simp [h]

@[simp] theorem State.finish_answer (u : State) (p : List Byte) (c : CommandFrame) :
    State.finish (u.answer p) c = u.replied c p := rfl

@[simp] theorem State.finish_refuse (u : State) (st : Status) (p : List Byte) (c : CommandFrame) :
    State.finish (u.refuse st p) c = u.replied c (reply st p) := rfl

@[simp] theorem State.finish_answerThenArbitrate (u : State) (p : List Byte) (c : CommandFrame) :
    State.finish (u.answerThenArbitrate p) c = (u.replied c p).runArbiter := rfl

@[simp] theorem State.popCommand_pending (s : State) : s.popCommand.pending = s.pending := rfl
@[simp] theorem State.popCommand_draws (s : State) : s.popCommand.draws = s.draws := rfl
@[simp] theorem State.popCommand_clock (s : State) : s.popCommand.clock = s.clock := rfl
@[simp] theorem State.popCommand_table (s : State) : s.popCommand.table = s.table := rfl
@[simp] theorem State.popCommand_jobs (s : State) : s.popCommand.jobs = s.jobs := rfl
@[simp] theorem State.popCommand_nextId (s : State) : s.popCommand.nextId = s.nextId := rfl
@[simp] theorem State.popCommand_zones (s : State) : s.popCommand.zones = s.zones := rfl
@[simp] theorem State.popCommand_generators (s : State) : s.popCommand.generators = s.generators := rfl
@[simp] theorem State.popCommand_groups (s : State) : s.popCommand.groups = s.groups := rfl
@[simp] theorem State.popCommand_inputs (s : State) : s.popCommand.inputs = s.inputs := rfl
@[simp] theorem State.popCommand_captures (s : State) : s.popCommand.captures = s.captures := rfl
@[simp] theorem State.popCommand_params (s : State) : s.popCommand.params = s.params := rfl

@[simp] theorem State.replied_pending (s : State) (c : CommandFrame) (p : List Byte) : (s.replied c p).pending = s.pending := rfl
@[simp] theorem State.replied_draws (s : State) (c : CommandFrame) (p : List Byte) : (s.replied c p).draws = s.draws := rfl
@[simp] theorem State.replied_clock (s : State) (c : CommandFrame) (p : List Byte) : (s.replied c p).clock = s.clock := rfl
@[simp] theorem State.replied_table (s : State) (c : CommandFrame) (p : List Byte) : (s.replied c p).table = s.table := rfl
@[simp] theorem State.replied_jobs (s : State) (c : CommandFrame) (p : List Byte) : (s.replied c p).jobs = s.jobs := rfl
@[simp] theorem State.replied_nextId (s : State) (c : CommandFrame) (p : List Byte) : (s.replied c p).nextId = s.nextId := rfl
@[simp] theorem State.replied_zones (s : State) (c : CommandFrame) (p : List Byte) : (s.replied c p).zones = s.zones := rfl
@[simp] theorem State.replied_generators (s : State) (c : CommandFrame) (p : List Byte) : (s.replied c p).generators = s.generators := rfl
@[simp] theorem State.replied_groups (s : State) (c : CommandFrame) (p : List Byte) : (s.replied c p).groups = s.groups := rfl
@[simp] theorem State.replied_inputs (s : State) (c : CommandFrame) (p : List Byte) : (s.replied c p).inputs = s.inputs := rfl
@[simp] theorem State.replied_captures (s : State) (c : CommandFrame) (p : List Byte) : (s.replied c p).captures = s.captures := rfl
@[simp] theorem State.replied_params (s : State) (c : CommandFrame) (p : List Byte) : (s.replied c p).params = s.params := rfl

@[simp] theorem State.popCommand_now (s : State) : s.popCommand.now = s.now := rfl

@[simp] theorem State.popCommand_slot (s : State) (i : SlotNo) : s.popCommand.slot i = s.slot i := rfl

@[simp] theorem State.popCommand_zone (s : State) (z : ZoneNo) : s.popCommand.zone z = s.zone z := rfl

@[simp] theorem State.popCommand_input (s : State) (v : InputNo) : s.popCommand.input v = s.input v := rfl

@[simp] theorem State.popCommand_code? (s : State) (i : SlotNo) : s.popCommand.code? i = s.code? i := rfl

@[simp] theorem State.popCommand_job? (s : State) (id : Nat) : s.popCommand.job? id = s.job? id := rfl

end Sys2Proof.Machine
end

