-- ==== Sys2Proof/Tests/Slice0.lean ====
section
/-! SUPPORT. Small tests: ill-formed terms are refused, each command does on one state what the manual's worked
sequences and tables give, and the hypotheses of the statements can be met. Expected values come from the manual's
sections named beside the tests, or from hand calculation by its rules. -/

set_option Elab.async false

namespace Sys2Proof.Machine

/-! ### Well-formedness -/

theorem test_payload_too_long_refused :
    (Instr.messageFrame (makeFrame 1#8 0#8 1#8 (List.replicate 241 0#8))).wellFormed = false := by decide +kernel
theorem test_longest_payload_accepted :
    (Instr.messageFrame (makeFrame 1#8 0#8 1#8 (List.replicate 240 0#8))).wellFormed = true := by decide +kernel
theorem test_wrong_len_refused :
    (Instr.messageFrame { makeFrame 1#8 0#8 1#8 [] with len := 4#8 }).wellFormed = false := by decide +kernel
theorem test_keep_id_0_refused : (Instr.keepTimerExpiry 0).wellFormed = false := by decide
theorem test_hold_id_256_refused : (Instr.holdLimitExpiry 256).wellFormed = false := by decide
theorem test_pause_limit_id_0_refused : (Instr.pauseLimitExpiry 0).wellFormed = false := by decide
theorem test_job_start_id_256_refused : (Instr.jobStart 256).wellFormed = false := by decide
theorem test_cell_end_id_0_refused : (Instr.cellEnd 0).wellFormed = false := by decide
theorem test_frame_boundary_id_256_refused : (Instr.frameBoundary 256).wellFormed = false := by decide
theorem test_pause_clear_id_0_refused : (Instr.pauseClear 0).wellFormed = false := by decide
theorem test_ids_1_and_255_accepted :
    (Instr.pauseClear 1).wellFormed = true ∧ (Instr.pauseClear 255).wellFormed = true := by decide
theorem test_no_word_spells_a_command : decodeTableWord 8 1 = none := rfl

/-! ### The bench -/

/-- A zone at rest. -/
def benchZone : Zone :=
  { state := .idle, drive := 8, load := 0, inForce := none, nextDecay := 10000 }

/-- The part after reset with an empty report queue and its decay steps at 10 ms. -/
def bench : State :=
  { State.reset with
    zones := Vector.replicate 8 benchZone
    line := { resetLine 0#2 0#8 with reports := [] } }

/-- A command frame. -/
def frameOf (t : Byte) (p : List Byte) : CommandFrame :=
  { tag := 5#8, type := t, payload := p, crc := 0x1234#16 }

/-- A state in which a command is alone in the FIFO. -/
def State.asked (s : State) (t : Byte) (p : List Byte) : State :=
  { s with line := { s.line with fifo := [frameOf t p] } }

/-- A state at a time base value. -/
def State.at (s : State) (ms : Nat) : State :=
  { s with clock := ms * 1000 }

/-- Whether an outcome is a next state with a property. -/
def gives (o : Host.Outcome State Fault Refusal) (p : State → Bool) : Bool :=
  match o with
  | .next t => p t
  | .fault _ => false
  | .refused _ => false

/-- Whether an outcome is a next state whose frame under way on HTX has a payload. -/
def replies (o : Host.Outcome State Fault Refusal) (p : List Byte) : Bool :=
  gives o fun t => decide (t.line.sending.map OutFrame.payload = some p)

/-- Whether an outcome is a next state whose last report has a TYPE and a payload. -/
def reports (o : Host.Outcome State Fault Refusal) (type : Byte) (p : List Byte) : Bool :=
  gives o fun t => decide (t.line.reports.getLast?.map (fun e => (e.type, e.payload)) = some (type, p))

/-- The 70-cell code's header (section 1.9). -/
def keyHeader : Header :=
  { label := 0x105#32, frequency := 38000, duty := 33, mode := .hold, repeatFigure := 1, leadCells := 67, repeatCells := 3
    trailGap := 40000, matchable := true, tolerance := 0 }

/-- The 70-cell code's cells, every data space 560 µs (sections 1.9 and 2.7). -/
def keyCells : List Nat :=
  [9000, 4500] ++ List.replicate 65 560 ++ [9000, 2250, 560]

/-- The CRC of R7 over the 70 cells, worked out apart from the model. -/
def keyChecksum : Word16 :=
  0x5CBE#16

/-- The 70-cell code. -/
def keyCode : Code :=
  { header := keyHeader, cells := keyCells, checksum := keyChecksum, refs := 0 }

/-- The COUNT code of section 5.8. -/
def countCode : Code :=
  { keyCode with header := { keyHeader with mode := .count, repeatFigure := 2 } }

/-- The HOLD code of section 7.6: an empty lead and a repeat of one mark. -/
def markCode : Code :=
  { header :=
      { keyHeader with frequency := 0, repeatFigure := 2, leadCells := 0, repeatCells := 1, trailGap := 23000 }
    cells := [22000], checksum := 0x035A#16, refs := 1 }

/-- A job that has just been admitted. -/
def benchJob : Job :=
  { id := 7, slot := 12, zones := 1#8, cls := .normal, hold := true, repeatOverride := none, keepInterval := none
    keepLength := some 300, verifyInput := none, state := .waiting, paused := false, preemptPending := false
    released := false, framesSent := 0, repeatsSent := 0, generator := none, admissionTime := 0#32, startTime := none
    endReason := none, endTime := none, keepTimer := some { start := 0#32, length := 300 }, holdTimer := none
    pauseTimer := none, play := none, verify := noVerdict }

/-- The bench with the 70-cell code READY in slot 12. -/
def stored : State := bench.putSlot 12 (.ready keyCode)

/-- A job RUNNING on the 70-cell code in zone 0 since 0 µs, in its first mark. -/
def runningJob : Job :=
  { benchJob with
    state := .running, startTime := some 0#32, generator := some 0
    holdTimer := some { start := 0#32, length := 20000 }
    play := some { kind := .lead, phase := .inSection 0, since := 0, sampled := [(0, 8)] } }

/-- The bench with a job live on slot 12: the job owns zone 0 when it plays. -/
def withJob (j : Job) (zone : ZoneState) : State :=
  { (bench.putSlot 12 (.ready { keyCode with refs := 1 })).setZone 0 { benchZone with state := zone } with
    jobs := [j]
    generators := #v[if zone = .active 7 then some { frequency := 38000, duty := 33, users := 1 } else none, none, none, none] }

/-- The bench with `runningJob`. -/
def playing : State := withJob runningJob (.active 7)

/-- The bench with `benchJob`, WAITING on zone 0 in GUARD. -/
def waiting : State := withJob benchJob (.guard { start := 0#32, length := 10 })

/-- The bench with input 0 in a mode and its engine in a state. -/
def listening (m : InputMode) (e : Engine) : State :=
  bench.setInput 0 { bench.input 0 with mode := m, engine := e }

/-- A closed frame of input 0 for a consumer. -/
def closedFrame (c : Consumer) (cells : List Nat) : CapturedFrame :=
  { input := 0, number := 80, startTime := 0#32, endInstant := 12000, gapBefore := some 40200, cells := cells
    flags := { truncated := false, stuck := false, longMark := false }, consumer := c }

/-- An open frame whose first mark began at 0 µs. -/
def openFrame (cells : List Nat) : OpenFrame :=
  { number := 3, startInstant := 0, gapBefore := none, endGap := 15000, cells := cells, longMark := false }

/-- A report that has been sent. -/
def sentReport (n : Nat) : ReportEntry :=
  { sequence := n, type := 0x91#8, payload := [1#8], timesSent := 1, sent := true }

/-- The bench with some reports in the queue. -/
def withReports (es : List ReportEntry) : State :=
  { bench with line := { bench.line with reports := es, nextSequence := 20 } }

/-- The bench with a load of the 70-cell code open on slot 12 and some of its cells received; its running checksum is the one over all of them. -/
def loadingKey (cells : List Nat) : State :=
  (bench.putSlot 12 (.loading keyHeader cells)).setLoad
    (some
      { slot := 12, header := keyHeader, nextOffset := cells.length, checksum := keyChecksum
        idle := { start := 0#32, length := 2000 } })

/-- A learn on input 0 into slot 40 (section 9.7), with some patterns. -/
def learnOf (a b : Option Pattern) (phase : LearnPhase) (gap : Option Nat) : LearnContext :=
  { input := 0, slot := 40, frequency := 38000, duty := 33, wanted := 4, firstFrame := 80, patternA := a, patternB := b
    phase := phase, minimumGap := gap, deadline := { start := 0#32, length := 10000 } }

/-- The bench with a learn in progress; input 0 was in MATCH. -/
def learning (c : LearnContext) : State :=
  { stored.putSlot 40 .learning with
    table := { (stored.putSlot 40 .learning).table with learn := some c }
    inputs := stored.inputs.set 0 { bench.input 0 with mode := .learn, savedMode := some .matching } }

/-- A job of section 10.6 SETTLING on input 1, and the verify record bound to it. -/
def settling (r : VerifyRecord) : State :=
  { withJob { benchJob with state := .settling, verifyInput := some 1, endReason := some .completed, hold := false } .idle with
    inputs := #v[bench.input 0, { bench.input 1 with mode := .verify, savedMode := some .matching, verify := some r }] }

/-- The verify record of section 10.6 at the job's end. -/
def missedMark : VerifyRecord :=
  { job := 7, firstFrame := 300, emitted := 3, seen := 3, matched := 2
    mismatch := some { frameIndex := 1, place := .count, expected := 67, measured := 65 } }

/-! ### Power-on, the line and the system commands -/

theorem test_power_on_state :
    gives (exec (.powerOn 3#2 .mark .space) playing) (fun t =>
      decide (t.line.straps = 3#2 ∧ (t.input 0).engine = .discarding 15000 ∧ (t.input 1).engine = .quiet ∧
        t.line.reports.map ReportEntry.payload = [[0#8, 0#8, 0#8, 0#8, 0#8]] ∧ t.table.freeBlocks = 256 ∧ t.jobs = [])) =
      true := by decide +kernel
theorem test_reset_pin_cause :
    reports (exec (.resetPin 0#2 .space .space) playing) 0x80#8 [1#8, 0#8, 0#8, 0#8, 0#8] = true := by decide +kernel
/-- The check value of this CRC over the digits 1 to 9, known outside the manual. -/
theorem test_crc_check_value :
    crcBytes crcStart [0x31#8, 0x32#8, 0x33#8, 0x34#8, 0x35#8, 0x36#8, 0x37#8, 0x38#8, 0x39#8] = 0x29B1#16 := by decide +kernel
theorem test_message_frame_joins_fifo :
    gives (exec (.messageFrame (makeFrame 0x01#8 9#8 0x02#8 [])) bench) (fun t =>
      decide (t.line.fifo.map CommandFrame.tag = [9#8] ∧ t.line.framer = .hunt)) = true := by decide +kernel
theorem test_message_frame_bad_crc :
    gives (exec (.messageFrame { makeFrame 0x01#8 9#8 0x02#8 [] with crc := 0#16 }) bench) (fun t =>
      decide (t.line.fifo = [] ∧
        t.line.sending = some { kind := .linkError, tag := 9#8, type := 0x02#8, payload := [] })) = true := by decide +kernel
theorem test_byte_timeout :
    gives (exec .byteTimeout { bench with clock := 10001, line := { bench.line with framer := .length } }) (fun t =>
      decide (t.line.framer = .hunt ∧ t.line.sending.map OutFrame.type = some 0x04#8)) = true := by decide +kernel
theorem test_bad_message : replies (exec .badMessage (bench.asked 0x07#8 [])) [0x01#8] = true := by decide +kernel
theorem test_identify :
    replies (exec .identify (bench.asked 0x01#8 []))
      [0#8, 0x4C#8, 0x44#8, 0x4B#8, 0x46#8, 8#8, 2#8, 1#8, 0#8, 128#8, 1#8, 0#8, 16#8, 16#8, 8#8, 2#8, 4#8, 8#8, 0#8, 8#8, 32#8, 8#8] =
      true := by decide +kernel
theorem test_time_byte_order :
    replies (exec .time ((bench.at 0x01020304).asked 0x02#8 [])) [0#8, 1#8, 2#8, 3#8, 4#8] = true := by decide +kernel
theorem test_time_wraps : replies (exec .time ((bench.at 0x100000007).asked 0x02#8 [])) [0#8, 0#8, 0#8, 0#8, 7#8] = true := by
  decide +kernel
theorem test_set_param_top_of_range :
    replies (exec .setParam (bench.asked 0x03#8 [1#8, 0#8, 100#8])) [0#8, 1#8, 0#8, 100#8, 0#8, 10#8] = true := by decide +kernel
theorem test_set_param_above_range :
    replies (exec .setParam (bench.asked 0x03#8 [1#8, 0#8, 101#8])) [0x02#8] = true := by decide +kernel
theorem test_get_param_last : replies (exec .getParam (bench.asked 0x04#8 [0x11#8])) [0#8, 0x11#8, 0#8, 10#8] = true := by
  decide +kernel
theorem test_get_param_unknown : replies (exec .getParam (bench.asked 0x04#8 [0x12#8])) [0x01#8] = true := by decide +kernel
theorem test_report_select : replies (exec .reportSelect (bench.asked 0x05#8 [1#8])) [0#8, 1#8, 0x1F#8] = true := by
  decide +kernel
theorem test_report_select_bit_5 : replies (exec .reportSelect (bench.asked 0x05#8 [0x20#8])) [0x02#8] = true := by
  decide +kernel
theorem test_restart_link_report :
    gives (exec .restartLink (((withReports [sentReport 19]).at 256).asked 0x06#8 [0#8])) (fun t =>
      decide (t.line.reports.map (fun e => (e.sequence, e.payload)) = [(0, [2#8, 0#8, 0#8, 1#8, 0#8])] ∧ t.line.replay = none)) =
      true := by decide +kernel
theorem test_restart_activity_load :
    gives (exec .restartActivity ({ playing with clock := 9000 }.asked 0x06#8 [1#8])) (fun t =>
      decide (t.jobs = [] ∧ t.slot 12 = .ready keyCode ∧ (t.zone 0).load = 90 ∧ (t.zone 0).state = .idle)) = true := by
  decide +kernel
theorem test_restart_full_table :
    gives (exec .restartFull (playing.asked 0x06#8 [2#8])) (fun t =>
      decide (t.slot 12 = .empty ∧ t.table.freeBlocks = 256 ∧ t.line.reports.map ReportEntry.payload = [3#8 :: u32 0#32])) =
      true := by decide +kernel

/-! ### The code table -/

/-- Section 2.7: blocks held 5, free blocks 251. -/
theorem test_code_open :
    replies (exec .codeOpen (bench.asked 0x10#8 (headerBytes 12 keyHeader))) [0#8, 12#8, 5#8, 0#8, 251#8] = true := by
  decide +kernel
/-- Section 2.7: one segment of 70 cells. -/
theorem test_code_data :
    replies (exec .codeData ((loadingKey []).asked 0x11#8 ([12#8, 0#8, 0#8, 70#8] ++ cellBytes keyCells))) [0#8, 12#8, 0#8, 70#8] =
      true := by decide +kernel
theorem test_crc_of_cells : crcCells crcStart [9000, 2250, 560] = 0xCBA5#16 := by decide +kernel
/-- Section 2.8: the second copy of a segment. -/
theorem test_code_data_again :
    replies (exec .codeData ((loadingKey (keyCells.take 40)).asked 0x11#8 ([12#8, 0#8, 0#8, 40#8] ++ cellBytes (keyCells.take 40))))
      [0x07#8, 12#8, 0#8, 40#8] = true := by decide +kernel
theorem test_code_close :
    gives (exec .codeClose ((loadingKey keyCells).asked 0x12#8 (12#8 :: u16 keyCode.checksum.toNat))) (fun t =>
      decide (t.slot 12 = .ready keyCode ∧ t.table.freeBlocks = 251 ∧ t.table.load = none)) = true := by decide +kernel
theorem test_code_close_checksum :
    gives (exec .codeClose ((loadingKey keyCells).asked 0x12#8 (12#8 :: u16 (keyCode.checksum.toNat ^^^ 1)))) (fun t =>
      decide (t.slot 12 = .empty ∧ t.table.freeBlocks = 256)) = true := by decide +kernel
theorem test_code_erase :
    gives (exec .codeErase (stored.asked 0x13#8 [12#8])) (fun t =>
      decide (t.slot 12 = .empty ∧ t.table.freeBlocks = 256 ∧
        t.line.sending.map OutFrame.payload = some [0#8, 12#8, 3#8, 0#8])) = true := by decide +kernel
theorem test_code_erase_deferred :
    replies (exec .codeErase (playing.asked 0x13#8 [12#8])) [0#8, 12#8, 3#8, 1#8] = true := by decide +kernel
theorem test_code_amend :
    gives (exec .codeAmend (stored.asked 0x14#8 [12#8, 1#8, 2#8, 3#8, 4#8, 0#8, 50#8])) (fun t =>
      decide (t.slot 12 = .ready (keyCode.amend 0x01020304#32 false 50))) = true := by decide +kernel
theorem test_code_info_retiring :
    replies (exec .codeInfo ((bench.putSlot 12 (.retiring { keyCode with refs := 2 })).asked 0x15#8 [12#8]))
      ([0#8, 12#8, 4#8, 7#8] ++ headerBytes 12 keyHeader ++ [2#8, 5#8] ++ u16 keyCode.checksum.toNat ++ [0#8, 0#8, 0#8, 0#8]) =
      true := by decide +kernel
theorem test_code_read_across_sections :
    replies (exec .codeRead (stored.asked 0x16#8 [12#8, 0#8, 66#8, 3#8]))
      [0#8, 12#8, 0#8, 66#8, 3#8, 0x02#8, 0x30#8, 0x23#8, 0x28#8, 0x08#8, 0xCA#8] = true := by decide +kernel
theorem test_pool_info :
    replies (exec .poolInfo ((learning (learnOf none none .aOnly none)).asked 0x17#8 []))
      [0#8, 0#8, 251#8, 1#8, 0#8, 0#8, 0xFF#8, 1#8, 40#8] = true := by decide +kernel
theorem test_code_retired :
    gives (exec (.codeRetired 12) (bench.putSlot 12 (.retiring keyCode))) (fun t =>
      decide (t.slot 12 = .empty ∧ t.table.freeBlocks = 256 ∧
        t.line.reports.map ReportEntry.payload = [[12#8, 0#8, 0#8, 1#8, 5#8]])) = true := by decide +kernel
/-- Section 2.7: LOAD_ABANDONED(12, 70). -/
theorem test_load_abandoned :
    reports (exec .loadIdleTimerExpiry ((loadingKey keyCells).at 2000)) 0x90#8 [12#8, 0#8, 70#8] = true := by decide +kernel

/-! ### Jobs -/

/-- Section 3.5: the counter value 255 wraps to 1, and 1 is the id of a live job, so 2 is taken next. -/
theorem test_emit_id_254 :
    gives (exec .emit ({ stored with jobs := [{ benchJob with id := 1, zones := 0x80#8, state := .running }], nextId := 254 }.asked
        0x20#8 [12#8, 1#8, 0#8, 1#8, 0xFF#8, 0#8, 0#8, 0xFF#8])) (fun t =>
      decide (t.line.sending.map OutFrame.payload = some [0#8, 254#8, 2#8] ∧ t.nextId = 255 ∧
        (t.job? 254).map Job.state = some .running ∧ (t.zone 0).state = .active 254)) = true := by decide +kernel
theorem test_emit_id_skips_live :
    gives (exec .emit
        ({ stored.putSlot 12 (.ready countCode) with
            jobs := [{ benchJob with id := 1, zones := 0x80#8, state := .running }], nextId := 1 }.asked
          0x20#8 [12#8, 4#8, 1#8, 0#8, 0xFF#8, 0#8, 0#8, 0xFF#8])) (fun t =>
      decide (t.jobs.map Job.id = [2, 1] ∧ t.nextId = 3)) = true := by decide +kernel
theorem test_job_keep :
    gives (exec .jobKeep ((playing.at 200).asked 0x21#8 [7#8])) (fun t =>
      decide ((t.job? 7).bind Job.keepTimer = some { start := 200#32, length := 300 })) = true := by decide +kernel
theorem test_job_release :
    replies (exec .jobRelease (playing.asked 0x22#8 [7#8])) [0#8, 7#8, 2#8] = true := by decide +kernel
theorem test_job_cancel :
    gives (exec .jobCancel ({ playing with clock := 4500 }.asked 0x23#8 [7#8])) (fun t =>
      decide (t.jobs = [] ∧ (t.zone 0).load = 45 ∧ (t.zone 0).state = .guard { start := 4#32, length := 10 } ∧
        t.generators[0] = none ∧ t.slot 12 = .ready keyCode)) = true := by decide +kernel
theorem test_job_info_unknown : replies (exec .jobInfo (playing.asked 0x24#8 [8#8])) [0x0D#8, 8#8] = true := by decide +kernel
theorem test_job_list :
    replies (exec .jobList ({ bench with jobs := [{ benchJob with id := 2, state := .running }, { benchJob with id := 255 }] }.asked
      0x25#8 [])) [0#8, 2#8, 2#8, 1#8, 255#8, 0#8] = true := by decide +kernel
theorem test_keep_timer_drains :
    gives (exec (.keepTimerExpiry 7) (playing.at 300)) (fun t =>
      decide (t.jobs.map (fun j => (j.state, j.endReason)) = [(.draining, some .keepLapsed)])) = true := by decide +kernel
theorem test_hold_limit_drains :
    gives (exec (.holdLimitExpiry 7) (playing.at 20000)) (fun t =>
      decide (t.jobs.map (fun j => (j.state, j.endReason, j.keepTimer)) = [(.draining, some .holdLimit, none)])) = true := by
  decide +kernel
theorem test_pause_limit_ends :
    gives (exec (.pauseLimitExpiry 7)
        ((withJob { runningJob with paused := true, pauseTimer := some { start := 0#32, length := 1000 } } (.active 7)).at 1000))
      (fun t => decide (t.jobs = [] ∧ t.line.reports.map ReportEntry.type = [0xA1#8])) = true := by decide +kernel
/-- Section 4.8: the waiting job starts when its zone's guard expires, on the lowest FREE generator. -/
theorem test_guard_expiry_starts :
    gives (exec (.guardExpiry 0) (waiting.at 10)) (fun t =>
      decide ((t.zone 0).state = .active 7 ∧ t.jobs.map Job.generator = [some 0] ∧
        t.generators[0] = some { frequency := 38000, duty := 33, users := 1 })) = true := by decide +kernel
theorem test_job_start :
    reports (exec (.jobStart 7) ((withJob benchJob .idle).at 258)) 0xA0#8 [7#8, 12#8, 1#8, 0#8, 0#8, 1#8, 2#8] = true := by
  decide +kernel
/-- Section 7.5: a 9,000 µs mark at level 8 adds 90. -/
theorem test_cell_end_load :
    gives (exec (.cellEnd 7) { playing with clock := 9000 }) (fun t =>
      decide ((t.zone 0).load = 90 ∧
        t.jobs.map Job.play = [some { kind := .lead, phase := .inSection 1, since := 9000, sampled := [] }])) = true := by
  decide +kernel

/-- The state of section 7.6 with job 7 for job 11 and zone 0 for zone 3: a load, a group in force, and a job. -/
def heldKey (load : Nat) (g : GroupNo) (a : Action) (j : Job) : State :=
  ((withJob j (.active 7)).putSlot 12 (.ready markCode)).setZone 0
    { state := .active 7, drive := driveUnder (some (g, a)), load := load, inForce := some (g, a), nextDecay := 63000 }

/-- The job of section 7.6 paused at its first boundary. -/
def pausedJob : Job :=
  { runningJob with
    generator := none, paused := true, framesSent := 1, repeatsSent := 1
    pauseTimer := some { start := 45#32, length := 1000 }
    play := some { kind := .rep, phase := .atBoundary, since := 22000, sampled := [] } }

/-- Section 7.6 at 22 ms: 5,910 + 137 = 6,047, and ZONE_DERATE(3, G0, 6,047). -/
theorem test_mark_end_hold_off :
    reports (exec (.cellEnd 7) { heldKey 5910 1 (.drive 5) { runningJob with
        play := some { kind := .rep, phase := .inSection 0, since := 0, sampled := [(0, 5)] } } with clock := 22000 })
      0xB0#8 [0#8, 0#8, 0x17#8, 0x9F#8, 0#8, 0#8, 0#8, 22#8] = true := by decide +kernel
/-- Section 7.6 at 45 ms: the frame is counted and the job is paused. -/
theorem test_boundary_pauses :
    gives (exec (.frameBoundary 7) { heldKey 5987 0 .holdOff { runningJob with
        play := some { kind := .rep, phase := .trail, since := 22000, sampled := [] } } with clock := 45000 }) (fun t =>
      decide (t.jobs.map (fun j => (j.paused, j.repeatsSent, j.pauseTimer)) =
        [(true, 1, some { start := 45#32, length := 1000 })])) = true := by decide +kernel
/-- Section 7.6 at 63 ms: 5,947 under G1, the pause clears and frame 2 begins at level 5. -/
theorem test_decay_clears_pause :
    gives (exec (.decayStep 0) { heldKey 5967 0 .holdOff pausedJob with clock := 63000 }) (fun t =>
      decide ((t.zone 0).load = 5947 ∧ (t.zone 0).drive = 5 ∧
        t.jobs.map (fun j => (j.paused, j.play)) =
          [(false, some { kind := .rep, phase := .inSection 0, since := 63000, sampled := [(0, 5)] })])) = true := by
  decide +kernel
/-- Section 7.6 at 133 ms: a released job of 2 repeats ends when its pause clears. -/
theorem test_pause_clear_ends :
    reports (exec (.pauseClear 7) { heldKey 5944 1 (.drive 5) { pausedJob with
        state := .draining, endReason := some .released, framesSent := 2, repeatsSent := 2 } with clock := 133000 })
      0xA1#8 ([7#8, 12#8, 0#8, 0#8, 1#8, 5#8, 1#8, 1#8, 0#8, 2#8, 0#8, 2#8, 1#8, 0#8, 0#8, 0#8, 0#8, 0#8, 0#8, 0#8, 133#8] ++
        List.replicate 13 0#8) = true := by decide +kernel

/-! ### Zones and groups -/

theorem test_zone_enable :
    replies (exec .zoneEnable ((bench.setZone 3 { benchZone with state := .off }).asked 0x30#8 [0x0C#8])) [0#8, 0x08#8, 0#8] =
      true := by decide +kernel
theorem test_zone_disable :
    gives (exec .zoneDisable (playing.asked 0x31#8 [0x03#8])) (fun t =>
      decide (t.jobs = [] ∧ (t.zone 0).state = .off ∧ (t.zone 1).state = .off ∧
        t.line.sending.map OutFrame.payload = some [0#8, 0x03#8, 0x03#8, 1#8])) = true := by decide +kernel
theorem test_zone_info_guard :
    replies (exec .zoneInfo ((waiting.at 4).asked 0x32#8 [0#8])) [0#8, 0#8, 3#8, 0#8, 8#8, 0#8, 0#8, 0xFF#8, 6#8] = true := by
  decide +kernel
theorem test_derate_set :
    gives (exec .derateSet (bench.asked 0x33#8 [3#8, 1#8, 0x01#8, 0x00#8, 7#8, 0xF0#8])) (fun t =>
      decide (t.groups[3] = { enabled := true, threshold := 256, action := .drive 7, mask := 0xF0#8 })) = true := by
  decide +kernel
theorem test_derate_get_default :
    replies (exec .derateGet (bench.asked 0x34#8 [0#8])) [0#8, 0#8, 1#8, 0x17#8, 0x70#8, 0#8, 0xFF#8] = true := by decide +kernel

/-! ### Inputs, capture, recognition, learning and verify -/

theorem test_input_mode_off_discards :
    gives (exec .inputMode ((listening .matching (.inFrame (openFrame [100, 200]))).asked 0x40#8 [0#8, 0#8, 7#8])) (fun t =>
      decide ((t.input 0).engine = .discarding 15000 ∧ (t.input 0).mode = .off ∧ (t.input 0).mask = 7#8 ∧
        t.line.sending.map OutFrame.payload = some [0#8, 0#8, 0#8, 7#8, 1#8])) = true := by decide +kernel
theorem test_input_info :
    replies (exec .inputInfo (bench.asked 0x41#8 [1#8]))
      [0#8, 1#8, 0#8, 0xFF#8, 0#8, 0#8, 0#8, 0#8, 0x3A#8, 0x98#8, 0#8, 0#8, 0#8, 0#8, 0#8, 0#8] = true := by decide +kernel
/-- Section 9.7: deadline 100,000. -/
theorem test_learn :
    replies (exec .learn ((stored.at 90000).asked 0x42#8 [0#8, 40#8, 0#8, 0#8, 0x94#8, 0x70#8, 33#8, 4#8]))
      [0#8, 40#8, 0#8, 0#8, 1#8, 0x86#8, 0xA0#8] = true := by decide +kernel
theorem test_learn_cancel :
    gives (exec .learnCancel ((learning (learnOf none none .aOnly none)).asked 0x43#8 [])) (fun t =>
      decide (t.slot 40 = .empty ∧ (t.input 0).mode = .matching ∧ t.table.learn = none ∧
        t.line.reports.map ReportEntry.payload = [[40#8, 0#8, 5#8, 0#8, 0#8, 0#8, 0#8, 0#8]])) = true := by decide +kernel
theorem test_learn_deadline :
    reports (exec .learnDeadline ((learning (learnOf none none .aOnly none)).at 10000)) 0xD0#8
      [40#8, 0#8, 4#8, 0#8, 0#8, 0#8, 0#8, 0#8] = true := by decide +kernel
/-- Section 9.7: frame 123 completes the learn, here with a lead of one cell. -/
theorem test_learn_builds_code :
    gives (exec .captureDispatch
        { learning (learnOf (some { sums := [560], frames := 1 }) (some { sums := [18000, 4500, 1130], frames := 2 }) .bSeen
            (some 40050)) with
          captures := [{ closedFrame .learner [9010, 2245, 565] with gapBefore := some 40210 }] }) (fun t =>
      match t.slot 40 with
      | .ready c => decide (c.cells = [560, 9003, 2248, 565] ∧ c.header.trailGap = 40050 ∧ c.header.mode = .hold)
      | _ => false) = true := by decide +kernel
theorem test_rx_raw_edge_starts_trial :
    gives (exec (.rxRawEdge 0 .mark) bench) (fun t =>
      decide ((t.input 0).trial = some { edge := 0, limit := 50 } ∧ (t.input 0).accepted = .space)) = true := by decide +kernel
theorem test_accepted_change_opens_frame :
    gives (exec (.acceptedChange 0)
        { (listening .matching .quiet).setInput 0 { (listening .matching .quiet).input 0 with
            raw := .mark, trial := some { edge := 100, limit := 50 } } with clock := 150 }) (fun t =>
      decide ((t.input 0).engine =
        .inFrame { number := 0, startInstant := 100, gapBefore := none, endGap := 15000, cells := [], longMark := false })) =
      true := by decide +kernel
theorem test_end_gap_closes :
    gives (exec (.endGapClose 0)
        { (listening .raw (.inFrame (openFrame [9000, 2250, 560]))).setInput 0
            { (listening .raw (.inFrame (openFrame [9000, 2250, 560]))).input 0 with levelSince := 11810 } with
          clock := 26810, captures := [closedFrame .rawForwarder [560]] }) (fun t =>
      decide (t.captures.map CapturedFrame.cells = [[560], [9000, 2250, 560]] ∧ (t.input 0).engine = .quiet)) = true := by
  decide +kernel
theorem test_stuck_mark :
    gives (exec (.stuckMark 0)
        { (listening .raw (.inFrame (openFrame []))).setInput 0
            { (listening .raw (.inFrame (openFrame []))).input 0 with raw := .mark, accepted := .mark } with
          clock := 200000, captures := [closedFrame .rawForwarder [560]] }) (fun t =>
      decide (t.captures.map CapturedFrame.cells = [[560], [65535]] ∧
        t.captures.map (fun f => f.flags.code) = [0, 6] ∧ (t.input 0).engine = .discarding 15000)) = true := by decide +kernel
theorem test_discard_end :
    gives (exec (.discardEnd 0) { listening .raw (.discarding 15000) with clock := 15000 }) (fun t =>
      decide ((t.input 0).engine = .quiet)) = true := by decide +kernel
/-- Section 9.6: both repeat sections score 3, and the lower slot wins. -/
theorem test_recognition_tie :
    reports (exec .captureDispatch
        { stored.putSlot 40 (.ready { keyCode with
            header := { keyHeader with leadCells := 0 }, cells := [9003, 2248, 565] }) with
          captures := [closedFrame .recognizer [9030, 2240, 560]] })
      0xC0#8 [0#8, 0#8, 80#8, 12#8, 0#8, 0#8, 1#8, 5#8, 1#8, 0#8, 3#8, 0#8, 1#8, 0#8, 0#8, 0#8, 0#8] = true := by decide +kernel
/-- Section 8.7: 130 cells make 2 parts, which need 10 free report entries. -/
theorem test_raw_parts_wait :
    gives (exec .captureDispatch { withReports (List.replicate 23 (sentReport 3)) with
        captures := [closedFrame .rawForwarder (List.replicate 130 500)] }) (fun t => decide (t.captures.length = 1)) = true ∧
      gives (exec .captureDispatch { withReports (List.replicate 22 (sentReport 3)) with
        captures := [closedFrame .rawForwarder (List.replicate 130 500)] }) (fun t =>
        decide (t.captures = [] ∧ t.line.reports.length = 24)) = true := by decide +kernel
/-- Section 10.6: FAIL, seen 3, matched 2, frame 1, COUNT, expected 67, measured 65. -/
theorem test_verify_verdict :
    gives (exec (.verifyVerdict 1) (settling missedMark)) (fun t =>
      decide (t.jobs = [] ∧ (t.input 1).mode = .matching ∧
        t.line.reports.map (fun e => e.payload.drop 21) =
          [[4#8, 0#8, 3#8, 0#8, 2#8, 0#8, 1#8, 0xFF#8, 0xFE#8, 0#8, 67#8, 0#8, 65#8]])) = true := by decide +kernel
/-- Section 10.6: frame 301 against the repeat section, and the lead that lost a mark. -/
theorem test_verify_compare :
    compareFrame 25 2 2 [9000, 2250, 560] [9040, 2220, 570] = none ∧
      compareFrame 25 1 1 (keyCode.section .lead) (List.replicate 65 560) =
        some { frameIndex := 1, place := .count, expected := 67, measured := 65 } := by decide +kernel

/-- A run on slot 12 whose last frame ended at 12,000 µs. -/
def benchRun : Run :=
  { slot := 12, count := 3, lastMarkEnd := 12000, windowPassed := false, endDecided := none }

/-- The bench with a run active on input 0, at an instant. -/
def running (r : Run) (clock : Nat) : State :=
  { bench.setInput 0 { bench.input 0 with mode := .matching, run := some r } with clock := clock }

theorem test_repeat_window_elapse :
    reports (exec (.repeatWindowElapse 0) (running benchRun 262000)) 0xC3#8 [0#8, 12#8, 0#8, 3#8, 0#8, 0#8, 1#8, 6#8] = true := by
  decide +kernel
theorem test_rx_run_end_decided_earlier :
    reports (exec (.rxRunEnd 0) (running { benchRun with windowPassed := true, endDecided := some 262#32 } 900000)) 0xC3#8
      [0#8, 12#8, 0#8, 3#8, 0#8, 0#8, 1#8, 6#8] = true := by decide +kernel

/-! ### The host line -/

theorem test_hrx_sync :
    gives (exec (.hrxByte 0xC3#8 true) bench) (fun t => decide (t.line.framer = .length)) = true := by decide +kernel
theorem test_hrx_bad_length :
    gives (exec (.hrxByte 244#8 true) { bench with line := { bench.line with framer := .length } }) (fun t =>
      decide (t.line.framer = .hunt ∧ t.line.sending.map OutFrame.type = some 0x01#8)) = true := by decide +kernel
theorem test_htx_frame_sent_reply_first :
    gives (exec .htxFrameSent { bench with line := { (withReports [{ sentReport 4 with sent := false }]).line with
        sending := some ((frameOf 1#8 []).replyFrame []), waiting := [(frameOf 2#8 []).replyFrame [0#8]] } }) (fun t =>
      decide (t.line.sending.map OutFrame.type = some 2#8 ∧ t.line.waiting = [])) = true := by decide +kernel
theorem test_report_send_starts_timer :
    gives (exec .reportSend ((withReports [{ sentReport 5 with sent := false, timesSent := 0 }]).at 1000)) (fun t =>
      decide (t.line.ackTimer = some { start := 1000#32, length := 500 } ∧ t.line.sending.map OutFrame.tag = some 5#8 ∧
        t.line.reports.map ReportEntry.timesSent = [1])) = true := by decide +kernel
/-- Section 11.4, worked retransmission at 2,680: round 3 is RETRY_LIMIT, and the window is HELD. -/
theorem test_ack_timer_held :
    gives (exec .ackTimerExpiry
        ({ withReports [sentReport 8] with
            params := { defaultParams with retryLimit := 3 }
            line := { (withReports [sentReport 8]).line with rounds := 2, ackTimer := some { start := 2180#32, length := 500 } }
            }.at 2680)) (fun t =>
      decide (t.line.held = true ∧ t.line.rounds = 3 ∧ t.line.ackTimer = none ∧ t.line.reports = [sentReport 8])) = true := by
  decide +kernel

/-! ### Witnesses: the hypotheses of each statement can be met

Each theorem names the statement whose hypotheses it meets, clause by clause, at boundary values where a clause has a
range. A hypothesis of the form `x = …` that only names a term is met by that term and is left out. -/

/-- The interpreter takes a command put alone in the FIFO of a state, as the happening of a row. -/
abbrev asks (s : State) (t : Byte) (p : List Byte) (i : Instr) : Prop :=
  (s.asked t p).takes (frameOf t p) i

theorem witness_SettingsHaveTheirWriters :
    (∀ straps a b, Instr.time ≠ .powerOn straps a b ∧ Instr.time ≠ .resetPin straps a b) ∧ Instr.time ≠ .setParam ∧
      Instr.time ≠ .restartFull ∧ Instr.time ≠ .derateSet ∧ Instr.time ≠ .reportSelect ∧ Instr.time ≠ .emit ∧
      Instr.time ≠ .restartActivity ∧ Instr.time ≠ .decayStep 0 :=
  ⟨fun _ _ _ => ⟨nofun, nofun⟩, nofun, nofun, nofun, nofun, nofun, nofun, nofun⟩

theorem witness_CodeCellsNeverChange :
    ∃ t b, exec .codeAmend (stored.asked 0x14#8 [12#8, 1#8, 2#8, 3#8, 4#8, 0#8, 50#8]) = .next t ∧
      (stored.asked 0x14#8 [12#8, 1#8, 2#8, 3#8, 4#8, 0#8, 50#8]).code? 12 = some keyCode ∧ t.code? 12 = some b :=
  ⟨_, _, rfl, rfl, rfl⟩

/-- A state whose replay record holds `frameOf 2 []`. -/
def replaying : State :=
  { bench with line := { bench.line with
      replay := some { tag := 5#8, crc := 0x1234#16, reply := (frameOf 2#8 []).replyFrame [0#8] } } }

theorem witness_CommandsTakenInTurn :
    bench.line.fifo = [] ∧
      ({ bench with line := { bench.line with sending := some ((frameOf 2#8 []).replyFrame []) } } : State).line.ready = false ∧
      (bench.asked 1#8 []).line.fifo.head? = some (frameOf 1#8 []) ∧ (frameOf 1#8 []).row ≠ (frameOf 2#8 []).row ∧
      (replaying.asked 2#8 []).line.fifo.head? = some (frameOf 2#8 []) ∧ (replaying.asked 2#8 []).line.ready = true ∧
      (replaying.asked 2#8 []).line.replayFor (frameOf 2#8 []) = some ((frameOf 2#8 []).replyFrame [0#8]) := by decide +kernel

theorem witness_BadMessageAnswered :
    (asks bench 0x07#8 [] .badMessage ∧ 0x07#8 ∉ commandTypes) ∧ (asks bench 0x44#8 [] .badMessage ∧ 0x44#8 ∉ commandTypes) ∧
      (asks bench 0x01#8 [0#8] .identify ∧ (Instr.identify, 0) ∈ payloadLengths) ∧
      (asks bench 0x11#8 [0#8, 0#8, 0#8, 0#8] .codeData ∧ byteAt [0#8, 0#8, 0#8, 0#8] 3 = 0) ∧
      (asks bench 0x11#8 [0#8, 0#8, 0#8, 113#8] .codeData ∧ 112 < byteAt [0#8, 0#8, 0#8, 113#8] 3) ∧
      (asks bench 0x11#8 [0#8, 0#8, 0#8, 1#8] .codeData ∧ [0#8, 0#8, 0#8, 1#8].length ≠ 4 + 2 * byteAt [0#8, 0#8, 0#8, 1#8] 3) := by
  decide +kernel

theorem witness_PowerUpState :
    (Instr.powerOn 3#2 .mark .space = .powerOn 3#2 .mark .space ∧ 0#8 = 0#8) ∧
      (Instr.resetPin 0#2 .space .mark = .resetPin 0#2 .space .mark ∧ 1#8 = 1#8) := by decide

theorem witness_ResetsEmptyTheTable : asks playing 0x06#8 [2#8] .restartFull := by decide +kernel

theorem witness_RestartLinkEffects :
    (asks playing 0x06#8 [3#8] .restartLink ∧ 2 < (3#8).toNat) ∧ asks playing 0x06#8 [0#8] .restartLink := by decide +kernel

theorem no_mark_sampled (p : Play) (hp : pausedJob.play = some p) : p.sampled = [] := by
  cases hp
  rfl

/-- A job that is paused: no mark is in progress. -/
def paused : State := heldKey 5944 1 (.drive 5) pausedJob

theorem witness_RestartActivityEffects :
    (asks playing 0x06#8 [1#8] .restartActivity ∧ asks paused 0x06#8 [1#8] .restartActivity) ∧
      (playing.asked 0x06#8 [1#8]).poolAccounted ∧
      ∀ j ∈ (paused.asked 0x06#8 [1#8]).jobs, ∀ p, j.play = some p → p.sampled = [] := by
  refine ⟨by decide +kernel, by unfold State.poolAccounted; decide +kernel, ?_⟩
  exact List.forall_mem_singleton.mpr no_mark_sampled

theorem witness_RestartFullEffects :
    (asks playing 0x06#8 [2#8] .restartFull ∧ asks paused 0x06#8 [2#8] .restartFull) ∧
      ∀ j ∈ (paused.asked 0x06#8 [2#8]).jobs, ∀ p, j.play = some p → p.sampled = [] :=
  ⟨by decide +kernel, List.forall_mem_singleton.mpr no_mark_sampled⟩

theorem witness_IdentifyAndTimeAnswer : asks playing 0x01#8 [] .identify ∧ asks playing 0x02#8 [] .time := by decide +kernel

theorem witness_ParametersAnswer :
    (asks bench 0x04#8 [0x12#8] .getParam ∧ ParamId.ofId 0x12 = none) ∧
      (asks bench 0x04#8 [0x11#8] .getParam ∧ ParamId.ofId 0x11 = some .learnTimeout) ∧
      (asks bench 0x03#8 [0#8, 0#8, 0#8] .setParam ∧ ParamId.ofId 0 = none) ∧
      (asks bench 0x03#8 [6#8, 0#8, 4#8] .setParam ∧ ParamId.ofId 6 = some .matchTolerance ∧ 4 < ParamId.matchTolerance.range.1) ∧
      (asks bench 0x03#8 [1#8, 0#8, 101#8] .setParam ∧ ParamId.ofId 1 = some .guardTime ∧ ParamId.guardTime.range.2 < 101) ∧
      (asks bench 0x03#8 [1#8, 0#8, 0#8] .setParam ∧ ParamId.guardTime.range = (0, 100)) ∧
      (asks bench 0x03#8 [16#8, 0#8, 1#8] .setParam ∧ ParamId.ofId 16 = some .unknownForward ∧ ParamId.unknownForward.range.2 = 1) ∧
      (asks bench 0x03#8 [7#8, 3#8, 232#8] .setParam ∧ ParamId.ofId 7 = some .repeatWindow ∧
        3 * 256 + 232 = ParamId.repeatWindow.range.2) := by decide +kernel

theorem witness_ReportSelectAnswers :
    (asks bench 0x05#8 [0x20#8] .reportSelect ∧ 0x20#8 &&& 0xE0#8 ≠ 0#8) ∧
      (asks bench 0x05#8 [0x1F#8] .reportSelect ∧ 0x1F#8 &&& 0xE0#8 = 0#8) := by decide +kernel

/-- A pool with only some blocks free. -/
def freeOnly (n : Nat) : State :=
  { bench with table := { bench.table with freeBlocks := n } }

/-- The header that 22 bytes spell (chapter 11, Code header layout). -/
def headerRead (p : List Byte) : Header where
  label := p.getD 1 0#8 ++ p.getD 2 0#8 ++ p.getD 3 0#8 ++ p.getD 4 0#8
  frequency := ((byteAt p 5 * 256 + byteAt p 6) * 256 + byteAt p 7) * 256 + byteAt p 8
  duty := byteAt p 9
  mode := if byteAt p 10 = 0 then .count else .hold
  repeatFigure := byteAt p 11
  leadCells := byteAt p 12 * 256 + byteAt p 13
  repeatCells := byteAt p 14 * 256 + byteAt p 15
  trailGap := ((byteAt p 16 * 256 + byteAt p 17) * 256 + byteAt p 18) * 256 + byteAt p 19
  matchable := decide (byteAt p 20 = 1)
  tolerance := byteAt p 21

/-- The ranges of R2 and R3 over the fields of a HOLD code's header. -/
abbrev inRanges (h : Header) : Prop :=
  (15000 ≤ h.frequency ∧ h.frequency ≤ 500000) ∧ h.duty = 33 ∧ h.mode = .hold ∧ h.leadCells % 2 = 1 ∧ h.leadCells ≤ 1023 ∧
    h.repeatCells % 2 = 1 ∧ h.leadCells + h.repeatCells ≤ 1024 ∧ 1000 ≤ h.trailGap ∧ h.trailGap ≤ 500000 ∧ h.tolerance = 0

theorem witness_CodeOpenAnswers :
    (asks bench 0x10#8 (128#8 :: List.replicate 21 0#8) .codeOpen ∧ 127 < byteAt (128#8 :: List.replicate 21 0#8) 0) ∧
      (asks stored 0x10#8 (headerBytes 12 keyHeader) .codeOpen ∧ stored.slot 12 ≠ .empty) ∧
      (asks (loadingKey []) 0x10#8 (headerBytes 13 keyHeader) .codeOpen ∧ (loadingKey []).slot 13 = .empty ∧
        ((loadingKey []).table.load).isSome = true) ∧
      (asks bench 0x10#8 (headerBytes 127 { keyHeader with trailGap := 999 }) .codeOpen ∧ bench.slot 127 = .empty ∧
        headerRead (headerBytes 127 { keyHeader with trailGap := 999 }) = { keyHeader with trailGap := 999 } ∧ 999 < 1000) ∧
      (asks (freeOnly 4) 0x10#8 (headerBytes 12 keyHeader) .codeOpen ∧ headerRead (headerBytes 12 keyHeader) = keyHeader ∧
        inRanges keyHeader ∧ 4 < (67 + 3 + 15) / 16) ∧
      (asks (freeOnly 5) 0x10#8 (headerBytes 12 keyHeader) .codeOpen ∧ (67 + 3 + 15) / 16 ≤ 5 ∧
        (headerBytes 12 keyHeader).length = 22) := by decide +kernel

/-- A CODE_DATA payload. -/
def segment (slot offset : Nat) (cells : List Nat) : List Byte :=
  u8 slot ++ u16 offset ++ u8 cells.length ++ cellBytes cells

theorem witness_CodeDataAnswers :
    (asks (loadingKey []) 0x11#8 (segment 13 0 [8]) .codeData ∧ ∀ l ∈ (loadingKey []).table.load, l.slot.val ≠ 13) ∧
      (asks (loadingKey [8]) 0x11#8 (segment 12 0 [8]) .codeData ∧ ∀ l ∈ (loadingKey [8]).table.load, 0 ≠ l.nextOffset) ∧
      (asks (loadingKey (keyCells.take 69)) 0x11#8 (segment 12 69 [8, 8]) .codeData ∧
        ∀ l ∈ (loadingKey (keyCells.take 69)).table.load, 69 = l.nextOffset ∧ l.header.total < 69 + 2) ∧
      (asks (loadingKey (keyCells.take 68)) 0x11#8 (segment 12 68 [8, 7]) .codeData ∧
        cellsAt (segment 12 68 [8, 7]) 4 2 = [8, 7] ∧ 68 + 2 ≤ keyHeader.total) ∧
      (asks (loadingKey (keyCells.take 69)) 0x11#8 (segment 12 69 [8]) .codeData ∧ 69 + 1 ≤ keyHeader.total ∧
        (loadingKey (keyCells.take 69)).slot 12 = .loading keyHeader (keyCells.take 69)) := by decide +kernel

theorem witness_CodeCloseAnswers :
    (asks bench 0x12#8 [12#8, 0#8, 0#8] .codeClose ∧ bench.table.load = none) ∧
      (asks (loadingKey (keyCells.take 69)) 0x12#8 [12#8, 0#8, 0#8] .codeClose ∧
        ∀ l ∈ (loadingKey (keyCells.take 69)).table.load, l.slot = 12 ∧ l.nextOffset ≠ l.header.total) ∧
      (asks (loadingKey keyCells) 0x12#8 [12#8, 0x5C#8, 0xBF#8] .codeClose ∧
        ∀ l ∈ (loadingKey keyCells).table.load, l.nextOffset = l.header.total ∧ wordAt [12#8, 0x5C#8, 0xBF#8] 1 ≠ l.checksum.toNat) ∧
      (asks (loadingKey keyCells) 0x12#8 [12#8, 0x5C#8, 0xBE#8] .codeClose ∧
        (loadingKey keyCells).slot 12 = .loading keyHeader keyCells ∧
        ∀ l ∈ (loadingKey keyCells).table.load, wordAt [12#8, 0x5C#8, 0xBE#8] 1 = l.checksum.toNat) := by decide +kernel

/-- The bench with the 70-cell code RETIRING in slot 12 and some references. -/
def retiringCode (n : Nat) : State := bench.putSlot 12 (.retiring { keyCode with refs := n })

/-- A learn that has just begun. -/
def freshLearn : State := learning (learnOf none none .aOnly none)

theorem witness_CodeErasedAndRetired :
    (retiringCode 0).slot 12 = .retiring { keyCode with refs := 0 } ∧ stored.slot 12 = .ready keyCode ∧
      (asks bench 0x13#8 [128#8] .codeErase ∧ 127 < (128#8).toNat) ∧ (asks bench 0x13#8 [127#8] .codeErase ∧ bench.slot 127 = .empty) ∧
      (asks (loadingKey []) 0x13#8 [12#8] .codeErase ∧ (loadingKey []).slot 12 = .loading keyHeader []) ∧
      (asks freshLearn 0x13#8 [40#8] .codeErase ∧ freshLearn.slot 40 = .learning ∧
        freshLearn.table.learn = some (learnOf none none .aOnly none)) ∧
      (asks stored 0x13#8 [12#8] .codeErase ∧ keyCode.refs = 0) ∧
      (asks playing 0x13#8 [12#8] .codeErase ∧ playing.slot 12 = .ready { keyCode with refs := 1 }) ∧
      (asks (retiringCode 1) 0x13#8 [12#8] .codeErase ∧ (retiringCode 1).slot 12 = .retiring { keyCode with refs := 1 }) := by
  decide +kernel

theorem witness_CodeAmendAnswers :
    asks bench 0x14#8 [128#8, 0#8, 0#8, 0#8, 0#8, 0#8, 0#8] .codeAmend ∧
      (asks (retiringCode 1) 0x14#8 [12#8, 0#8, 0#8, 0#8, 0#8, 0#8, 0#8] .codeAmend ∧ ((retiringCode 1).slot 12).isReady = false) ∧
      (asks stored 0x14#8 [12#8, 0#8, 0#8, 0#8, 0#8, 2#8, 0#8] .codeAmend ∧ 1 < (2#8).toNat) ∧
      (asks stored 0x14#8 [12#8, 0#8, 0#8, 0#8, 0#8, 0#8, 4#8] .codeAmend ∧ (4#8).toNat < 5) ∧
      (asks stored 0x14#8 [12#8, 0#8, 0#8, 0#8, 0#8, 0#8, 51#8] .codeAmend ∧ 50 < (51#8).toNat) ∧
      (asks stored 0x14#8 [12#8, 0#8, 0#8, 0#8, 0#8, 1#8, 5#8] .codeAmend ∧ stored.slot 12 = .ready keyCode) := by decide +kernel

theorem witness_CodeInfoAnswers :
    asks bench 0x15#8 [128#8] .codeInfo ∧ (asks bench 0x15#8 [127#8] .codeInfo ∧ bench.slot 127 = .empty) ∧
      (asks (loadingKey []) 0x15#8 [12#8] .codeInfo ∧ (loadingKey []).slot 12 = .loading keyHeader []) ∧
      (asks freshLearn 0x15#8 [40#8] .codeInfo ∧ freshLearn.slot 40 = .learning) ∧
      (asks (retiringCode 1) 0x15#8 [12#8] .codeInfo ∧ (retiringCode 1).code? 12 = some { keyCode with refs := 1 }) := by
  decide +kernel

theorem witness_CodeReadAnswers :
    asks bench 0x16#8 [128#8, 0#8, 0#8, 1#8] .codeRead ∧
      (asks bench 0x16#8 [127#8, 0#8, 0#8, 1#8] .codeRead ∧ (bench.slot 127).isReady = false ∧ (bench.slot 127).isRetiring = false) ∧
      asks stored 0x16#8 [12#8, 0#8, 0#8, 0#8] .codeRead ∧ asks stored 0x16#8 [12#8, 0#8, 0#8, 113#8] .codeRead ∧
      (asks stored 0x16#8 [12#8, 0#8, 70#8, 1#8] .codeRead ∧ keyHeader.total < 70 + 1) ∧
      (asks stored 0x16#8 [12#8, 0#8, 69#8, 1#8] .codeRead ∧ 69 + 1 ≤ keyHeader.total ∧ stored.slot 12 = .ready keyCode) := by
  decide +kernel

theorem witness_PoolInfoAnswers : asks freshLearn 0x17#8 [] .poolInfo := by decide +kernel

theorem witness_LoadIdleExpires :
    bench.table.load = none ∧ (loadingKey []).slot 12 = .loading keyHeader [] ∧
      (∀ l ∈ (loadingKey []).table.load, (((loadingKey []).at 1999).now - l.idle.start).toNat < l.idle.length ∧
        l.idle.length ≤ (((loadingKey []).at 2000).now - l.idle.start).toNat) := by decide +kernel

/-- A payload of EMIT on slot 12. -/
def emitPayload (zones cls hold rep keep verify : Nat) : List Byte :=
  u8 12 ++ u8 zones ++ u8 cls ++ u8 hold ++ u8 rep ++ u16 keep ++ u8 verify

/-- The bench with 15 or 16 live jobs on the 70-cell code, waiting for zone 7. -/
def crowded (n : Nat) : State :=
  { stored with jobs := (List.range n).map fun k => { benchJob with id := k + 1, zones := 0x80#8 } }

/-- The bench with the 70-cell code READY and zone 6 OFF. -/
def zoneOff : State := stored.setZone 6 { benchZone with state := .off }

/-- The bench with an end gap on input 1 as long as the 70-cell code's trail gap. -/
def wideGap : State := { stored with params := { defaultParams with endGapRx1 := 40 } }

theorem witness_EmitRefuses :
    asks stored 0x20#8 (128#8 :: (emitPayload 1 0 1 0xFF 0 0xFF).tail) .emit ∧
      (asks bench 0x20#8 (emitPayload 1 0 1 0xFF 0 0xFF) .emit ∧ (bench.slot 12).isReady = false) ∧
      (asks stored 0x20#8 (emitPayload 0 0 1 0xFF 0 0xFF) .emit ∧ ¬emitCheck2 0#8 0#8 1#8 0xFF#8 ∧ ¬emitCheck2 1#8 2#8 1#8 0xFF#8 ∧
        ¬emitCheck2 1#8 0#8 2#8 0xFF#8 ∧ ¬emitCheck2 1#8 0#8 1#8 2#8 ∧ ¬emitCheck2 1#8 0#8 1#8 0xFE#8) ∧
      (asks zoneOff 0x20#8 (emitPayload 0x60 0 1 0xFF 0 0xFF) .emit ∧ 0x60#8 &&& zoneOff.offZones ≠ 0#8) ∧
      (asks stored 0x20#8 (emitPayload 1 0 0 0xFF 0 0xFF) .emit ∧ ¬emitCheck4 keyCode 0#8 0xFF#8 0) := by decide +kernel

theorem witness_EmitRefuses_checks_5_and_6 :
    (asks stored 0x20#8 (emitPayload 1 0 1 0xFF 49 0xFF) .emit ∧ emitCheck4 keyCode 1#8 0xFF#8 49 ∧ ¬emitCheck5 49 ∧
        ¬emitCheck5 2001) ∧
      (asks freshLearn 0x20#8 (emitPayload 1 0 1 0xFF 50 0) .emit ∧ emitCheck5 50 ∧ ¬freshLearn.emitCheck6 0#8) ∧
      (asks wideGap 0x20#8 (emitPayload 1 0 1 0xFF 0 1) .emit ∧ ¬wideGap.emitCheck6' keyCode 1#8) := by decide +kernel

theorem witness_EmitRefuses_full_queue :
    (asks (crowded 16) 0x20#8 (emitPayload 1 0 1 0xFF 2000 0xFF) .emit ∧ emitCheck5 2000 ∧ (crowded 16).emitCheck6 0xFF#8 ∧
        (crowded 16).emitCheck6' keyCode 0xFF#8 ∧ 16 ≤ (crowded 16).jobs.length ∧ (crowded 16).slot 12 = .ready keyCode ∧
        0x01#8 &&& (crowded 16).offZones = 0#8) := by decide +kernel

theorem witness_EmitAdmits :
    asks (crowded 15) 0x20#8 (emitPayload 1 1 1 0xFF 2000 1) .emit ∧ (crowded 15).slot 12 = .ready keyCode ∧
      emitCheck2 1#8 1#8 1#8 1#8 ∧ 1#8 &&& (crowded 15).offZones = 0#8 ∧ emitCheck4 keyCode 1#8 0xFF#8 2000 ∧ emitCheck5 2000 ∧
      (crowded 15).emitCheck6 1#8 ∧ (crowded 15).emitCheck6' keyCode 1#8 ∧ (crowded 15).jobs.length < 16 := by decide +kernel

/-- The request of `emitPayload 1 cls 1 0xFF 50 0xFF`. -/
def benchRequest (cls : JobClass) (hold : Bool) : EmitRequest :=
  { slot := 12, zones := 1#8, cls := cls, hold := hold, repeatOverride := none, keepInterval := none, verifyInput := none }

theorem witness_AdmissionRecords :
    (playing.queueOrdered ∧ playing.jobs.length < 16 ∧ playing.slot 12 = .ready { keyCode with refs := 1 }) ∧
      (∀ m ∈ playing.jobs, m.id ≠ playing.nextId) ∧ (∀ m ∈ playing.jobs, m.cls = .normal → m.paused = false) ∧
      (benchRequest .urgent true).cls = .urgent ∧ (benchRequest .normal false).hold = false := by
  unfold State.queueOrdered
  decide +kernel

theorem witness_AdmissionRecords_wrap :
    ({ crowded 1 with nextId := 255 } : State).nextId = 255 ∧ (255 - 1 + 1) % 255 + 1 = 1 ∧
      (∃ m ∈ ({ crowded 1 with nextId := 1 } : State).jobs, m.id = (1 - 1 + 0) % 255 + 1) ∧
      (({ crowded 1 with nextId := 1 } : State).newJob (benchRequest .normal false)).id = 2 := by decide +kernel

theorem witness_AdmissionRecords_paused :
    (paused.queueOrdered ∧ paused.jobs.length < 16 ∧ paused.slot 12 = .ready markCode) ∧
      ((benchRequest .urgent true).cls = .urgent ∧ paused.jobs = [pausedJob] ∧ pausedJob.paused = true ∧
        pausedJob.cls = .normal ∧ pausedJob.state = .running ∧ pausedJob.zones &&& (benchRequest .urgent true).zones ≠ 0#8) := by
  unfold State.queueOrdered
  decide +kernel

/-- `runningJob` DRAINING. -/
def drainingJob : Job := { runningJob with state := .draining, endReason := some .released, keepTimer := none, holdTimer := none }

theorem witness_JobKeepAndReleaseAnswer :
    (asks bench 0x21#8 [7#8] .jobKeep ∧ asks bench 0x22#8 [7#8] .jobRelease ∧ ∀ j ∈ bench.jobs, j.id ≠ 7) ∧
      (asks (withJob { benchJob with hold := false } .idle) 0x21#8 [7#8] .jobKeep ∧
        asks (withJob { benchJob with hold := false } .idle) 0x22#8 [7#8] .jobRelease) ∧
      (asks (withJob drainingJob (.active 7)) 0x21#8 [7#8] .jobKeep ∧ drainingJob ∈ (withJob drainingJob (.active 7)).jobs) ∧
      (asks (withJob { benchJob with released := true } .idle) 0x22#8 [7#8] .jobRelease) ∧
      (asks waiting 0x21#8 [7#8] .jobKeep ∧ asks waiting 0x22#8 [7#8] .jobRelease ∧ benchJob ∈ waiting.jobs ∧
        benchJob.state = .waiting ∧ benchJob.released = false) ∧
      (asks playing 0x21#8 [7#8] .jobKeep ∧ asks playing 0x22#8 [7#8] .jobRelease ∧ runningJob ∈ playing.jobs ∧
        runningJob.state = .running ∧ (playing.jobs.map Job.id).Nodup) := by decide +kernel

/-- A verify record of job 7 just bound, with some sections emitted. -/
def boundTo (emitted : Nat) : VerifyRecord :=
  { job := 7, firstFrame := 80, emitted := emitted, seen := 0, matched := 0, mismatch := none }

/-- `runningJob` with its verify input bound. -/
def boundJob : Job := { runningJob with verifyInput := some 1 }

/-- A state whose input 1 is bound to a verify record. -/
def State.binding (s : State) (r : VerifyRecord) : State :=
  s.setInput 1 { s.input 1 with mode := .verify, savedMode := some .matching, verify := some r }

/-- The bench with `boundJob`. -/
def bound (emitted : Nat) : State := (withJob boundJob (.active 7)).binding (boundTo emitted)

theorem not_bound {s : State} {j : Job} (h : j.verifyInput = none) : s.notBound j :=
  fun _ _ hv => nomatch h.symm.trans hv

theorem witness_JobCancelAnswers :
    (asks playing 0x23#8 [8#8] .jobCancel ∧ ∀ j ∈ playing.jobs, j.id ≠ 8) ∧
      (asks playing 0x23#8 [7#8] .jobCancel ∧ playing.job? 7 = some runningJob) ∧
      (asks (settling missedMark) 0x23#8 [7#8] .jobCancel ∧ ((settling missedMark).job? 7).map Job.state = some .settling ∧
        ((settling missedMark).input 1).verify = some missedMark ∧ missedMark.job = 7) ∧
      (asks (bound 3) 0x23#8 [7#8] .jobCancel ∧ (bound 3).job? 7 = some boundJob ∧ boundJob.verifyInput = some 1 ∧
        ((bound 3).input 1).verify = some (boundTo 3) ∧ boundJob.state ≠ .settling) ∧
      (asks waiting 0x23#8 [7#8] .jobCancel ∧ waiting.job? 7 = some benchJob ∧ benchJob.verifyInput = none ∧
        waiting.line.categories.getLsbD 1 = true ∧ waiting.line.reports.length < 32 ∧
        waiting.slot 12 = .ready { keyCode with refs := 1 }) := by decide +kernel

theorem witness_JobCancelAnswers_by_state :
    (benchJob.state = .waiting ∧ runningJob.state = .running ∧ drainingJob.state = .draining ∧
        runningJob.play.map Play.sampled = some [(0, 8)] ∧ { drainingJob with play := none }.play = none) ∧
      (asks (withJob { drainingJob with play := none } (.active 7)) 0x23#8 [7#8] .jobCancel ∧
        (withJob { drainingJob with play := none } (.active 7)).job? 7 = some { drainingJob with play := none }) := by decide +kernel

/-- `waiting` with some reports in the queue. -/
def crowdedLine (n : Nat) : State :=
  { waiting with line := { waiting.line with reports := List.replicate n (sentReport 3) } }

theorem witness_end_of_a_job_reported :
    (waiting.code? benchJob.slot = some { keyCode with refs := 1 } ∧ waiting.slot benchJob.slot = .ready { keyCode with refs := 1 } ∧
        waiting.line.categories.getLsbD 1 = true ∧ ({ waiting.line with categories := 0x1D#8 } : HostLine).categories.getLsbD 1 = false) ∧
      ((crowdedLine 31).line.reports.length < 32 ∧ ¬((crowdedLine 32).line.reports.length < 32)) ∧
      ((retiringCode 1).slot benchJob.slot = .retiring { keyCode with refs := 1 } ∧
        (retiringCode 2).slot benchJob.slot = .retiring { keyCode with refs := 2 } ∧
        (retiringCode 2).code? benchJob.slot = some { keyCode with refs := 2 }) := by decide +kernel

theorem witness_JobListAnswers : asks (crowded 16) 0x25#8 [] .jobList := by decide +kernel

theorem witness_KeepTimerExpires :
    (playing.job? 7 = some runningJob ∧ (playing.at 299).due runningJob.keepTimer = false ∧
      (playing.at 300).due runningJob.keepTimer = true) ∧
      ((waiting.job? 7 = some benchJob ∧ (waiting.at 300).due benchJob.keepTimer = true) ∧ (waiting.at 300).notBound benchJob) ∧
      ((withJob drainingJob (.active 7)).job? 7 = some drainingJob ∧ drainingJob.state = .draining) :=
  ⟨by decide +kernel, ⟨by decide +kernel, not_bound rfl⟩, by decide +kernel⟩

theorem witness_HoldLimitExpires :
    playing.job? 7 = some runningJob ∧ (playing.at 20000).due runningJob.holdTimer = true ∧
      (playing.at 19999).due runningJob.holdTimer = false ∧
      ((withJob drainingJob (.active 7)).job? 7 = some drainingJob ∧ drainingJob.state ≠ .running) := by decide +kernel

/-- A paused job with its verify input bound. -/
def pausedBound (j : Job) : State := (heldKey 5944 1 (.drive 5) { j with verifyInput := some 1 }).binding (boundTo 1)

/-- `pausedJob` DRAINING with its two repeat frames sent. -/
def pausedAtEnd : Job := { pausedJob with state := .draining, endReason := some .released, repeatsSent := 2 }

theorem witness_PausesEnd :
    (paused.job? 7 = some pausedJob ∧ paused.code? 12 = some markCode) ∧ (playing.job? 7 = some runningJob ∧ runningJob.paused = false) ∧
      ((paused.at 1044).due pausedJob.pauseTimer = false ∧ (paused.at 1045).due pausedJob.pauseTimer = true) ∧
      (∃ z g, ZoneSet.has pausedJob.zones z = true ∧ ((heldKey 5944 0 .holdOff pausedJob).zone z).inForce = some (g, .holdOff)) ∧
      ((∀ z g, ZoneSet.has pausedJob.zones z = true → (paused.zone z).inForce ≠ some (g, .holdOff)) ∧
        pausedJob.preemptPending = false ∧ markCode.header.mode = .hold ∧ pausedJob.state ≠ .draining) ∧
      (markCode.header.mode = .hold ∧ pausedAtEnd.state = .draining ∧ ¬(pausedAtEnd.repeatsSent < markCode.header.repeatFigure) ∧
        { pausedAtEnd with repeatsSent := 1 }.repeatsSent < markCode.header.repeatFigure ∧
        EndReason.released ≠ .cancelled ∧ EndReason.preempted ≠ .zoneDisabled) ∧
      (((pausedBound pausedAtEnd).jobs.map Job.id).Nodup ∧
        (pausedBound pausedAtEnd).job? 7 = some { pausedAtEnd with verifyInput := some 1 } ∧
        ((pausedBound pausedAtEnd).input 1).verify = some (boundTo 1) ∧ (boundTo 1).job = 7) := by decide +kernel

theorem witness_PausesEnd_not_bound : (paused.at 1045).notBound pausedJob := not_bound rfl

/-- A job that wants zones 0 and 1. -/
def blockedJob : Job := { benchJob with zones := 3#8 }

/-- A job that wants zone 0. -/
def blockedBehind : Job := { benchJob with id := 8 }

/-- A job that wants zone 2. -/
def freeJob : Job := { benchJob with id := 9, zones := 4#8 }

/-- The three, with zone 1 in GUARD and the other zones IDLE. -/
def lineUp : State :=
  { (withJob benchJob .idle).setZone 1 { benchZone with state := .guard { start := 0#32, length := 10 } } with
    jobs := [blockedJob, blockedBehind, freeJob] }

/-- The bench with one job WAITING on an IDLE zone and no generator that it could have. -/
def noCarrier : State :=
  { withJob benchJob .idle with generators := Vector.replicate 4 (some { frequency := 38000, duty := 50, users := 1 }) }

theorem only_one {front before behind : List Job} {j a : Job} (h : front = [a]) (e : front = before ++ j :: behind) : j = a := by
  subst h
  match before, e with
  | [], e => exact (List.cons.inj e).1.symm
  | _ :: rest, e => simp at e

theorem waiting_none_starts : waiting.noneStarts waiting.jobs := by
  intro before j behind h g e ⟨_, idle, _⟩
  obtain rfl := only_one rfl e
  exact absurd (idle 0 (by decide)) (by decide +kernel)

theorem no_carrier_none_starts : noCarrier.noneStarts noCarrier.jobs := by
  intro before j behind h g e ⟨_, _, _, ⟨k, hk, hh⟩, hg⟩
  obtain rfl := only_one rfl e
  obtain rfl : { keyCode with refs := 1 } = k := Option.some.inj ((show noCarrier.code? 12 = _ by decide +kernel).symm.trans hk)
  subst hh
  exact nomatch (show noCarrier.obtainCarrier keyHeader = none by decide +kernel).symm.trans hg

theorem first_or_second {before behind : List Job} {j a b : Job} (e : [a, b] = before ++ j :: behind) :
    (before = [] ∧ j = a) ∨ (before = [a] ∧ j = b) := by
  match before, e with
  | [], e => exact .inl ⟨rfl, (List.cons.inj e).1.symm⟩
  | [_], e =>
    have h := List.cons.inj e
    exact .inr ⟨by rw [h.1], (List.cons.inj h.2).1.symm⟩
  | _ :: _ :: rest, e => simp at e

theorem line_up_none_starts : lineUp.noneStarts [blockedJob, blockedBehind] := by
  intro before j behind h g e ⟨_, idle, ahead, _⟩
  obtain ⟨rfl, rfl⟩ | ⟨rfl, rfl⟩ := first_or_second e
  · exact absurd (idle 1 (by decide)) (by decide +kernel)
  · exact absurd (ahead _ (.head _) rfl) (by decide)

theorem line_up_starts : lineUp.mayStart [blockedJob, blockedBehind] freeJob keyHeader (some 0) :=
  ⟨rfl, by decide +kernel, by decide +kernel, ⟨_, rfl, rfl⟩, by decide +kernel⟩

theorem witness_JobStarts :
    ((waiting.jobs.map Job.id).Nodup ∧ waiting.noneStarts waiting.jobs) ∧ noCarrier.noneStarts noCarrier.jobs ∧
      (lineUp.jobs.map Job.id).Nodup ∧
        ∃ before j behind h g, lineUp.jobs = before ++ j :: behind ∧ lineUp.noneStarts before ∧ lineUp.mayStart before j h g :=
  ⟨⟨by decide +kernel, waiting_none_starts⟩, no_carrier_none_starts, by decide +kernel, _, _, [], _, _, rfl, line_up_none_starts,
    line_up_starts⟩

theorem witness_JobStarts_carriers :
    playing.generators[0] = some { frequency := 38000, duty := 33, users := 1 } ∧ playing.generators[1] = none ∧
      (∀ g : Fin 4, g < 1 → playing.generators[g] ≠ none) ∧ (∀ g : Fin 4, noCarrier.generators[g] ≠ none) ∧
      keyHeader.frequency ≠ 0 ∧ markCode.header.frequency = 0 := by decide +kernel

/-- `runningJob` in a cell of its lead section. -/
def inCell (n : Nat) : Job :=
  { runningJob with play := some { kind := .lead, phase := .inSection n, since := 0, sampled := if n % 2 = 0 then [(0, 8)] else [] } }

theorem witness_CellEnds :
    (∀ n ∈ [0, 1, 64, 65, 66], (withJob (inCell n) (.active 7)).job? 7 = some (inCell n)) ∧
      playing.code? 12 = some { keyCode with refs := 1 } ∧ (keyCode.section .lead)[0]? = some 9000 ∧
      (keyCode.section .lead)[1]? = some 4500 ∧ (keyCode.section .lead)[66]? = some 560 ∧ (keyCode.section .lead).length = 67 ∧
      (({ playing with clock := 8999 } : State).clock < 0 + 9000 ∧ 0 + 9000 ≤ ({ playing with clock := 9000 } : State).clock) ∧
      ((bound 3).job? 7 = some boundJob ∧ ((bound 3).input 1).verify = some (boundTo 3) ∧ (boundTo 3).job = boundJob.id) ∧
      ((playing.zone 0).state = .active 7 ∧ ZoneSet.has runningJob.zones 0 = true ∧
        runningJob.play.map Play.sampled = some ((zonesOf runningJob.zones).map fun z => (z, 8))) ∧
      (playing.output 0 = .carrier 0 8 ∧ playing.output 1 = .dark) := by decide +kernel

/-- `pausedJob` with a group in force on its zone at a load. -/
def loadedTo (load : Nat) : State := heldKey load 1 (.drive 5) pausedJob

theorem witness_CellEnds_mark_end :
    (∃ g : GroupNo, (((loadedTo 5944).groups[g]).enabled = true ∧ ZoneSet.has ((loadedTo 5944).groups[g]).mask 0 = true ∧
        ((loadedTo 5944).groups[g]).threshold ≤ min 65535 (5944 + 22000 * 8 / 800))) ∧
      ((∀ g : GroupNo, bench.groups[g].enabled = false ∨ ¬(bench.groups[g].threshold ≤ 0)) ∧ (bench.zone 0).inForce = none) ∧
      min 65535 (65535 + 60000 * 8 / 800) = 65535 := by decide +kernel

/-- `runningJob` in the trail gap after its lead section. -/
def inTrail : Job :=
  { runningJob with play := some { kind := .lead, phase := .trail, since := 0, sampled := [] } }

theorem witness_FrameBoundaryDecides :
    ((withJob inTrail (.active 7)).job? 7 = some inTrail ∧ (withJob inTrail (.active 7)).code? 12 = some { keyCode with refs := 1 } ∧
      { inTrail with framesSent := 65534 }.framesSent < 65535 ∧ ¬({ inTrail with framesSent := 65535 }.framesSent < 65535)) ∧
      (39999 < 0 + keyHeader.trailGap ∧ 0 + keyHeader.trailGap ≤ 40000) ∧ { inTrail with preemptPending := true }.preemptPending = true ∧
      ¬(1 < ({ inTrail with repeatOverride := some 1 }.repeatOverride.getD countCode.header.repeatFigure)) ∧
      inTrail.state ≠ .draining ∧ (∀ z g, ZoneSet.has inTrail.zones z = true →
        ((withJob inTrail (.active 7)).zone z).inForce ≠ some (g, .holdOff)) ∧
      (∃ z g, ZoneSet.has inTrail.zones z = true ∧ ((heldKey 6000 0 .holdOff inTrail).zone z).inForce = some (g, .holdOff)) := by
  decide +kernel

theorem witness_FrameBoundaryDecides_bound :
    (withJob inTrail (.active 7)).notBound inTrail ∧
      ((((withJob { inTrail with verifyInput := some 1 } (.active 7)).binding (boundTo 1)).jobs.map Job.id).Nodup ∧
        (((withJob { inTrail with verifyInput := some 1 } (.active 7)).binding (boundTo 1)).input 1).verify = some (boundTo 1)) :=
  ⟨not_bound rfl, by decide +kernel⟩

/-- `bound` with OFF as the saved mode of its input and a frame open there. -/
def boundFromOff : State :=
  (bound 3).setInput 1
    { (bound 3).input 1 with savedMode := some .off, engine := .inFrame (openFrame [560]), run := some benchRun }

theorem witness_FrameBoundaryDecides_end_action :
    (playing.job? runningJob.id = some runningJob ∧ (boundFromOff.job? boundJob.id = some boundJob ∧
        boundJob.verifyInput = some 1 ∧ (boundFromOff.input 1).verify = some (boundTo 3) ∧ (boundTo 3).job = boundJob.id)) ∧
      ((boundFromOff.input 1).engine.isInFrame = true ∧ (boundFromOff.input 1).savedMode = some .off ∧
        (boundFromOff.jobs.map Job.id).Nodup) ∧
      EndReason.dutyLimit ≠ .cancelled ∧ EndReason.dutyLimit ≠ .zoneDisabled := by decide +kernel

theorem witness_FrameBoundaryDecides_end_action_not_bound : playing.notBound runningJob := not_bound rfl

theorem witness_JobAndZoneInfoAnswer :
    (asks playing 0x24#8 [6#8] .jobInfo ∧ ∀ j ∈ playing.jobs, j.id ≠ 6) ∧
      (asks playing 0x24#8 [7#8] .jobInfo ∧ playing.job? 7 = some runningJob ∧ playing.code? 12 = some { keyCode with refs := 1 }) ∧
      asks bench 0x32#8 [8#8] .zoneInfo ∧ (asks zoneOff 0x32#8 [6#8] .zoneInfo ∧ (zoneOff.zone 6).state = .off) ∧
      (asks bench 0x32#8 [7#8] .zoneInfo ∧ (bench.zone 7).state = .idle) ∧
      (asks playing 0x32#8 [0#8] .zoneInfo ∧ (playing.zone 0).state = .active 7) ∧
      (asks waiting 0x32#8 [0#8] .zoneInfo ∧ (waiting.zone 0).state = .guard { start := 0#32, length := 10 }) := by decide +kernel

theorem witness_ZonesEnabledAndDisabled :
    asks zoneOff 0x30#8 [0#8] .zoneEnable ∧ asks zoneOff 0x30#8 [0x40#8] .zoneEnable ∧ 0x40#8 &&& zoneOff.offZones ≠ 0#8 ∧
      asks zoneOff 0x30#8 [0x80#8] .zoneEnable ∧ 0x80#8 &&& zoneOff.offZones = 0#8 ∧ asks playing 0x31#8 [0#8] .zoneDisable ∧
      asks playing 0x31#8 [0xFF#8] .zoneDisable ∧ (playing.jobs.map Job.id).Nodup := by decide +kernel

theorem witness_DerateSetAnswers :
    asks bench 0x33#8 [4#8, 0#8, 0#8, 1#8, 0#8, 0#8] .derateSet ∧ asks bench 0x33#8 [3#8, 2#8, 0#8, 1#8, 0#8, 0#8] .derateSet ∧
      asks bench 0x33#8 [3#8, 1#8, 0#8, 0#8, 0#8, 0#8] .derateSet ∧ asks bench 0x33#8 [3#8, 1#8, 0#8, 1#8, 8#8, 0#8] .derateSet ∧
      asks bench 0x33#8 [3#8, 1#8, 0#8, 1#8, 7#8, 0#8] .derateSet := by decide +kernel

theorem witness_DerateGetAnswers : asks bench 0x34#8 [4#8] .derateGet ∧ asks bench 0x34#8 [3#8] .derateGet := by decide +kernel

/-- The bench with zone 0 at a load under no group, at its decay step. -/
def loaded (n : Nat) : State :=
  { bench.setZone 0 { benchZone with load := n } with clock := 10000 }

theorem witness_ZoneTimersExpire :
    ((waiting.zone 0).state = .guard { start := 0#32, length := 10 } ∧
      Timer.reached { start := 0#32, length := 10 } (waiting.at 9).now = false ∧
      Timer.reached { start := 0#32, length := 10 } (waiting.at 10).now = true) ∧
      (9999 < (bench.zone 0).nextDecay ∧ ((loaded 0).zone 0).nextDecay ≤ (loaded 0).clock) ∧
      (((loaded 6020).zone 0).load - defaultParams.loadDecay = 6000 ∧ ((loaded 6020).groups[0]).enabled = true ∧
        ZoneSet.has ((loaded 6020).groups[0]).mask 0 = true ∧ ((loaded 6020).groups[0]).threshold ≤ 6000) ∧
      (((loaded 4019).zone 0).load - defaultParams.loadDecay = 3999 ∧ ((loaded 4019).zone 0).inForce = none ∧
        ∀ g : GroupNo, ((loaded 4019).groups[g]).threshold ≤ 3999 → False) ∧
      (((heldKey 5967 0 .holdOff pausedJob).zone 0).state = .active 7 ∧ (heldKey 5967 0 .holdOff pausedJob).job? 7 = some pausedJob ∧
        (heldKey 5967 0 .holdOff pausedJob).code? 12 = some markCode ∧ pausedJob.paused = true ∧
        5970 - defaultParams.loadDecay = 5950 ∧ defaultGroups[0].threshold - defaultParams.derateHysteresis ≤ 5950 ∧
        5969 - defaultParams.loadDecay < defaultGroups[0].threshold - defaultParams.derateHysteresis) := by decide +kernel

/-- Input 0 of the bench in a mode. -/
def inMode (m : InputMode) : State := listening m .quiet

theorem witness_InputModeAndInfoAnswer :
    asks bench 0x40#8 [2#8, 0#8, 0#8] .inputMode ∧ asks bench 0x40#8 [1#8, 3#8, 0#8] .inputMode ∧
      (asks (inMode .learn) 0x40#8 [0#8, 2#8, 0#8] .inputMode ∧ ((inMode .learn).input 0).mode = .learn) ∧
      (asks (inMode .verify) 0x40#8 [0#8, 0#8, 0#8] .inputMode ∧ ((inMode .verify).input 0).mode = .verify) ∧
      (asks (inMode .raw) 0x40#8 [0#8, 2#8, 0xFF#8] .inputMode ∧ ((inMode .raw).input 0).mode = .raw) ∧
      (asks (listening .raw (.inFrame (openFrame [560]))) 0x40#8 [0#8, 0#8, 0#8] .inputMode) ∧
      asks bench 0x41#8 [2#8] .inputInfo ∧ asks bench 0x41#8 [1#8] .inputInfo := by decide +kernel

/-- A payload of LEARN on input 0 into slot 40. -/
def learnPayload (freq duty n : Nat) : List Byte :=
  [0#8, 40#8] ++ u32 (BitVec.ofNat 32 freq) ++ u8 duty ++ u8 n

theorem witness_LearnAnswers :
    asks bench 0x42#8 (2#8 :: (learnPayload 0 25 2).tail) .learn ∧ asks bench 0x42#8 (0#8 :: 128#8 :: (learnPayload 0 25 2).drop 2) .learn ∧
      (asks stored 0x42#8 (0#8 :: 12#8 :: (learnPayload 0 25 2).drop 2) .learn ∧ stored.slot 12 ≠ .empty) ∧
      (asks freshLearn 0x42#8 (0#8 :: 41#8 :: (learnPayload 0 25 2).drop 2) .learn ∧ freshLearn.slot 41 = .empty ∧
        freshLearn.table.learn = some (learnOf none none .aOnly none)) ∧
      (asks (inMode .verify) 0x42#8 (learnPayload 0 25 2) .learn ∧ ((inMode .verify).input 0).mode = .verify) ∧
      (asks stored 0x42#8 (learnPayload 14999 33 6) .learn ∧ ¬(14999 = 0 ∨ (15000 ≤ 14999 ∧ 14999 ≤ 500000))) ∧
      asks stored 0x42#8 (learnPayload 0 33 1) .learn ∧ asks stored 0x42#8 (learnPayload 0 33 7) .learn ∧
      asks stored 0x42#8 (learnPayload 0 26 2) .learn ∧
      (asks stored 0x42#8 (learnPayload 15000 25 2) .learn ∧ asks stored 0x42#8 (learnPayload 500000 50 6) .learn ∧
        stored.slot 40 = .empty ∧ stored.table.learn = none ∧ (stored.input 0).mode = .off ∧
        ∀ j ∈ stored.jobs, j.verifyInput ≠ some 0) := by decide +kernel

theorem witness_LearnsEnd :
    (stored.table.learn = none ∧ asks stored 0x43#8 [] .learnCancel) ∧
      (freshLearn.table.learn = some (learnOf none none .aOnly none) ∧ freshLearn.slot 40 = .learning ∧
        (freshLearn.input 0).savedMode = some .matching ∧ asks freshLearn 0x43#8 [] .learnCancel ∧
        ((freshLearn.at 9999).now - 0#32).toNat < 10000 ∧ 10000 ≤ ((freshLearn.at 10000).now - 0#32).toNat) := by decide +kernel

/-- A learn with a LEARN frame alone in the capture queue. -/
def learnFrameOf (c : LearnContext) (f : CapturedFrame) : State :=
  { learning c with captures := [f] }

/-- The cells of a frame, and of one that the tolerance of 20 % and 40 µs just leaves out of a pattern of the first. -/
def nearCells : List Nat × List Nat :=
  ([9000, 2250, 560], [9000, 2250, 713])

/-- The LEARN frame of `nearCells`, number 80. -/
def learnFrame80 : CapturedFrame := closedFrame .learner nearCells.1

/-- Patterns of one frame. -/
def oneFrame (cells : List Nat) : Option Pattern := some { sums := cells, frames := 1 }

theorem witness_LearnsEnd_frames :
    ((learnFrameOf (learnOf none none .aOnly none) learnFrame80).captures = [learnFrame80] ∧ learnFrame80.input = 0 ∧
        learnFrame80.consumer = .learner ∧ ({ bench with captures := [learnFrame80] } : State).table.learn = none) ∧
      ({ learnOf none none .aOnly none with input := 1 }.input ≠ 0 ∧ 32768 ≤ (80 + 65536 - 32848) % 65536 ∧
        (80 + 65536 - 32849) % 65536 < 32768) ∧
      ((learnFrameOf (learnOf none none .aOnly none) learnFrame80).table.learn = some (learnOf none none .aOnly none) ∧
        (learnFrameOf (learnOf none none .aOnly none) learnFrame80).slot 40 = .learning ∧
        { learnFrame80.flags with longMark := true } ≠ { truncated := false, stuck := false, longMark := false } ∧
        learnFrame80.flags = { truncated := false, stuck := false, longMark := false }) ∧
      (560 - 408) * 100 ≤ 560 * 20 + 4000 ∧ (712 - 560) * 100 ≤ 560 * 20 + 4000 ∧ ¬((713 - 560) * 100 ≤ 560 * 20 + 4000) := by
  decide +kernel

/-- A capture queue of two frames and more behind it. -/
def behindIt (s : State) : State := { s with captures := s.captures ++ [closedFrame .rawForwarder [560], learnFrame80] }

theorem witness_LearnsEnd_more_entries :
    (behindIt (learnFrameOf (learnOf none none .aOnly none) learnFrame80)).captures =
        learnFrame80 :: [closedFrame .rawForwarder [560], learnFrame80] ∧
      (behindIt (learnFrameOf (learnOf none none .aOnly none) learnFrame80)).slot 40 = .learning := by decide +kernel

theorem witness_LearnsEnd_taken :
    ((learnOf (oneFrame nearCells.1) none .bSeen none).patternA = oneFrame nearCells.1 ∧
        (learnOf (oneFrame nearCells.1) none .bSeen none).phase ≠ .aOnly) ∧
      ((learnOf none none .aOnly none).taken = 0 ∧
        (learnOf (oneFrame nearCells.1) (oneFrame nearCells.2) .bSeen none).taken = 2 ∧
        (learnOf (oneFrame nearCells.1) (some { sums := nearCells.2, frames := 3 }) .bSeen none).taken = 4 ∧
        (learnOf none none .aOnly none).wanted = 4) ∧
      ((3 + 0 + 15) / 16 ≤ (freeOnly 1).table.freeBlocks ∧ (freeOnly 0).table.freeBlocks < (3 + 0 + 15) / 16) ∧
      learnFrame80.gapBefore = some 40200 := by decide +kernel

/-- A learn on an input whose saved mode is OFF, with a frame open. -/
def learnFromOff : State :=
  freshLearn.setInput 0
    { freshLearn.input 0 with savedMode := some .off, engine := .inFrame (openFrame [560]), run := some benchRun }

theorem witness_LearnsEnd_discards :
    asks learnFromOff 0x43#8 [] .learnCancel ∧ learnFromOff.table.learn = some (learnOf none none .aOnly none) ∧
      learnFromOff.slot 40 = .learning ∧ (learnFromOff.input 0).engine.isInFrame = true := by decide +kernel

/-- Input 0 of the bench in MATCH with its engine QUIET, an accepted level and a trial of 50 µs begun at 0 µs. -/
def onTrial (accepted : Level) : State :=
  bench.setInput 0 { bench.input 0 with
    mode := .matching, raw := otherLevel accepted, accepted := accepted, trial := some { edge := 0, limit := 50 } }

theorem witness_RawEdgesAndChanges :
    ((bench.input 0).engine = .quiet ∧ (bench.input 0).trial = none ∧ Level.mark ≠ (bench.input 0).raw ∧
      Level.mark ≠ (bench.input 0).accepted ∧ 0 < bench.params.glitchLimit) ∧
      (((onTrial .space).input 0).trial = some { edge := 0, limit := 50 } ∧ ({ onTrial .space with clock := 49 } : State).clock < 0 + 50 ∧
        ((onTrial .space).input 0).accepted ≠ ((onTrial .space).input 0).raw) ∧
      (((onTrial .mark).input 0).accepted = .mark ∧ 0 + 50 ≤ ({ onTrial .mark with clock := 50 } : State).clock) ∧
      (((onTrial .space).input 0).mode ≠ .off ∧ (onTrial .space).entriesUsed < 8 ∧ (onTrial .space).cellsUsed < 2048 ∧
        ∀ z, ZoneSet.has ((onTrial .space).input 0).mask z = true → ((onTrial .space).zone z).isActive = false) := by decide +kernel

/-- A state with GLITCH_LIMIT 0. -/
def noFilter (s : State) : State := { s with params := { s.params with glitchLimit := 0 } }

/-- `onTrial` with another engine state. -/
def onTrialIn (accepted : Level) (e : Engine) (clock : Nat) : State :=
  { (onTrial accepted).setInput 0 { (onTrial accepted).input 0 with engine := e } with clock := clock }

theorem witness_RawEdgesAndChanges_every_engine :
    ((noFilter bench).params.glitchLimit = 0 ∧ (bench.input 0).trial = none) ∧
      (((onTrialIn .space (.inFrame (openFrame [560])) 49).input 0).engine = .inFrame (openFrame [560]) ∧
        ((onTrialIn .space (.inFrame (openFrame [560])) 49).input 0).trial = some { edge := 0, limit := 50 } ∧ 49 < 0 + 50 ∧
        ((onTrialIn .space (.inFrame (openFrame [560])) 49).input 0).accepted ≠
          ((onTrialIn .space (.inFrame (openFrame [560])) 49).input 0).raw) ∧
      (((onTrialIn .mark (.discarding 15000) 50).input 0).engine = .discarding 15000 ∧ 0 + 50 ≤ (onTrialIn .mark (.discarding 15000) 50).clock ∧
        Level.mark ≠ ((onTrialIn .mark (.discarding 15000) 50).input 0).raw) := by decide +kernel

/-- An open frame whose end gap passed during a trial closes when the trial ends without a change (R124). -/
theorem test_waiting_closing_is_taken :
    gives (exec (.rxRawEdge 0 .space) (((onTrialIn .space (.inFrame (openFrame [560])) 15040).setInput 0
        { (onTrialIn .space (.inFrame (openFrame [560])) 15040).input 0 with mode := .raw, trial := some { edge := 14999, limit := 50 } })))
      (fun t => decide ((t.input 0).engine = .quiet) && decide ((t.input 0).trial = none)) = true := by decide +kernel

/-- `onTrial` with some frames of input 1 in the capture queue. -/
def onTrialBehind (cells : List (List Nat)) : State :=
  { onTrial .space with captures := cells.map fun c => { closedFrame .rawForwarder c with input := 1 } }

/-- Six frames that fill the capture buffer. -/
def fullBuffer : List (List Nat) :=
  [List.replicate 511 9, List.replicate 511 9, List.replicate 511 9, List.replicate 511 9, [9, 9, 9], [9]]

theorem witness_RawEdgesAndChanges_first_cases :
    ((bench.input 0).mode = .off ∧
      ∃ z o, ZoneSet.has 1#8 z = true ∧ (playing.zone z).state = .active o) ∧
      ((onTrialBehind (List.replicate 7 [9])).entriesUsed < 8 ∧ 8 ≤ (onTrialBehind (List.replicate 8 [9])).entriesUsed) ∧
      ((onTrialBehind fullBuffer).entriesUsed < 8 ∧ 2048 ≤ (onTrialBehind fullBuffer).cellsUsed ∧
        (onTrialBehind fullBuffer.dropLast).cellsUsed < 2048) :=
  ⟨⟨by decide +kernel, 0, 7, by decide +kernel⟩, by decide +kernel, by decide +kernel⟩

/-- Input 0 of the bench in RAW with an engine state, its accepted level since 0 µs, and a frame waiting in the queue. -/
def inLevel (accepted : Level) (trial : Option Trial) (e : Engine) (clock : Nat) : State :=
  { bench.setInput 0 { bench.input 0 with mode := .raw, raw := accepted, accepted := accepted, trial := trial, engine := e } with
    clock := clock, captures := [closedFrame .rawForwarder [560]] }

theorem witness_FramesGrowAndClose :
    (∃ t, ((inLevel .mark (some { edge := 0, limit := 50 }) (.inFrame (openFrame (List.replicate 508 9))) 50).input 0).trial = some t ∧
        t.edge + t.limit ≤ 50 ∧ (openFrame (List.replicate 508 9)).cells.length + 1 < 511 ∧
        (inLevel .mark none (.inFrame (openFrame (List.replicate 508 9))) 50).cellsUsed < 2048) ∧
      (((inLevel .space none (.inFrame (openFrame [9])) 14999).input 0).levelSince + 15000 > 14999 ∧
        ((inLevel .space none (.inFrame (openFrame [9])) 15000).input 0).levelSince + 15000 ≤ 15000) ∧
      (((inLevel .mark none (.inFrame (openFrame [])) 199999).input 0).levelSince + 200000 > 199999 ∧
        ((inLevel .mark none (.inFrame (openFrame [])) 200000).input 0).levelSince + 200000 ≤ 200000) ∧
      InputMode.raw.consumer? = some .rawForwarder ∧ (inLevel .space none .quiet 0).captures ≠ [] ∧
      ((inLevel .space none (.discarding 15000) 15000).input 0).engine = .discarding 15000 :=
  ⟨⟨_, rfl, by decide +kernel⟩, by decide +kernel⟩

theorem witness_FramesGrowAndClose_at_the_bounds :
    ((openFrame (List.replicate 509 9)).cells.length + 1 < 511 ∧ 511 ≤ (openFrame (List.replicate 510 9)).cells.length + 1) ∧
      ({ inLevel .mark (some { edge := 0, limit := 50 }) (.inFrame (openFrame [])) 50 with captures := [] } : State).captures = [] ∧
      (2048 ≤ ({ inLevel .mark none (.inFrame (openFrame [])) 200000 with
          captures := fullBuffer.map fun c => { closedFrame .rawForwarder c with input := 1 } } : State).cellsUsed) ∧
      max 1 (min 0 65535) = 1 ∧ max 1 (min 65536 65535) = 65535 := by decide +kernel

/-- The bench with the 70-cell code READY, some reports in the queue and a frame alone in the capture queue. -/
def captured (n : Nat) (f : CapturedFrame) : State :=
  { stored with
    captures := [f], clock := 261999
    line := { stored.line with reports := List.replicate n (sentReport 3) } }

/-- The frame of section 9.6. -/
def heard : CapturedFrame := closedFrame .recognizer [9030, 2240, 560]

/-- `captured` with a run active on input 0. -/
def capturedIn (n : Nat) (r : Run) (f : CapturedFrame) : State :=
  (captured n f).setInput 0 { (captured n f).input 0 with run := some r }

theorem witness_CapturesDispatched :
    bench.captures = [] ∧ ({ bench.line with categories := 0x17#8 } : HostLine).categories.getLsbD 3 = false ∧
      ((captured 23 (closedFrame .rawForwarder [560])).line.reports.length + 1 + 8 ≤ 32 ∧
        ([560].length + 111) / 112 = 1 ∧ (captured 23 (closedFrame .rawForwarder [560])).line.categories.getLsbD 3 = true) ∧
      32 < (captured 24 (closedFrame .rawForwarder [560])).line.reports.length + 1 + 8 ∧
      ((captured 23 (closedFrame .recognizer [560])).bestMatch (closedFrame .recognizer [560]) = none ∧
        (captured 23 (closedFrame .recognizer [560])).params.unknownForward = 0) ∧
      (((captured 23 heard).bestMatch heard).isSome = true ∧ ((captured 23 heard).input 0).run = none) := by decide +kernel

theorem witness_CapturesDispatched_in_a_run :
    (((capturedIn 23 benchRun heard).bestMatch heard).map (fun b => b.1.slot) = some 12 ∧
        ((capturedIn 23 benchRun heard).input 0).run = some benchRun ∧ benchRun.slot = 12 ∧ heard.gapBefore = some 40200 ∧
        40200 ≤ defaultParams.repeatWindow * 1000 ∧ ¬(defaultParams.repeatWindow * 1000 + 1 ≤ defaultParams.repeatWindow * 1000)) ∧
      ({ benchRun with slot := 13 }.slot ≠ 12 ∧ { heard with gapBefore := none }.gapBefore = none ∧
        (capturedIn 22 benchRun heard).line.reports.length + 2 + 8 ≤ 32 ∧
        32 < (capturedIn 23 benchRun heard).line.reports.length + 2 + 8) := by decide +kernel

theorem witness_CapturesDispatched_more_entries :
    (behindIt (captured 23 heard)).captures = heard :: [closedFrame .rawForwarder [560], learnFrame80] ∧
      (behindIt (captured 23 heard)).line.reports.length + 1 + 8 ≤ 32 ∧
      32 < (behindIt (captured 24 heard)).line.reports.length + 1 + 8 := by decide +kernel

theorem witness_BestMatchIsWithinTolerance :
    stored.bestMatch heard = some ({ slot := 12, kind := .rep, cells := [9000, 2250, 560], tolerance := 20 }, 3) ∧
      (stored.slot 12 = .ready keyCode ∧ keyCode.header.matchable = true ∧ keyCode.section .rep = [9000, 2250, 560] ∧
        heard.cells.length = 3 ∧ keyCode.header.tolerance = 0 ∧ defaultParams.matchTolerance = 20 ∧
        ∀ p ∈ heard.cells.zip [9000, 2250, 560], ((p.1 : Int) - p.2).natAbs * 100 ≤ p.2 * 20 + 4000) ∧
      { heard.flags with stuck := true } ≠ { truncated := false, stuck := false, longMark := false } ∧
      heard.flags = { truncated := false, stuck := false, longMark := false } := by decide +kernel

theorem witness_RunsEnd :
    ((running benchRun 261999).input 0).run = some benchRun ∧
      (261999 < benchRun.lastMarkEnd + defaultParams.repeatWindow * 1000 ∧
        benchRun.lastMarkEnd + defaultParams.repeatWindow * 1000 ≤ 262000) ∧
      ((running benchRun 262000).input 0).engine.isInFrame = false ∧ (∀ f ∈ (running benchRun 262000).captures, f.input ≠ 0) ∧
      (running benchRun 262000).line.categories.getLsbD 3 = true ∧
      ((running { benchRun with windowPassed := true, endDecided := some 262#32 } 262000).input 0).run =
        some { benchRun with windowPassed := true, endDecided := some 262#32 } ∧
      (withReports (List.replicate 23 (sentReport 3))).line.reports.length + 9 ≤ 32 ∧
      32 < (withReports (List.replicate 24 (sentReport 3))).line.reports.length + 9 ∧
      ((bench.input 0).run = none ∧ ({ bench.line with categories := 0x17#8 } : HostLine).categories.getLsbD 3 = false) := by
  decide +kernel

/-- A run end that waits for report space while a frame of its input is open. -/
def waitsInFrame : State :=
  bench.setInput 0
    { bench.input 0 with
      mode := .matching, engine := .inFrame (openFrame [560])
      run := some { benchRun with windowPassed := true, endDecided := some 262#32 } }

theorem witness_RunsEnd_in_a_frame :
    (waitsInFrame.input 0).run = some { benchRun with windowPassed := true, endDecided := some 262#32 } ∧
      (waitsInFrame.input 0).engine.isInFrame = true := by decide +kernel

/-- A REPORT_SELECT while a frame of the input is open makes the check, which condition 2 fails (R145): the end is decided no
longer, and the run is not emptied although RX is deselected. -/
theorem test_select_in_a_frame :
    ((waitsInFrame.selectReports 0x17#8).input 0).run = some { benchRun with windowPassed := true, endDecided := none } := by
  decide +kernel

/-- `settling missedMark` with a frame of input 1 open or in the queue. -/
def notDrained (open_ : Bool) : State :=
  if open_ then
    (settling missedMark).setInput 1 { (settling missedMark).input 1 with engine := .inFrame (openFrame [9]) }
  else { settling missedMark with captures := [{ closedFrame .verifier [9] with input := 1 }] }

theorem witness_VerdictGiven :
    (((settling missedMark).input 1).verify = some missedMark ∧ ((settling missedMark).job? 7).map Job.state = some .settling ∧
      ((settling missedMark).input 1).engine.isInFrame = false ∧ (settling missedMark).captures = [] ∧
      (settling missedMark).slot 12 = .ready { keyCode with refs := 1 }) ∧
      ((notDrained true).input 1).engine.isInFrame = true ∧
      (∃ f ∈ (notDrained false).captures, f.input = 1 ∧ f.consumer = .verifier) ∧
      (bench.input 1).verify = none := by
  decide +kernel

/-- A VERIFY frame of input 1. -/
def seenFrame (cells : List Nat) : CapturedFrame := { closedFrame .verifier cells with input := 1 }

/-- `bound` with a VERIFY frame alone in the capture queue. -/
def verifying (emitted : Nat) (cells : List Nat) : State :=
  { bound emitted with captures := [seenFrame cells] }

theorem witness_VerdictGiven_frames :
    (({ bench with captures := [seenFrame [9]] } : State).captures = [seenFrame [9]] ∧ (seenFrame [9]).input = 1 ∧
        (seenFrame [9]).consumer = .verifier ∧ (bench.input 1).verify = none) ∧
      (32768 ≤ (80 + 65536 - 32848) % 65536 ∧ (80 + 65536 - 32849) % 65536 < 32768) ∧
      (((verifying 0 [9]).input 1).verify = some (boundTo 0) ∧ (verifying 0 [9]).job? 7 = some boundJob ∧
        (verifying 0 [9]).code? 12 = some { keyCode with refs := 1 } ∧ (boundTo 0).seen + 1 = 1 ∧ (boundTo 0).emitted < 1 ∧
        1 ≤ (boundTo 1).emitted) ∧
      ((seenFrame [9]).cells.length ≠ (keyCode.section .lead).length ∧
        (seenFrame (keyCode.section .lead)).cells.length = (keyCode.section .lead).length) ∧
      ((740 - 560) * 100 ≤ 560 * defaultParams.verifyTolerance + 4000 ∧
        ¬((741 - 560) * 100 ≤ 560 * defaultParams.verifyTolerance + 4000)) := by decide +kernel

/-- `settling missedMark` with a VERIFY frame of its input at the head of the capture queue. -/
def lastFrame : State := behindIt { settling missedMark with captures := [seenFrame [9]] }

theorem witness_VerdictGiven_more_entries :
    (lastFrame.captures = seenFrame [9] :: [closedFrame .rawForwarder [560], learnFrame80] ∧ (seenFrame [9]).consumer = .verifier) ∧
      ((lastFrame.headLeft lastFrame.captures.tail 1).checkSettled 1).jobs.length < lastFrame.jobs.length ∧
      (((behindIt (verifying 1 [9])).headLeft [closedFrame .rawForwarder [560], learnFrame80] 1).checkSettled 1).jobs.length =
        (behindIt (verifying 1 [9])).jobs.length := by decide +kernel

/-- The bench with some commands in the FIFO. -/
def queued (n : Nat) : State :=
  { bench with line := { bench.line with fifo := List.replicate n (frameOf 2#8 []) } }

theorem no_run (v : InputNo) (r : Run) (h : ((withReports [sentReport 19]).input v).run = some r) : r.endDecided = none := by
  have : ((withReports [sentReport 19]).input v).run = none := by clear h; revert v; decide +kernel
  exact absurd (this.symm.trans h) nofun

theorem witness_MessageFramesChecked :
    (bench.line.framer = .hunt ∧ bench.line.held = false ∧ (makeFrame 1#8 9#8 2#8 []).wellFormed = true ∧
      ({ makeFrame 1#8 9#8 2#8 [] with crc := 0#16 } : WireFrame).wellFormed = true ∧ 0#16 ≠ frameCrc 3#8 1#8 9#8 2#8 []) ∧
      ((makeFrame 1#8 9#8 2#8 []).crc = frameCrc 3#8 1#8 9#8 2#8 [] ∧ (queued 3).line.fifo.length < 4 ∧
        4 ≤ (queued 4).line.fifo.length) ∧
      ((makeFrame 2#8 9#8 2#8 []).kind ≠ 1#8 ∧ (makeFrame 2#8 9#8 2#8 []).kind ≠ 4#8) ∧
      (∀ e ∈ (withReports [{ sentReport 19 with timesSent := 0 }]).line.reports, e.sequence = (19#8).toNat → e.timesSent = 0) ∧
      ((withReports [sentReport 18, sentReport 19]).line.reports = [sentReport 18] ++ sentReport 19 :: [] ∧
        1 ≤ (sentReport 19).timesSent ∧ (∀ x ∈ [sentReport 18], x.sequence ≠ (19#8).toNat)) ∧
      ((withReports [sentReport 19]).line.lost = 0 ∧
        0 < { (withReports [sentReport 19]).line with lost := 1, held := true }.lost) ∧
      (withReports [sentReport 19]).nothingHeld :=
  ⟨by decide +kernel, by decide +kernel, by decide +kernel, by decide +kernel, by decide +kernel, by decide +kernel, rfl, no_run⟩

/-- The bench with a frame under way and some link errors waiting. -/
def errorsWait (n : Nat) : State :=
  { bench with
    line :=
      { bench.line with
        sending := some ((frameOf 1#8 []).replyFrame [])
        waiting := List.replicate n { kind := .linkError, tag := 1#8, type := 1#8, payload := [] } } }

theorem witness_MessageFramesChecked_link_errors :
    4 ≤ (errorsWait 4).line.linkErrorsWaiting ∧ (errorsWait 3).line.linkErrorsWaiting < 4 ∧
      bench.line.linkErrorsWaiting < 4 := by decide +kernel

/-- The bench with the framer in a state and its last byte at 0 µs. -/
def framing (f : Framer) (clock : Nat) : State :=
  { bench with clock := clock, line := { bench.line with framer := f } }

theorem witness_BytesFramed :
    (framing .hunt 0).line.framer = .hunt ∧
      ((framing .length 10001).line.framer ≠ .hunt ∧ (framing .length 10001).line.lastByte + 10000 < (framing .length 10001).clock) ∧
      ((framing .length 10000).clock ≤ (framing .length 10000).line.lastByte + 10000) ∧
      (3 ≤ (3#8).toNat ∧ (243#8).toNat ≤ 243 ∧ (2#8).toNat < 3 ∧ 243 < (244#8).toNat) ∧
      (framing (.body 3#8 [1#8, 2#8]) 0).line.framer = .body 3#8 [1#8, 2#8] ∧
      (framing (.crc 3#8 [1#8, 2#8, 3#8] none) 0).line.framer = .crc 3#8 [1#8, 2#8, 3#8] none ∧
      ((framing .length 0).line.straps = 0#2 ∧ 0 + 10000 + 520 < (framing .length 10521).clock ∧
        (framing .length 10520).clock ≤ 0 + 10000 + 520) ∧
      ((makeFrame 1#8 9#8 2#8 []).wellFormed = true ∧
        (makeFrame 1#8 9#8 2#8 []).crc =
          (frameCrc 3#8 1#8 9#8 2#8 []).extractLsb' 8 8 ++ (frameCrc 3#8 1#8 9#8 2#8 []).extractLsb' 0 8) := by decide +kernel

/-- A byte that began 9.99 ms after the end of the one before, at 19,200 bit/s, is taken. -/
theorem test_byte_just_inside_the_gap :
    gives (exec (.hrxByte 3#8 true) (framing .length 10510)) (fun t => decide (t.line.framer = .body 3#8 [])) = true ∧
      gives (exec (.hrxByte 3#8 true) (framing .length 10521)) (fun t => decide (t.line.framer = .hunt)) = true := by
  decide +kernel

/-- Two changes accepted at one instant: the cell between them is stored as 1 µs (log entry 29). -/
theorem test_cell_of_no_length :
    gives (exec (.acceptedChange 0) (inLevel .mark (some { edge := 0, limit := 0 }) (.inFrame (openFrame [560, 560])) 0))
      (fun t => decide ((t.input 0).engine = .inFrame { openFrame [560, 560] with cells := [560, 560, 1] })) = true := by
  decide +kernel

/-- A frame under way on HTX. -/
def onLine : OutFrame := (frameOf 1#8 []).replyFrame []

/-- A state with some reports and a frame under way on HTX. -/
def sending (es : List ReportEntry) : State :=
  { withReports es with line := { (withReports es).line with sending := some onLine } }

theorem witness_LineChoosesNext :
    bench.line.sending = none ∧
      ({ (sending []).line with waiting := [onLine] }.sending = some onLine ∧ { (sending []).line with waiting := [onLine] }.waiting ≠ []) ∧
      ((sending [sentReport 1]).line.waiting = [] ∧ (∀ e ∈ (sending [sentReport 1]).line.reports, e.sent = true)) ∧
      8 ≤ (sending (List.replicate 8 (sentReport 1))).line.outstanding ∧
      ((sending (List.replicate 7 (sentReport 1) ++ [{ sentReport 2 with sent := false, timesSent := 254 }])).line.outstanding < 8 ∧
        (∀ x ∈ List.replicate 7 (sentReport 1), x.sent = true) ∧
        (sending (List.replicate 7 (sentReport 1) ++ [{ sentReport 2 with sent := false, timesSent := 254 }])).line.held = false) := by
  decide +kernel

theorem witness_LineChoosesNext_joins_and_sends :
    (bench.line.sending = none ∧ bench.line.waiting = [] ∧ (sending []).line.sending.isSome = true ∧
        (errorsWait 1).line.waiting ≠ []) ∧
      ((Report.codeRetired 3 0#32).type.toNat / 16 = 9 ∧ bench.line.categories.getLsbD (9 - 9) = true ∧
        ({ bench.line with categories := 0x1E#8 } : HostLine).categories.getLsbD (9 - 9) = false ∧
        (Report.started .full 0#32).type.toNat / 16 = 8) ∧
      ((withReports (List.replicate 31 (sentReport 3))).line.reports.length < 32 ∧
        32 ≤ (withReports (List.replicate 32 (sentReport 3))).line.reports.length) ∧
      (¬((255 : Nat) < 255) ∧ { sentReport 2 with sent := false, timesSent := 255 }.sent = false) := by decide +kernel

/-- Chapter 11, Frame layout: the reply to TIME at 0 ms; its CRC is worked out apart from the model. -/
theorem test_reply_on_the_line :
    { bench.line with sending := some ((frameOf 2#8 []).replyFrame [0#8, 0#8, 0#8, 0#8, 0#8]) }.onHtx =
      [0xC3#8, 8#8, 2#8, 5#8, 2#8, 0#8, 0#8, 0#8, 0#8, 0#8, 0x4C#8, 0xCC#8] := by decide +kernel

/-- The bench with the acknowledgement timer begun at 0 ms and a round count. -/
def timed (rounds : Nat) : State :=
  { bench with line := { bench.line with ackTimer := some { start := 0#32, length := 500 }, rounds := rounds } }

theorem witness_AckTimerExpires :
    bench.line.ackTimer = none ∧ (timed 0).line.ackTimer = some { start := 0#32, length := 500 } ∧
      (((timed 0).at 499).now - 0#32).toNat < 500 ∧ 500 ≤ (((timed 0).at 500).now - 0#32).toNat ∧
      (timed 4).line.rounds + 1 < (timed 4).params.retryLimit ∧ (timed 5).params.retryLimit ≤ (timed 5).line.rounds + 1 := by
  decide +kernel

/-! ### The invariants hold in a state that is not the one after reset, and it steps -/

/-- A queue of one command. -/
def stepping (s : State) : State := { s with pending := [.time] }

theorem every_bench_steps (s : State) : ∃ t, step (stepping s) = .next t := ⟨_, rfl⟩

theorem witness_StepKeepsPoolAccounted : (stepping playing).poolAccounted ∧ ∃ t, step (stepping playing) = .next t :=
  ⟨by unfold State.poolAccounted; decide +kernel, every_bench_steps _⟩

theorem paused_slot (i : SlotNo) : (stepping paused).slot i = if i = 12 then .ready markCode else .empty := by
  revert i
  decide +kernel

theorem witness_StepKeepsTableSound : (stepping paused).tableSound ∧ ∃ t, step (stepping paused) = .next t := by
  refine ⟨⟨fun i => ?_, (fun l h => nomatch h), (fun x h => nomatch h)⟩, every_bench_steps _⟩
  unfold State.slotSound
  rw [paused_slot]
  by_cases hi : i = 12
  · rw [if_pos hi]
    exact ⟨by decide +kernel, by decide +kernel, by unfold cellsLongEnough; decide +kernel⟩
  · rw [if_neg hi]
    trivial

theorem bound_inputs_taken : (stepping (bound 1)).inputsTaken := by
  refine ⟨?_, (fun x h => nomatch h), fun v => ?_, by decide +kernel⟩
  · unfold State.queueOrdered
    decide +kernel
  · unfold State.verifyBinds State.modeSaved
    match v with
    | 0 =>
      exact ⟨⟨by decide +kernel, by decide +kernel⟩, by decide +kernel,
        (fun m h => nomatch (show (none : Option InputMode) = some m from h)), fun h => absurd h (by decide +kernel)⟩
    | 1 =>
      exact ⟨⟨by decide +kernel, by decide +kernel⟩, by decide +kernel,
        (fun m h => by cases (show some InputMode.matching = some m from h); decide), fun h => absurd h (by decide +kernel)⟩

theorem witness_StepKeepsReferencesCounted_inputs :
    (stepping (bound 1)).inputsTaken ∧ ∃ t, step (stepping (bound 1)) = .next t :=
  ⟨bound_inputs_taken, every_bench_steps _⟩

theorem paused_queue : (stepping paused).queueOrdered := by
  unfold State.queueOrdered
  decide +kernel

theorem witness_StepKeepsReferencesCounted :
    (stepping paused).referencesCounted ∧ ∃ t, step (stepping paused) = .next t := by
  refine ⟨⟨paused_queue, fun i => ?_⟩, every_bench_steps _⟩
  unfold State.referencesOf
  rw [paused_slot]
  by_cases hi : i = 12
  · subst hi
    rw [if_pos rfl]
    show markCode.refs = (stepping paused).jobsOn 12
    decide +kernel
  · rw [if_neg hi]
    show (stepping paused).jobsOn i = 0
    revert i
    decide +kernel

theorem witness_StepKeepsZonesOwned : (stepping paused).zonesOwned ∧ ∃ t, step (stepping paused) = .next t := by
  refine ⟨⟨paused_queue, fun z => ?_, ?_, ?_⟩, every_bench_steps _⟩
  · unfold State.ownerPlays
    by_cases hz : z = 0
    · subst hz
      exact ⟨pausedJob, by decide +kernel, by decide +kernel, .inl rfl, by decide +kernel⟩
    · have : ((stepping paused).zone z).state = .idle := by revert z; decide +kernel
      rw [this]
      trivial
  · unfold Job.plays
    decide +kernel
  · decide +kernel

theorem playing_queue : (stepping playing).queueOrdered := by
  unfold State.queueOrdered
  decide +kernel

theorem witness_StepKeepsGeneratorsCounted : (stepping playing).generatorsCounted ∧ ∃ t, step (stepping playing) = .next t := by
  refine ⟨⟨playing_queue, fun g => ?_, ?_⟩, every_bench_steps _⟩
  · unfold State.generatorCounted
    by_cases hg : g = 0
    · subst hg
      exact ⟨by decide +kernel, by decide +kernel⟩
    · have : (stepping playing).generators[g] = none := by revert g; decide +kernel
      rw [this]
      revert g
      decide +kernel
  · unfold Job.plays
    decide +kernel

/-- Input 0 in an open frame of two cells in its second mark. -/
def inSecondMark : State := stepping (inLevel .mark none (.inFrame (openFrame [560, 560])) 1200)

theorem witness_StepKeepsCaptureBounded : inSecondMark.captureBounded ∧ ∃ t, step inSecondMark = .next t := by
  refine ⟨⟨by decide +kernel, by decide +kernel, fun v => ?_, ?_⟩, every_bench_steps _⟩
  · unfold RxInput.frameShaped
    match v with
    | 0 => exact ⟨by decide +kernel, by decide +kernel⟩
    | 1 => trivial
  · unfold CapturedFrame.shaped
    decide +kernel

/-- A host line with a report outstanding and a reply under way. -/
def busyLine : State := stepping (sending [sentReport 19])

theorem witness_StepKeepsLineBounded : busyLine.line.bounded ∧ ∃ t, step busyLine = .next t := by
  refine ⟨?_, every_bench_steps _⟩
  unfold HostLine.bounded HostLine.sequencesRun
  decide +kernel

/-! ### With nothing commanded (log entry 1) -/

theorem bench_zones (z : ZoneNo) : bench.zone z = benchZone := by
  revert z
  decide +kernel

theorem bench_inputs (v : InputNo) :
    (bench.input v).engine = .quiet ∧ (bench.input v).run = none ∧ (bench.input v).trial = none := by
  revert v
  decide +kernel

theorem bench_nothing_due (i : Instr) : ¬bench.fallsDue i := by
  rintro (⟨j, hj, _⟩ | ⟨z, hz⟩ | ⟨v, hv⟩ | hl | ⟨_, l, hl, _⟩ | ⟨_, x, hx, _⟩)
  · exact nomatch hj
  · have hs := bench_zones z
    rw [State.fallsDueIn, hs] at hz
    obtain ⟨_, t, ht, _⟩ | ⟨_, ht⟩ := hz
    · exact nomatch ht
    · exact absurd ht (by decide +kernel)
  · have he := bench_inputs v
    rw [State.fallsDueOn] at hv
    simp only [he.1, he.2.1, he.2.2] at hv
    simp at hv
  · obtain ⟨_, f, n, hf, _⟩ | ⟨_, _, _, _, _, e, he, _⟩ | ⟨_, ha⟩ | ⟨_, hf, _⟩ | ⟨c, r, hc, _⟩ := hl
    · exact nomatch hf
    · exact nomatch he
    · exact absurd ha (by decide +kernel)
    · exact hf rfl
    · exact nomatch hc
  · exact nomatch hl
  · exact nomatch hx

theorem witness_StepRunsFrontCommand :
    (bench.pending = [] ∧ ∀ i, ¬bench.fallsDue i) ∧ ((bench.at 10).pending = [] ∧ ∃ i, (bench.at 10).fallsDue i) :=
  ⟨⟨rfl, bench_nothing_due⟩, rfl, .decayStep 0, .inr (.inl ⟨0, .inr ⟨rfl, by decide +kernel⟩⟩)⟩

theorem test_clock_moves_on_when_nothing_is_due : gives (step bench) (fun t => decide (t.clock = 1)) = true := by decide +kernel

/-- A report that waits goes out of itself on a free line (R171). -/
theorem test_report_goes_out_of_itself :
    gives (step (withReports [{ sentReport 3 with sent := false, timesSent := 0 }]))
      (fun t => decide (t.line.sending.map OutFrame.tag = some 3#8) && decide (t.line.outstanding = 1)) = true := by
  decide +kernel

end Sys2Proof.Machine
end

section
/-! PROOFS. The ledger of a state: the part of it that the code table, the references and the taken inputs are told from.
What each shared operation does to the ledger is said once; most of them do nothing to it. -/

namespace Sys2Proof.Machine

/-! ### The code table -/

/-- One slot of a table. -/
def CodeTable.slot (t : CodeTable) (i : SlotNo) : Slot :=
  t.slots[i]

/-- A slot written, as `State.putSlot` writes it (R8). -/
def CodeTable.put (t : CodeTable) (i : SlotNo) (x : Slot) : CodeTable :=
  { t with
    slots := t.slots.set i.val x i.isLt
    freeBlocks := t.freeBlocks + (t.slot i).blocks - x.blocks }

theorem CodeTable.slot_put (t : CodeTable) (i k : SlotNo) (x : Slot) :
    (t.put i x).slot k = if k = i then x else t.slot k := by
  simp only [CodeTable.slot, CodeTable.put, Fin.getElem_fin, Vector.getElem_set, Fin.ext_iff, eq_comm]

@[simp] theorem CodeTable.slot_put_self (t : CodeTable) (i : SlotNo) (x : Slot) : (t.put i x).slot i = x := by
  simp [CodeTable.slot_put]

@[simp] theorem CodeTable.put_load (t : CodeTable) (i : SlotNo) (x : Slot) : (t.put i x).load = t.load := rfl

@[simp] theorem CodeTable.put_learn (t : CodeTable) (i : SlotNo) (x : Slot) : (t.put i x).learn = t.learn := rfl

/-- Writing what a slot holds changes nothing. -/
@[simp] theorem CodeTable.put_slot (t : CodeTable) (i : SlotNo) : t.put i (t.slot i) = t := by
  simp [CodeTable.put, CodeTable.slot]

/-! ### Slots -/

/-- A slot whose READY code has one reference more (R9). -/
def Slot.withReference : Slot → Slot
  | .ready c => .ready { c with refs := c.refs + 1 }
  | .empty => .empty
  | .loading h cells => .loading h cells
  | .learning => .learning
  | .retiring c => .retiring c

/-- A slot whose load is extended by cells (R24). -/
def Slot.extended (cells : List Nat) : Slot → Slot
  | .loading h got => .loading h (got ++ cells)
  | .empty => .empty
  | .learning => .learning
  | .ready c => .ready c
  | .retiring c => .retiring c

/-- A slot whose load is abandoned (R27). -/
def Slot.unloaded : Slot → Slot
  | .loading _ _ => .empty
  | .empty => .empty
  | .learning => .learning
  | .ready c => .ready c
  | .retiring c => .retiring c

/-- A slot whose load is completed with a checksum (R28). -/
def Slot.loaded (checksum : Word16) : Slot → Slot
  | .loading h cells => .ready { header := h, cells := cells, checksum := checksum, refs := 0 }
  | .empty => .empty
  | .learning => .learning
  | .ready c => .ready c
  | .retiring c => .retiring c

/-- A slot whose learn ends with nothing stored (R153). -/
def Slot.unlearned : Slot → Slot
  | .learning => .empty
  | .empty => .empty
  | .loading h cells => .loading h cells
  | .ready c => .ready c
  | .retiring c => .retiring c

/-- A slot whose learn ends with a code (R152). -/
def Slot.learned (code : Code) : Slot → Slot
  | .learning => .ready code
  | .empty => .empty
  | .loading h cells => .loading h cells
  | .ready c => .ready c
  | .retiring c => .retiring c

/-! ### The ledger -/

/-- Where a live job stands: waiting, playing (RUNNING or DRAINING), or settling (R36). -/
inductive Phase where
  | waiting
  | playing
  | settling

/-- The phase of a job state. -/
def JobState.phase : JobState → Phase
  | .waiting => .waiting
  | .running => .playing
  | .draining => .playing
  | .settling => .settling

/-- What the ledger holds of a live job. -/
structure Brief where
  id : Nat
  slot : SlotNo
  urgent : Bool
  verifyInput : Option InputNo
  phase : Phase

/-- What the ledger holds of a job record. -/
def Job.brief (j : Job) : Brief where
  id := j.id
  slot := j.slot
  urgent := j.isUrgent
  verifyInput := j.verifyInput
  phase := j.state.phase

/-- What the ledger holds of a receive input: its mode, its saved mode, and the job that its verify record names. -/
structure Hold where
  mode : InputMode
  saved : Option InputMode
  bound : Option Nat

/-- What the ledger holds of an input record. -/
def RxInput.hold (r : RxInput) : Hold where
  mode := r.mode
  saved := r.savedMode
  bound := r.verify.map VerifyRecord.job

/-- The code table, the next-id counter, the live jobs and the inputs, so far as references and taken inputs go. -/
structure Ledger where
  table : CodeTable
  nextId : Nat
  jobs : List Brief
  holds : InputNo → Hold

/-- The ledger of a state. -/
def State.ledger (s : State) : Ledger where
  table := s.table
  nextId := s.nextId
  jobs := s.jobs.map Job.brief
  holds := fun v => (s.input v).hold

/-- One slot of a ledger's table. -/
def Ledger.slot (L : Ledger) (i : SlotNo) : Slot :=
  L.table.slot i

/-- A slot written (R8). -/
def Ledger.put (L : Ledger) (i : SlotNo) (x : Slot) : Ledger :=
  { L with table := L.table.put i x }

/-- The ledger with another load context. -/
def Ledger.setLoad (L : Ledger) (l : Option LoadContext) : Ledger :=
  { L with table := { L.table with load := l } }

/-- The ledger with another learn context. -/
def Ledger.setLearn (L : Ledger) (x : Option LearnContext) : Ledger :=
  { L with table := { L.table with learn := x } }

/-- The ledger with another hold of an input. -/
def Ledger.setHold (L : Ledger) (v : InputNo) (h : Hold) : Ledger :=
  { L with holds := Function.update L.holds v h }

/-- An input is taken in a mode (R125). -/
def Ledger.takeInput (L : Ledger) (v : InputNo) (m : InputMode) : Ledger :=
  L.setHold v { L.holds v with saved := some (L.holds v).mode, mode := m }

/-- An input is given back (R125). -/
def Ledger.giveBack (L : Ledger) (v : InputNo) : Ledger :=
  L.setHold v { L.holds v with mode := (L.holds v).saved.getD (L.holds v).mode, saved := none }

/-- An input's verify record is dropped and the input is given back (R159, R160). -/
def Ledger.unbind (L : Ledger) (v : InputNo) : Ledger :=
  L.setHold v { mode := (L.holds v).saved.getD (L.holds v).mode, saved := none, bound := none }

/-- The verifier binds the input that a job names (R156). -/
def Ledger.bind (L : Ledger) (id : Nat) : Option InputNo → Ledger
  | some v => L.setHold v { mode := .verify, saved := some (L.holds v).mode, bound := some id }
  | none => L

/-- The jobs with an id enter a phase. -/
def Ledger.restate (L : Ledger) (id : Nat) (p : Phase) : Ledger :=
  { L with jobs := L.jobs.map fun b => if b.id = id then { b with phase := p } else b }

/-- The live job with an id. -/
def Ledger.job? (L : Ledger) (id : Nat) : Option Brief :=
  L.jobs.find? fun b => b.id == id

/-- A job gives up its reference and leaves the queue (R106). -/
def Ledger.remove (L : Ledger) (b : Brief) : Ledger :=
  { L.put b.slot (L.slot b.slot).withoutReference with jobs := L.jobs.filter fun k => decide (k.id ≠ b.id) }

/-- The job with an id, if it is live, gives up its reference and leaves the queue (R106). -/
def Ledger.finish (L : Ledger) (id : Nat) : Ledger :=
  match L.job? id with
  | some b => L.remove b
  | none => L

/-- The queue with a job joined at its class position (R43). -/
def joinBriefs (bs : List Brief) (b : Brief) : List Brief :=
  if b.urgent then bs.takeWhile Brief.urgent ++ b :: bs.dropWhile Brief.urgent else bs ++ [b]

/-- A job is admitted with its reference, and the next-id counter moves on (R41). -/
def Ledger.enqueue (L : Ledger) (b : Brief) : Ledger :=
  { L.put b.slot (L.slot b.slot).withReference with jobs := joinBriefs L.jobs b, nextId := nextIdAfter b.id }

/-- The ledger after RESTART ACTIVITY (R17, R53, R125). -/
def Ledger.restart (L : Ledger) : Ledger where
  table := L.table.afterRestart
  nextId := 1
  jobs := []
  holds := fun v => { mode := (L.holds v).saved.getD (L.holds v).mode, saved := none, bound := none }

/-- The ledger after power-on (R16, R53, R125). -/
def Ledger.fresh : Ledger where
  table := emptyTable
  nextId := 1
  jobs := []
  holds := fun _ => { mode := .off, saved := none, bound := none }

/-! ### Writers of the state -/

@[simp] theorem State.ledger_table (s : State) : s.ledger.table = s.table := rfl
@[simp] theorem State.ledger_nextId (s : State) : s.ledger.nextId = s.nextId := rfl
@[simp] theorem State.ledger_jobs (s : State) : s.ledger.jobs = s.jobs.map Job.brief := rfl
@[simp] theorem State.ledger_holds (s : State) (v : InputNo) : s.ledger.holds v = (s.input v).hold := rfl
@[simp] theorem State.ledger_slot (s : State) (i : SlotNo) : s.ledger.slot i = s.slot i := rfl
@[simp] theorem CodeTable.slot_table (s : State) (i : SlotNo) : s.table.slot i = s.slot i := rfl

/-- A ledger is read from the table, the counter, the jobs and the inputs. -/
theorem State.ledger_congr {s t : State} (ht : t.table = s.table) (hn : t.nextId = s.nextId) (hj : t.jobs = s.jobs)
    (hi : t.inputs = s.inputs) : t.ledger = s.ledger := by
  simp [State.ledger, State.input, ht, hn, hj, hi]

@[simp] theorem State.setLine_ledger (s : State) (l : HostLine) : (s.setLine l).ledger = s.ledger := rfl
@[simp] theorem State.setZones_ledger (s : State) (zs : Vector Zone 8) : (s.setZones zs).ledger = s.ledger := rfl
@[simp] theorem State.setGroups_ledger (s : State) (gs : Vector Group 4) : (s.setGroups gs).ledger = s.ledger := rfl
@[simp] theorem State.setCaptures_ledger (s : State) (cs : List CapturedFrame) : (s.setCaptures cs).ledger = s.ledger := rfl
@[simp] theorem State.setParams_ledger (s : State) (ps : Params) : (s.setParams ps).ledger = s.ledger := rfl
@[simp] theorem State.produce_ledger (s : State) (r : Report) : (s.produce r).ledger = s.ledger := rfl
@[simp] theorem State.joinCaptured_ledger (s : State) (rs : List Report) : (s.joinCaptured rs).ledger = s.ledger := rfl
@[simp] theorem State.setZone_ledger (s : State) (z : ZoneNo) (x : Zone) : (s.setZone z x).ledger = s.ledger := rfl
@[simp] theorem State.setGenerators_ledger (s : State) (gs : Vector (Option Carrier) 4) :
    (s.setGenerators gs).ledger = s.ledger := rfl
@[simp] theorem State.linkError_ledger (s : State) (e : LinkFault) (tag : Byte) : (s.linkError e tag).ledger = s.ledger :=
  State.ledger_congr (by simp) (by simp) (by simp) (by simp)

@[simp] theorem State.putSlot_ledger (s : State) (i : SlotNo) (x : Slot) : (s.putSlot i x).ledger = s.ledger.put i x := rfl
@[simp] theorem State.setLoad_ledger (s : State) (l : Option LoadContext) : (s.setLoad l).ledger = s.ledger.setLoad l := rfl
@[simp] theorem State.setLearn_ledger (s : State) (x : Option LearnContext) : (s.setLearn x).ledger = s.ledger.setLearn x := rfl

@[simp] theorem Ledger.put_slot (L : Ledger) (i : SlotNo) : L.put i (L.slot i) = L := by
  simp [Ledger.put, Ledger.slot]

@[simp] theorem State.ledger_put_slot (s : State) (i : SlotNo) : s.ledger.put i (s.slot i) = s.ledger :=
  s.ledger.put_slot i

@[simp] theorem Ledger.setHold_self (L : Ledger) (v : InputNo) : L.setHold v (L.holds v) = L := by
  simp [Ledger.setHold]

@[simp] theorem Ledger.setHold_holds (L : Ledger) (v : InputNo) (h : Hold) :
    (L.setHold v h).holds = Function.update L.holds v h := rfl

@[simp] theorem Ledger.setHold_setHold (L : Ledger) (v : InputNo) (h k : Hold) :
    (L.setHold v h).setHold v k = L.setHold v k := by
  simp [Ledger.setHold]

@[simp] theorem State.setInput_ledger (s : State) (v : InputNo) (r : RxInput) :
    (s.setInput v r).ledger = s.ledger.setHold v r.hold := by
  have hh : (fun w => ((s.setInput v r).input w).hold) = Function.update (fun w => (s.input w).hold) v r.hold := by
    funext w
    rw [State.input_setInput, Function.update_apply]
    split <;> rfl
  simp [State.ledger, Ledger.setHold, hh]

/-- An input record that the ledger sees as it was leaves the ledger. -/
theorem State.setInput_ledger_of_hold {s : State} {v : InputNo} {r : RxInput} (h : r.hold = (s.input v).hold) :
    (s.setInput v r).ledger = s.ledger := by
  rw [State.setInput_ledger, h, ← State.ledger_holds, Ledger.setHold_self]

/-- Job records that the ledger sees as they were leave the ledger. -/
theorem State.updateJob_ledger_of_brief {s : State} {id : Nat} {f : Job → Job}
    (h : ∀ j ∈ s.jobs, j.id = id → (f j).brief = j.brief) : (s.updateJob id f).ledger = s.ledger := by
  have hj : ((s.updateJob id f).jobs.map Job.brief) = s.jobs.map Job.brief := by
    simp only [State.updateJob, State.setJobs_jobs, List.map_map]
    refine List.map_congr_left fun j hj => ?_
    simp only [Function.comp_apply]
    split
    · exact h j hj ‹_›
    · rfl
  simp [State.ledger, State.input, hj]

/-- Job records that enter a phase and keep what else the ledger sees of them. -/
theorem State.updateJob_ledger_restate {s : State} {id : Nat} {f : Job → Job} {p : Phase}
    (h : ∀ j, (f j).brief = { j.brief with phase := p }) : (s.updateJob id f).ledger = s.ledger.restate id p := by
  have hj : ((s.updateJob id f).jobs.map Job.brief) = (s.ledger.restate id p).jobs := by
    simp only [State.updateJob, State.setJobs_jobs, List.map_map, Ledger.restate, State.ledger_jobs]
    refine List.map_congr_left fun j _ => ?_
    simp only [Function.comp_apply]
    split
    · exact (h j).trans (if_pos ‹_›).symm
    · exact (if_neg ‹_›).symm
  simpa [State.ledger, State.input, Ledger.restate] using hj

theorem State.ledger_job? (s : State) (id : Nat) : s.ledger.job? id = (s.job? id).map Job.brief := by
  simp only [Ledger.job?, State.job?, State.ledger_jobs, List.find?_map]
  rfl

/-! ### Operations on inputs -/

@[simp] theorem State.setRun_ledger (s : State) (v : InputNo) (r : Option Run) : (s.setRun v r).ledger = s.ledger :=
  State.setInput_ledger_of_hold rfl

@[simp] theorem State.decideRunEnd_ledger (s : State) (v : InputNo) (r : Run) : (s.decideRunEnd v r).ledger = s.ledger := by
  unfold State.decideRunEnd
  simp only []
  split <;> simp

@[simp] theorem State.checkRunEnd_ledger (s : State) (v : InputNo) : (s.checkRunEnd v).ledger = s.ledger := by
  unfold State.checkRunEnd
  split
  · rfl
  · split <;> simp

@[simp] theorem State.recheckRunEnd_ledger (s : State) (v : InputNo) : (s.recheckRunEnd v).ledger = s.ledger := by
  unfold State.recheckRunEnd
  split
  · split <;> simp
  · rfl

@[simp] theorem State.retryRunEnd_ledger (s : State) (v : InputNo) : (s.retryRunEnd v).ledger = s.ledger := by
  unfold State.retryRunEnd
  split
  · split <;> simp
  · rfl

@[simp] theorem State.discardOpen_ledger (s : State) (v : InputNo) : (s.discardOpen v).ledger = s.ledger := by
  unfold State.discardOpen
  split
  · rw [State.checkRunEnd_ledger]
    exact State.setInput_ledger_of_hold rfl
  · rfl

@[simp] theorem State.takeInput_ledger (s : State) (v : InputNo) (m : InputMode) :
    (s.takeInput v m).ledger = s.ledger.takeInput v m := by
  simp [State.takeInput, Ledger.takeInput, RxInput.hold]

@[simp] theorem State.giveBackInput_ledger (s : State) (v : InputNo) :
    (s.giveBackInput v).ledger = s.ledger.giveBack v := by
  unfold State.giveBackInput
  simp only []
  split <;> simp [Ledger.giveBack, RxInput.hold]

@[simp] theorem State.unbind_ledger (s : State) (v : InputNo) : (s.unbind v).ledger = s.ledger.unbind v := by
  simp [State.unbind, Ledger.giveBack, Ledger.unbind, RxInput.hold]

theorem State.setVerify_ledger {s : State} {v : InputNo} {r r' : VerifyRecord} (hr : (s.input v).verify = some r)
    (hj : r'.job = r.job) : (s.setVerify v (some r')).ledger = s.ledger :=
  State.setInput_ledger_of_hold (by simp [RxInput.hold, hr, hj])

@[simp] theorem State.noteDrop_ledger (s : State) (v : InputNo) (reason : DropReason) :
    (s.noteDrop v reason).ledger = s.ledger := by
  unfold State.noteDrop
  simp only []
  split
  · exact State.setInput_ledger_of_hold rfl
  · rw [State.produce_ledger]
    exact State.setInput_ledger_of_hold rfl

@[simp] theorem State.openFrame_ledger (s : State) (v : InputNo) (edge : Nat) : (s.openFrame v edge).ledger = s.ledger :=
  State.setInput_ledger_of_hold rfl

@[simp] theorem State.markStart_ledger (s : State) (v : InputNo) (edge : Nat) : (s.markStart v edge).ledger = s.ledger := by
  unfold State.markStart
  simp only []
  split
  · rfl
  · split
    · exact State.setInput_ledger_of_hold rfl
    · repeat' split
      all_goals simp

@[simp] theorem State.endDiscard_ledger (s : State) (v : InputNo) : (s.endDiscard v).ledger = s.ledger := by
  unfold State.endDiscard
  split
  · split
    · exact State.setInput_ledger_of_hold rfl
    · rfl
  · rfl
  · rfl

@[simp] theorem State.moveWindow_ledger (s : State) (v : InputNo) : (s.moveWindow v).ledger = s.ledger := by
  unfold State.moveWindow
  split
  · rfl
  · split <;> simp

/-! ### Operations on zones, generators and the load monitor -/

@[simp] theorem State.evaluate_ledger (s : State) (z : ZoneNo) : (s.evaluate z).ledger = s.ledger :=
  State.ledger_congr (by simp) (by simp) (by simp) (by simp)

@[simp] theorem State.decay_ledger (s : State) (z : ZoneNo) : (s.decay z).ledger = s.ledger := by
  simp [State.decay]

@[simp] theorem State.markEnds_ledger (s : State) (d : Nat) (ps : List (ZoneNo × Nat)) :
    (s.markEnds d ps).ledger = s.ledger :=
  State.ledger_congr (by simp) (by simp) (by simp) (by simp)

@[simp] theorem State.cutFrame_ledger (s : State) (j : Job) : (s.cutFrame j).ledger = s.ledger :=
  State.ledger_congr (by simp) (by simp) (by simp) (by simp)

@[simp] theorem State.leaveZones_ledger (s : State) (id : Nat) : (s.leaveZones id).ledger = s.ledger :=
  State.ledger_congr (by simp) (by simp) (by simp) (by simp)

@[simp] theorem State.ownZones_ledger (s : State) (id : Nat) (zs : ZoneSet) : (s.ownZones id zs).ledger = s.ledger :=
  State.ledger_congr (by simp) (by simp) (by simp) (by simp)

@[simp] theorem State.releaseGenerator_ledger (s : State) (g : Option (Fin 4)) : (s.releaseGenerator g).ledger = s.ledger :=
  State.ledger_congr (by simp) (by simp) (by simp) (by simp)

@[simp] theorem State.takeGenerator_ledger (s : State) (h : Header) (g : Option (Fin 4)) :
    (s.takeGenerator h g).ledger = s.ledger :=
  State.ledger_congr (by simp) (by simp) (by simp) (by simp)

/-- A fold of steps each of which leaves the ledger leaves it. -/
theorem foldl_ledger {α : Type} {f : State → α → State} (h : ∀ s a, (f s a).ledger = s.ledger) (l : List α) (s : State) :
    (l.foldl f s).ledger = s.ledger := by
  induction l generalizing s with
  | nil => rfl
  | cons a l ih => rw [List.foldl_cons, ih, h]

@[simp] theorem State.enableZones_ledger (s : State) (zs : ZoneSet) : (s.enableZones zs).ledger = s.ledger :=
  foldl_ledger (fun s z => by split <;> simp) _ s

@[simp] theorem State.turnOff_ledger (s : State) (zs : ZoneSet) : (s.turnOff zs).ledger = s.ledger :=
  foldl_ledger (fun s z => by simp) _ s

/-! ### Operations on jobs that the ledger does not see -/

@[simp] theorem State.beginFrame_ledger (s : State) (j : Job) (kind : FrameKind) :
    (s.beginFrame j kind).ledger = s.ledger :=
  State.updateJob_ledger_of_brief fun _ _ _ => rfl

@[simp] theorem State.pauseJob_ledger (s : State) (id : Nat) : (s.pauseJob id).ledger = s.ledger :=
  State.updateJob_ledger_of_brief fun _ _ _ => rfl

@[simp] theorem State.restartKeep_ledger (s : State) (id : Nat) : (s.restartKeep id).ledger = s.ledger :=
  State.updateJob_ledger_of_brief fun _ _ _ => rfl

@[simp] theorem State.beginSpace_ledger (s : State) (j : Job) (p : Play) (i : Nat) :
    (s.beginSpace j p i).ledger = s.ledger :=
  State.updateJob_ledger_of_brief fun _ _ _ => rfl

@[simp] theorem State.beginMark_ledger (s : State) (j : Job) (p : Play) (i : Nat) :
    (s.beginMark j p i).ledger = s.ledger :=
  State.updateJob_ledger_of_brief fun _ _ _ => rfl

@[simp] theorem State.setOutcome_ledger (s : State) (id : Nat) (o : VerifyOutcome) :
    (s.updateJob id fun j => { j with verify := o }).ledger = s.ledger :=
  State.updateJob_ledger_of_brief fun _ _ _ => rfl

@[simp] theorem State.stopJob_ledger (s : State) (id : Nat) (reason : EndReason) (now : Word32) :
    (s.updateJob id fun j => j.stopped reason now).ledger = s.ledger :=
  State.updateJob_ledger_of_brief fun _ _ _ => rfl

theorem Job.countFrame_brief (j : Job) (kind : FrameKind) : (j.countFrame kind).brief = j.brief := by
  unfold Job.countFrame
  split <;> rfl

/-- A release keeps a waiting job waiting and a playing job playing (R97). -/
theorem Job.release_brief (j : Job) : j.release.brief = j.brief := by
  unfold Job.release
  split <;> simp [Job.brief, Job.isUrgent, JobState.phase, *]

/-- A bound input's verify record names the job (R105). -/
theorem State.bound?_eq_some {s : State} {j : Job} {v : InputNo} {r : VerifyRecord} (h : s.bound? j = some (v, r)) :
    j.verifyInput = some v ∧ (s.input v).verify = some r ∧ r.job = j.id := by
  unfold State.bound? at h
  split at h
  · cases h
  · split at h
    · cases h
    · split at h
      · cases h
        exact ⟨‹_›, ‹_›, ‹_›⟩
      · cases h

/-- No input is bound to a job when no verify record on its verify input names it (R105). -/
theorem State.bound?_eq_none {s : State} {j : Job} (h : s.bound? j = none) (v : InputNo) (hv : j.verifyInput = some v) :
    (s.ledger.holds v).bound ≠ some j.id := by
  intro hb
  obtain ⟨r, hr, hj⟩ := Option.map_eq_some_iff.mp hb
  simp [State.bound?, hv, hr, hj] at h

@[simp] theorem State.noticeEmitted_ledger (s : State) (j : Job) : (s.noticeEmitted j).ledger = s.ledger := by
  unfold State.noticeEmitted
  split
  · rename_i v r h
    obtain ⟨_, hr, _⟩ := State.bound?_eq_some h
    exact State.setVerify_ledger hr rfl
  · rfl

@[simp] theorem State.beginTrail_ledger (s : State) (j : Job) (p : Play) : (s.beginTrail j p).ledger = s.ledger := by
  rw [State.beginTrail, State.noticeEmitted_ledger]
  exact State.updateJob_ledger_of_brief fun _ _ _ => rfl

@[simp] theorem State.endCell_ledger (s : State) (j : Job) (p : Play) (i d cells : Nat) :
    (s.endCell j p i d cells).ledger = s.ledger := by
  unfold State.endCell
  simp only []
  repeat' split
  all_goals simp

/-! ### References, starts and ends of jobs -/

@[simp] theorem State.dropReference_ledger (s : State) (i : SlotNo) :
    (s.dropReference i).ledger = s.ledger.put i (s.slot i).withoutReference := by
  have hself := s.ledger_put_slot i
  unfold State.dropReference
  cases h : s.slot i with
  | ready c => rfl
  | retiring c =>
    simp only [Slot.withoutReference]
    split <;> rfl
  | empty | loading _ _ | learning => rw [h] at hself; exact hself.symm

@[simp] theorem State.raiseReference_ledger (s : State) (i : SlotNo) :
    (s.raiseReference i).ledger = s.ledger.put i (s.slot i).withReference := by
  have hself := s.ledger_put_slot i
  unfold State.raiseReference
  cases h : s.slot i with
  | ready c => rfl
  | retiring c | empty | loading _ _ | learning => rw [h] at hself; exact hself.symm

theorem State.removeJob_ledger (s : State) (id : Nat) :
    (s.removeJob id).ledger = { s.ledger with jobs := s.ledger.jobs.filter fun b => decide (b.id ≠ id) } := by
  simp only [State.ledger, State.removeJob, State.setJobs_jobs, List.filter_map]
  rfl

@[simp] theorem State.finishJob_ledger (s : State) (id : Nat) : (s.finishJob id).ledger = s.ledger.finish id := by
  unfold State.finishJob Ledger.finish
  rw [State.ledger_job?]
  cases h : s.job? id with
  | none => rfl
  | some j =>
    have hid : j.id = id := by simpa using List.find?_some h
    simp only [Option.map_some, State.removeJob_ledger, State.dropReference_ledger, State.produce_ledger, Ledger.remove,
      Job.brief, hid]
    rfl

@[simp] theorem State.bindVerify_ledger (s : State) (j : Job) :
    (s.bindVerify j).ledger = s.ledger.bind j.id j.verifyInput := by
  unfold State.bindVerify
  cases j.verifyInput with
  | none => rfl
  | some v => simp [Ledger.bind, RxInput.hold, State.takeInput]

@[simp] theorem State.startJob_ledger (s : State) (j : Job) (h : Header) (g : Option (Fin 4)) :
    (s.startJob j h g).ledger = (s.ledger.restate j.id .playing).bind j.id j.verifyInput := by
  have hb : ∀ k : Job, (k.started g s.now (s.params.holdLimit * 1000)).brief = { k.brief with phase := .playing } := by
    intro k
    unfold Job.started
    split <;> rfl
  simp [State.startJob, State.updateJob_ledger_restate hb]

theorem joinQueue_brief (js : List Job) (j : Job) :
    (joinQueue js j).map Job.brief = joinBriefs (js.map Job.brief) j.brief := by
  unfold joinQueue joinBriefs
  simp only [List.takeWhile_map, List.dropWhile_map]
  change _ = if j.isUrgent then _ else _
  split
  · simp
    rfl
  · simp

/-! ### Learning -/

@[simp] theorem State.endLearn_ledger (s : State) (c : LearnContext) (result : LearnResult) (lead rep : Nat) :
    (s.endLearn c result lead rep).ledger =
      ((s.ledger.put c.slot (s.slot c.slot).unlearned).setLearn none).giveBack c.input := by
  have hself := s.ledger_put_slot c.slot
  unfold State.endLearn
  cases h : s.slot c.slot with
  | learning => simp [Slot.unlearned]
  | empty | loading _ _ | ready _ | retiring _ => rw [h] at hself; simp [Slot.unlearned, hself]

end Sys2Proof.Machine
end

section
/-! PROOFS. What a command can do to the ledger: one opening, or a run of moves. Every invariant of the ledger is a case
analysis of these. -/

namespace Sys2Proof.Machine

/-! ### Openings and moves -/

/-- The job queue of a ledger is in order (R34, R39, R42), as `State.queueOrdered` says. -/
structure Ledger.Ordered (L : Ledger) : Prop where
  places : L.jobs.length ≤ 16
  ids : (L.jobs.map Brief.id).Nodup
  idRange : ∀ b ∈ L.jobs, isJobId b.id
  nextRange : isJobId L.nextId
  classes : L.jobs.Pairwise fun a b => b.urgent = true → a.urgent = true
  inputs : (L.jobs.filterMap Brief.verifyInput).Nodup

/-- What CODE_OPEN (R20) and LEARN (R149) do to an EMPTY slot. -/
inductive Ledger.Opening : Ledger → Ledger → Prop
  | load {L : Ledger} {l : LoadContext} (empty : L.slot l.slot = .empty) (free : L.table.load = none)
      (room : l.header.blocks ≤ L.table.freeBlocks) (offset : l.nextOffset = 0) (sum : l.checksum = crcStart) :
      Opening L ((L.put l.slot (.loading l.header [])).setLoad (some l))
  | learn {L : Ledger} {x : LearnContext} (empty : L.slot x.slot = .empty) (free : L.table.learn = none)
      (untaken : (L.holds x.input).mode.isTaken = false) (unnamed : ∀ b ∈ L.jobs, b.verifyInput ≠ some x.input) :
      Opening L (((L.put x.slot .learning).setLearn (some x)).takeInput x.input .learn)

/-- What any other command does to the ledger, one effect at a time. -/
inductive Ledger.Move : Ledger → Ledger → Prop
  /-- A segment is stored (R24). -/
  | store {L : Ledger} {l : LoadContext} {cells : List Nat} {idle : Timer} (inUse : L.table.load = some l)
      (fits : l.nextOffset + cells.length ≤ l.header.total) (long : cellsLongEnough cells) :
      Move L ((L.put l.slot ((L.slot l.slot).extended cells)).setLoad
        (some { l with
          nextOffset := l.nextOffset + cells.length, checksum := crcCells l.checksum cells, idle := idle }))
  /-- A load is abandoned (R27, R30). -/
  | abandon {L : Ledger} {i : SlotNo}
      (loads : (∃ l, L.table.load = some l ∧ l.slot = i) ∨ ∃ h cells, L.slot i = .loading h cells) :
      Move L ((L.put i (L.slot i).unloaded).setLoad none)
  /-- A load is completed (R28). -/
  | complete {L : Ledger} {l : LoadContext} (inUse : L.table.load = some l) (all : l.nextOffset = l.header.total) :
      Move L ((L.put l.slot ((L.slot l.slot).loaded l.checksum)).setLoad none)
  /-- A code's three amendable fields are replaced (R12). -/
  | amend {L : Ledger} {i : SlotNo} {c : Code} (label : Word32) (matchable : Bool) (tolerance : Nat)
      (ready : L.slot i = .ready c) : Move L (L.put i (.ready (c.amend label matchable tolerance)))
  /-- A code that no job names is erased (R10). -/
  | erase {L : Ledger} {i : SlotNo} {c : Code} (ready : L.slot i = .ready c) (unused : c.refs = 0) :
      Move L (L.put i .empty)
  /-- The erase of a code that a job names is deferred (R10). -/
  | defer {L : Ledger} {i : SlotNo} {c : Code} (ready : L.slot i = .ready c) (used : c.refs ≠ 0) :
      Move L (L.put i (.retiring c))
  /-- A RETIRING slot whose count is 0 retires (R11). -/
  | retire {L : Ledger} {i : SlotNo} {c : Code} (retiring : L.slot i = .retiring c) (unused : c.refs = 0) :
      Move L (L.put i .empty)
  /-- A LEARNING slot that is not the learn context's is erased. -/
  | clearLearning {L : Ledger} {i : SlotNo} (learning : L.slot i = .learning)
      (stray : ∀ x, L.table.learn = some x → x.slot ≠ i) : Move L (L.put i .empty)
  /-- The learn context takes a frame (R151). -/
  | noteLearn {L : Ledger} {x y : LearnContext} (inUse : L.table.learn = some x) (slot : y.slot = x.slot)
      (input : y.input = x.input) : Move L (L.setLearn (some y))
  /-- A learn ends with nothing stored (R153). -/
  | endLearn {L : Ledger} {x : LearnContext} (inUse : L.table.learn = some x) :
      Move L (((L.put x.slot (L.slot x.slot).unlearned).setLearn none).giveBack x.input)
  /-- A learn ends with its code stored (R152). -/
  | storeLearned {L : Ledger} {x : LearnContext} {c : Code} (inUse : L.table.learn = some x)
      (room : c.header.blocks ≤ L.table.freeBlocks) (whole : c.whole) (unused : c.refs = 0) :
      Move L (((L.put x.slot ((L.slot x.slot).learned c)).setLearn none).giveBack x.input)
  /-- An input that is not taken gets a mode (R126). -/
  | setMode {L : Ledger} {v : InputNo} {m : InputMode} (untaken : (L.holds v).mode.isTaken = false)
      (free : m.isTaken = false) : Move L (L.setHold v { L.holds v with mode := m })
  /-- A job is admitted (R39, R41). -/
  | enqueue {L : Ledger} {b : Brief} {c : Code} (ready : L.slot b.slot = .ready c) (room : L.jobs.length < 16)
      (fresh : isJobId L.nextId → isJobId b.id ∧ ∀ k ∈ L.jobs, k.id ≠ b.id) (waits : b.phase = .waiting)
      (input : ∀ v, b.verifyInput = some v → (L.holds v).mode ≠ .learn ∧ ∀ k ∈ L.jobs, k.verifyInput ≠ some v) :
      Move L (L.enqueue b)
  /-- A waiting job starts, and its verify input is bound (R71). -/
  | start {L : Ledger} {b : Brief} (live : b ∈ L.jobs) (waits : b.phase = .waiting) :
      Move L ((L.restate b.id .playing).bind b.id b.verifyInput)
  /-- A job with a bound verify input enters SETTLING (R105). -/
  | settle {L : Ledger} {b : Brief} {v : InputNo} (live : L.job? b.id = some b) (names : b.verifyInput = some v)
      (bound : (L.holds v).bound = some b.id) : Move L (L.restate b.id .settling)
  /-- A job to which no input is bound is removed (R106). -/
  | finish {L : Ledger} {b : Brief} (live : L.job? b.id = some b)
      (unbound : ∀ v, b.verifyInput = some v → (L.holds v).bound ≠ some b.id) : Move L (L.finish b.id)
  /-- A job's input is given back and the job is removed (R159, R160). -/
  | release {L : Ledger} {b : Brief} {v : InputNo} (live : L.job? b.id = some b)
      (bound : (L.holds v).bound = some b.id) : Move L ((L.unbind v).finish b.id)
  /-- RESTART ACTIVITY (R17, R53, R125). -/
  | restart {L : Ledger} : Move L L.restart
  /-- Power-on and RESTART FULL (R16). -/
  | reset {L : Ledger} : Move L Ledger.fresh
  /-- On a queue that is not in order nothing is said of jobs and inputs: no state that is reached has one. -/
  | disordered {L L' : Ledger} (disorder : ¬L.Ordered) (table : L'.table = L.table) : Move L L'

/-- A run of moves. -/
abbrev Ledger.Moves : Ledger → Ledger → Prop :=
  Relation.ReflTransGen Ledger.Move

/-- What one command does: one opening, or a run of moves. -/
inductive Ledger.Turn (L L' : Ledger) : Prop
  | opening (h : L.Opening L')
  | moves (h : L.Moves L')

theorem Ledger.Moves.of_eq {L L' : Ledger} (h : L' = L) : L.Moves L' :=
  h ▸ .refl

/-- Runs of moves follow one another through a fold. -/
theorem foldl_moves {α : Type} {f : State → α → State} (h : ∀ (s : State) (a : α), s.ledger.Moves (f s a).ledger) (l : List α) (s : State) :
    s.ledger.Moves (l.foldl f s).ledger := by
  induction l generalizing s with
  | nil => exact .refl
  | cons a l ih => exact (h s a).trans (ih _)

/-- With the table unchanged, moves are asked of a queue in order only. -/
theorem Ledger.Moves.of_ordered {L L' : Ledger} (ht : L'.table = L.table) (h : L.Ordered → L.Moves L') : L.Moves L' := by
  by_cases ho : L.Ordered
  · exact h ho
  · exact .single (.disordered ho ht)

/-! ### The start arbiter -/

@[simp] theorem Ledger.bind_jobs (L : Ledger) (id : Nat) (v : Option InputNo) : (L.bind id v).jobs = L.jobs := by
  cases v <;> rfl

@[simp] theorem Ledger.bind_table (L : Ledger) (id : Nat) (v : Option InputNo) : (L.bind id v).table = L.table := by
  cases v <;> rfl

/-- A job other than those restated is live as it was. -/
theorem Ledger.mem_restate_of_ne {L : Ledger} {b : Brief} {id : Nat} {p : Phase} (hb : b ∈ L.jobs) (hid : b.id ≠ id) :
    b ∈ (L.restate id p).jobs :=
  List.mem_map.mpr ⟨b, hb, if_neg hid⟩

theorem State.ids_eq (s : State) : s.ledger.jobs.map Brief.id = s.jobs.map Job.id := by
  simp [Job.brief, Function.comp_def]

theorem Job.brief_waiting {j : Job} (h : j.state = .waiting) : j.brief.phase = .waiting := by
  simp [Job.brief, h, JobState.phase]

theorem arbiterScan_moves (js : List Job) (blocked : ZoneSet) (s : State) (hn : (js.map Job.id).Nodup)
    (hm : ∀ j ∈ js, j.brief ∈ s.ledger.jobs) : s.ledger.Moves (arbiterScan js blocked s).ledger := by
  induction js generalizing blocked s with
  | nil => exact .refl
  | cons j js ih =>
    rw [List.map_cons, List.nodup_cons] at hn
    obtain ⟨hj, hjs⟩ := List.forall_mem_cons.mp hm
    unfold arbiterScan
    split
    case isTrue hw =>
      split
      · rename_i h g _
        have hstart : s.ledger.Move (s.startJob j h g).ledger := by
          rw [State.startJob_ledger]
          exact .start hj (Job.brief_waiting hw)
        refine .head hstart (ih _ _ hn.2 fun k hk => ?_)
        have hne : k.brief.id ≠ j.id := fun he => hn.1 (List.mem_map.mpr ⟨k, hk, he⟩)
        rw [State.startJob_ledger, Ledger.bind_jobs]
        exact Ledger.mem_restate_of_ne (hjs k hk) hne
      · exact ih _ _ hn.2 hjs
    case isFalse => exact ih _ _ hn.2 hjs

theorem State.runArbiter_moves (s : State) : s.ledger.Moves s.runArbiter.ledger :=
  .of_ordered (by simp) fun ho =>
    arbiterScan_moves _ _ _ (s.ids_eq ▸ ho.ids) fun _ hj => List.mem_map_of_mem hj

theorem State.arbiterAfter_moves (s before : State) : s.ledger.Moves (s.arbiterAfter before).ledger := by
  unfold State.arbiterAfter
  split
  · exact s.runArbiter_moves
  · exact .refl

/-- The first job that a run of the arbiter would start is a waiting job of the queue (R70). -/
theorem State.firstStart_mem {s : State} {js : List Job} {blocked : ZoneSet} {j : Job} {h : Header} {g : Option (Fin 4)}
    (hf : s.firstStart js blocked = some (j, h, g)) : j ∈ js ∧ j.state = .waiting := by
  induction js generalizing blocked with
  | nil => cases hf
  | cons k js ih =>
    unfold State.firstStart at hf
    split at hf
    case isTrue hw =>
      split at hf
      · cases hf
        exact ⟨List.mem_cons_self, hw⟩
      · exact (ih hf).imp_left (List.mem_cons_of_mem _)
    case isFalse => exact (ih hf).imp_left (List.mem_cons_of_mem _)

/-! ### Ends of jobs -/

theorem State.job?_id {s : State} {id : Nat} {j : Job} (h : s.job? id = some j) : j.id = id := by
  simpa using List.find?_some h

/-- A live job is found in the ledger by its id. -/
theorem State.ledger_job?_brief {s : State} {id : Nat} {j : Job} (h : s.job? id = some j) :
    s.ledger.job? j.brief.id = some j.brief := by
  have hid : j.brief.id = id := State.job?_id h
  rw [hid, State.ledger_job?, h, Option.map_some]

/-- A job to which no input is bound is removed. -/
theorem State.finishJob_moves {s : State} {id : Nat} {j : Job} (h : s.job? id = some j) (hb : s.bound? j = none) :
    s.ledger.Moves (s.finishJob id).ledger := by
  obtain rfl := State.job?_id h
  rw [State.finishJob_ledger]
  exact .single (.finish (State.ledger_job?_brief h) (State.bound?_eq_none hb))

/-- A verdict is given on the verify record of a live job (R159). -/
theorem State.giveVerdict_moves {s : State} {v : InputNo} {r : VerifyRecord} {j : Job} (h : s.job? r.job = some j)
    (hv : (s.input v).verify = some r) : s.ledger.Moves (s.giveVerdict v r).ledger := by
  have hid := State.job?_id h
  have hbound : (s.ledger.holds v).bound = some j.brief.id := by simp [RxInput.hold, hv, Job.brief, hid]
  have hl := Ledger.Move.release (State.ledger_job?_brief h) hbound
  rw [State.giveVerdict, State.finishJob_ledger, State.unbind_ledger, State.setOutcome_ledger]
  exact .single (hid ▸ hl)

/-- A verify of a live job is abandoned and the job is removed (R160). -/
theorem State.abandonVerify_moves {s : State} {id : Nat} {v : InputNo} {r : VerifyRecord} {j : Job}
    (h : s.job? id = some j) (hb : s.bound? j = some (v, r)) :
    s.ledger.Moves ((s.abandonVerify id v r).finishJob id).ledger := by
  obtain rfl := State.job?_id h
  obtain ⟨_, hv, hr⟩ := State.bound?_eq_some hb
  have hbound : (s.ledger.holds v).bound = some j.brief.id := by simp [RxInput.hold, hv, hr, Job.brief]
  rw [State.abandonVerify, State.finishJob_ledger, State.unbind_ledger, State.setOutcome_ledger]
  exact .single (.release (State.ledger_job?_brief h) hbound)

theorem State.checkSettled_moves (s : State) (v : InputNo) : s.ledger.Moves (s.checkSettled v).ledger := by
  unfold State.checkSettled
  split
  · exact .refl
  · rename_i r hv
    split
    case isTrue hs =>
      cases hj : s.job? r.job with
      | none => simp [State.settled, hj] at hs
      | some j => exact State.giveVerdict_moves hj hv
    case isFalse => exact .refl

/-- Which verify record is bound to a job is read from the inputs. -/
theorem State.bound?_congr {s t : State} {j k : Job} (hi : t.inputs = s.inputs) (hv : k.verifyInput = j.verifyInput)
    (hid : k.id = j.id) : t.bound? k = s.bound? j := by
  simp [State.bound?, State.input, hi, hv, hid]

/-- The record of a job that is stopped (R104, steps 1 to 3). -/
theorem State.job?_updateJob {s : State} {id : Nat} {f : Job → Job} {j : Job} (h : s.job? id = some j)
    (hf : ∀ k, (f k).id = k.id) : (s.updateJob id f).job? id = some (f j) := by
  have hp : (fun k : Job => (if k.id = id then f k else k).id == id) = fun k => k.id == id := by
    funext k
    split <;> simp [hf]
  have hj := State.job?_id h
  unfold State.job? at h ⊢
  simp only [State.updateJob, State.setJobs_jobs, List.find?_map, Function.comp_def, hp, h, Option.map_some, if_pos hj]

theorem State.endJob_moves (s : State) (id : Nat) (reason : EndReason) : s.ledger.Moves (s.endJob id reason).ledger := by
  unfold State.endJob
  cases hj : s.job? id with
  | none => exact .refl
  | some j =>
    have hid := State.job?_id hj
    simp only []
    generalize hs : ((s.leaveZones id).releaseGenerator j.generator).updateJob id (fun j => j.stopped reason s.now) = s'
    have hledger : s'.ledger = s.ledger := by
      simp [← hs]
    have hjobs : ((s.leaveZones id).releaseGenerator j.generator).job? id = some j := by
      simpa [State.job?] using hj
    have hj' : s'.job? id = some (j.stopped reason s.now) := by
      rw [← hs]
      exact State.job?_updateJob hjobs fun _ => rfl
    have hbound : s'.bound? (j.stopped reason s.now) = s.bound? j :=
      State.bound?_congr (by simp [← hs]) rfl rfl
    split
    · rename_i v r hb
      split
      · obtain ⟨hn, hv, hr⟩ := State.bound?_eq_some hb
        have hsettle : s.ledger.Move (s.ledger.restate j.brief.id .settling) :=
          .settle (State.ledger_job?_brief hj) hn (by simp [RxInput.hold, hv, hr, Job.brief])
        have hledger' : (s'.updateJob id fun j => { j with state := .settling, paused := false }).ledger =
            s.ledger.restate j.brief.id .settling := by
          rw [State.updateJob_ledger_restate (p := .settling) fun _ => rfl, hledger, ← hid]
          rfl
        exact .head hsettle (hledger' ▸ State.checkSettled_moves _ v)
      · exact hledger ▸ State.abandonVerify_moves hj' (hbound.trans hb)
    · rename_i hb
      exact hledger ▸ State.finishJob_moves hj' (hbound.trans hb)

theorem State.endThenArbitrate_moves (s : State) (id : Nat) (reason : EndReason) :
    s.ledger.Moves (s.endJob id reason).runArbiter.ledger :=
  (s.endJob_moves id reason).trans (State.runArbiter_moves _)

/-- A change of one live job's record that the ledger does not see. -/
theorem State.updateJob_moves {s : State} {j : Job} {f : Job → Job} (h : s.job? j.id = some j)
    (hf : (f j).brief = j.brief) : s.ledger.Moves (s.updateJob j.id f).ledger :=
  .of_ordered (by simp) fun ho => .of_eq <| State.updateJob_ledger_of_brief fun k hk hid => by
    have hn : (s.jobs.map Job.id).Nodup := s.ids_eq ▸ ho.ids
    rw [List.inj_on_of_nodup_map hn hk (List.mem_of_find?_eq_some h) hid, hf]

theorem State.lapseKeep_moves {s : State} {j : Job} (h : s.job? j.id = some j) :
    s.ledger.Moves (s.lapseKeep j).ledger := by
  unfold State.lapseKeep
  cases hs : j.state with
  | waiting => exact s.endThenArbitrate_moves _ _
  | running => exact State.updateJob_moves h (by simp [Job.brief, Job.isUrgent, hs, JobState.phase])
  | draining | settling => exact .refl

theorem State.reachHoldLimit_moves {s : State} {j : Job} (h : s.job? j.id = some j) :
    s.ledger.Moves (s.reachHoldLimit j).ledger := by
  unfold State.reachHoldLimit
  cases hs : j.state with
  | running => exact State.updateJob_moves h (by simp [Job.brief, Job.isUrgent, hs, JobState.phase])
  | waiting | draining | settling => exact .refl

theorem State.abandonSettling_moves {s : State} {j : Job} (h : s.job? j.id = some j) :
    s.ledger.Moves (s.abandonSettling j).ledger := by
  unfold State.abandonSettling
  cases hb : s.bound? j with
  | some p => exact State.abandonVerify_moves h hb
  | none => exact State.finishJob_moves h hb

theorem State.cancelJob_moves {s : State} {j : Job} (h : s.job? j.id = some j) :
    s.ledger.Moves (s.cancelJob j).ledger := by
  have hcut : s.ledger.Moves ((s.cutFrame j).endJob j.id .cancelled).ledger :=
    s.cutFrame_ledger j ▸ (s.cutFrame j).endJob_moves j.id .cancelled
  unfold State.cancelJob
  cases j.state with
  | waiting => exact s.endJob_moves _ _
  | running | draining => exact hcut
  | settling => exact State.abandonSettling_moves h

theorem State.disableZones_moves (s : State) (zs : ZoneSet) : s.ledger.Moves (s.disableZones zs).ledger := by
  rw [State.disableZones, State.turnOff_ledger]
  refine foldl_moves (fun u j => ?_) _ s
  simpa [State.disableJob] using (u.cutFrame j).endJob_moves j.id .zoneDisabled

/-! ### Frame boundaries and pauses -/

theorem State.decideBoundary_moves (s : State) (j : Job) (h : Header) : s.ledger.Moves (s.decideBoundary j h).ledger := by
  unfold State.decideBoundary
  split
  · exact s.endThenArbitrate_moves _ _
  · split
    · exact s.endThenArbitrate_moves _ _
    · split <;> exact .of_eq (by simp)

theorem State.clearPause_moves (s : State) (j : Job) (h : Header) : s.ledger.Moves (s.clearPause j h).ledger := by
  have hu : (s.updateJob j.id fun j => { j with paused := false, pauseTimer := none }).ledger = s.ledger :=
    State.updateJob_ledger_of_brief fun _ _ _ => rfl
  exact hu ▸ State.decideBoundary_moves _ _ h

theorem State.checkPause_moves (s : State) (id : Nat) : s.ledger.Moves (s.checkPause id).ledger := by
  unfold State.checkPause
  split
  · split
    · split
      · exact s.clearPause_moves _ _
      · exact .refl
    · exact .refl
  · exact .refl

/-! ### Admission -/

/-- The ids that an admission tries, the counter's first (R42). -/
def triedId (n k : Nat) : Nat :=
  nextIdAfter^[k] n

/-- The ids tried run from the counter up to 255 and go on at 1. -/
theorem triedId_eq {n : Nat} (hn : isJobId n) (k : Nat) : triedId n k = (n - 1 + k) % 255 + 1 := by
  obtain ⟨h1, h2⟩ := hn
  induction k with
  | zero =>
    simp only [triedId, Function.iterate_zero_apply]
    omega
  | succ k ih =>
    have hs : triedId n (k + 1) = nextIdAfter (triedId n k) := Function.iterate_succ_apply' ..
    rw [hs, ih, nextIdAfter]
    split <;> omega

/-- What the search answers is an id it tried: the first that no live job holds, or the last when every one is held. -/
theorem freeId_eq (fuel n : Nat) (js : List Job) :
    (∃ k < fuel, freeId fuel n js = triedId n k ∧ ∀ j ∈ js, j.id ≠ triedId n k) ∨
      (freeId fuel n js = triedId n fuel ∧ ∀ k < fuel, ∃ j ∈ js, j.id = triedId n k) := by
  induction fuel generalizing n with
  | zero => exact .inr ⟨rfl, fun k hk => absurd hk (Nat.not_lt_zero k)⟩
  | succ fuel ih =>
    have hshift : ∀ k, triedId (nextIdAfter n) k = triedId n (k + 1) := fun _ => rfl
    unfold freeId
    by_cases hheld : ∃ j ∈ js, j.id = n
    · rw [if_pos (by simpa using hheld)]
      obtain ⟨k, hk, he, hfree⟩ | ⟨he, hall⟩ := ih (nextIdAfter n)
      · exact .inl ⟨k + 1, by omega, he, hfree⟩
      · refine .inr ⟨he, fun k hk => ?_⟩
        cases k with
        | zero => exact hheld
        | succ k => exact hall k (by omega)
    · rw [if_neg (by simpa using hheld)]
      exact .inl ⟨0, by omega, rfl, fun j hj he => hheld ⟨j, hj, he⟩⟩

/-- With a place in the queue free, an admission finds an id that no live job holds: 16 ids are tried (R42). -/
theorem State.allocateId_fresh {s : State} (hn : isJobId s.nextId) (hroom : s.jobs.length < 16) :
    isJobId s.allocateId ∧ ∀ j ∈ s.jobs, j.id ≠ s.allocateId := by
  have hrange : ∀ k, isJobId (triedId s.nextId k) := fun k => by
    rw [triedId_eq hn]
    unfold isJobId
    omega
  obtain ⟨k, _, he, hfree⟩ | ⟨_, hall⟩ := freeId_eq 16 s.nextId s.jobs
  · have he' : s.allocateId = triedId s.nextId k := he
    rw [he']
    exact ⟨hrange k, hfree⟩
  · exfalso
    have hnodup : ((List.range 16).map (triedId s.nextId)).Nodup := by
      refine (List.nodup_map_iff_inj_on List.nodup_range).mpr fun a ha b hb hab => ?_
      rw [List.mem_range] at ha hb
      rw [triedId_eq hn, triedId_eq hn] at hab
      omega
    have hsub : (List.range 16).map (triedId s.nextId) ⊆ s.jobs.map Job.id := by
      intro n hmem
      obtain ⟨k, hk, rfl⟩ := List.mem_map.mp hmem
      obtain ⟨j, hj, he⟩ := hall k (List.mem_range.mp hk)
      exact List.mem_map.mpr ⟨j, hj, he⟩
    have hlen := (hnodup.subperm hsub).length_le
    simp at hlen
    omega

theorem State.markFor_moves (s : State) (j : Job) : s.ledger.Moves (s.markFor j).ledger := by
  unfold State.markFor
  split
  · refine foldl_moves (fun u k => ?_) _ s
    have hu : (u.updateJob k.id fun k => { k with preemptPending := true }).ledger = u.ledger :=
      State.updateJob_ledger_of_brief fun _ _ _ => rfl
    unfold State.markJob
    simp only []
    split
    · exact hu ▸ State.endJob_moves _ _ _
    · exact .of_eq hu
  · exact .refl

/-- An admission that has passed the checks of EMIT (R39, R41). -/
theorem State.admitJob_moves {s : State} {r : EmitRequest} {c : Code} (hc : s.slot r.slot = .ready c)
    (hroom : s.jobs.length < 16) (hv : ∀ v, r.verifyInput = some v → s.inputFree v = true) :
    s.ledger.Moves (s.admitJob r).ledger := by
  have henqueue : s.ledger.Move (s.ledger.enqueue (s.newJob r).brief) := by
    refine .enqueue (c := c) hc (by simpa using hroom) (fun hn => ?_) rfl fun v he => ?_
    · obtain ⟨hid, hfree⟩ := State.allocateId_fresh hn hroom
      refine ⟨hid, fun k hk => ?_⟩
      obtain ⟨j, hj, rfl⟩ := List.mem_map.mp hk
      exact hfree j hj
    · have hfree := hv v he
      simp only [State.inputFree, State.namedByJob, Bool.and_eq_true, decide_eq_true_eq, Bool.not_eq_true',
        List.any_eq_false] at hfree
      obtain ⟨huntaken, hunnamed⟩ := hfree
      refine ⟨huntaken, fun k hk => ?_⟩
      obtain ⟨j, hj, rfl⟩ := List.mem_map.mp hk
      exact hunnamed j hj
  have hledger : (((s.raiseReference r.slot).setJobs (joinQueue s.jobs (s.newJob r))).setNextId
      (nextIdAfter (s.newJob r).id)).ledger = s.ledger.enqueue (s.newJob r).brief := by
    change ({ (s.raiseReference r.slot).ledger with
      jobs := (joinQueue s.jobs (s.newJob r)).map Job.brief, nextId := nextIdAfter (s.newJob r).id } : Ledger) = _
    rw [s.raiseReference_ledger r.slot, joinQueue_brief]
    rfl
  exact .head henqueue (hledger ▸ State.markFor_moves _ _)

/-! ### Learning -/

theorem LearnContext.sortIntoB_keeps {c d : LearnContext} {tolerance : Nat} {cells : List Nat}
    (h : c.sortIntoB tolerance cells = some d) : d.slot = c.slot ∧ d.input = c.input := by
  unfold LearnContext.sortIntoB at h
  split at h
  · cases h
    exact ⟨rfl, rfl⟩
  · split at h
    · cases h
      exact ⟨rfl, rfl⟩
    · cases h

/-- Sorting a frame keeps the learn's slot and input (R151). -/
theorem LearnContext.sort_keeps {c d : LearnContext} {tolerance : Nat} {cells : List Nat}
    (h : c.sort tolerance cells = some d) : d.slot = c.slot ∧ d.input = c.input := by
  unfold LearnContext.sort at h
  split at h
  · cases h
    exact ⟨rfl, rfl⟩
  · split at h
    · split at h
      · cases h
        exact ⟨rfl, rfl⟩
      · cases h
    · exact LearnContext.sortIntoB_keeps h

theorem LearnContext.noteGap_keeps (c d : LearnContext) (gap : Option Nat) :
    (c.noteGap d gap).slot = d.slot ∧ (c.noteGap d gap).input = d.input := by
  unfold LearnContext.noteGap
  split <;> exact ⟨rfl, rfl⟩

theorem storedCells_long (p : Option Pattern) : cellsLongEnough (storedCells p) := by
  intro d hd
  unfold storedCells at hd
  split at hd
  · obtain ⟨n, _, rfl⟩ := List.mem_map.mp hd
    exact Nat.le_max_left 8 n
  · cases hd

/-- The code that a learn builds has all its cells, none below 8 µs, with the checksum over them (R152). -/
theorem LearnContext.code_whole (c : LearnContext) : c.code.whole := by
  refine ⟨?_, rfl, fun d hd => ?_⟩
  · simp [LearnContext.code, Header.total]
  · have hlead : cellsLongEnough c.leadSection := by
      unfold LearnContext.leadSection
      split
      · exact fun d hd => nomatch hd
      · exact storedCells_long _
    have hrep : cellsLongEnough c.repeatSection := by
      unfold LearnContext.repeatSection
      split <;> exact storedCells_long _
    obtain h | h := List.mem_append.mp hd
    · exact hlead d h
    · exact hrep d h

theorem State.endLearn_moves {s : State} {c : LearnContext} (h : s.table.learn = some c) (result : LearnResult)
    (lead rep : Nat) : s.ledger.Moves (s.endLearn c result lead rep).ledger := by
  rw [State.endLearn_ledger]
  exact .single (.endLearn h)

theorem State.buildLearned_moves {s : State} {c : LearnContext} (h : s.table.learn = some c) :
    s.ledger.Moves (s.buildLearned c).ledger := by
  have hself := s.ledger_put_slot c.slot
  unfold State.buildLearned
  simp only []
  split
  case isTrue hroom =>
    have hstore := Ledger.Move.storeLearned (L := s.ledger) h hroom c.code_whole rfl
    rw [State.endLearn_ledger]
    refine .single ?_
    cases hs : s.slot c.slot with
    | learning =>
      have hput : (s.ledger.put c.slot (.ready c.code)).put c.slot (.ready c.code) = s.ledger.put c.slot (.ready c.code) := by
        have hp := (s.putSlot c.slot (.ready c.code)).ledger_put_slot c.slot
        rwa [State.slot_putSlot_self, State.putSlot_ledger] at hp
      simpa [hs, Slot.learned, Slot.unlearned, hput] using hstore
    | empty | loading _ _ | ready _ | retiring _ => simpa [hs, Slot.learned, Slot.unlearned] using hstore
  case isFalse => exact State.endLearn_moves h ..

theorem State.learnFrame_moves {s : State} {c : LearnContext} (h : s.table.learn = some c) (f : CapturedFrame) :
    s.ledger.Moves (s.learnFrame c f).ledger := by
  unfold State.learnFrame
  split
  · exact State.endLearn_moves h ..
  · split
    · exact State.endLearn_moves h ..
    · rename_i sorted hsort
      obtain ⟨hslot, hinput⟩ := LearnContext.sort_keeps hsort
      obtain ⟨hslot', hinput'⟩ := c.noteGap_keeps sorted f.gapBefore
      have hnote : s.ledger.Move (s.setLearn (some (c.noteGap sorted f.gapBefore))).ledger :=
        .noteLearn h (hslot'.trans hslot) (hinput'.trans hinput)
      simp only []
      split
      · exact .head hnote (State.buildLearned_moves rfl)
      · exact .single hnote

theorem State.offerLearner_moves (s : State) (f : CapturedFrame) : s.ledger.Moves (s.offerLearner f).ledger := by
  unfold State.offerLearner
  split
  · exact .refl
  · split
    · exact State.learnFrame_moves ‹_› f
    · exact .refl

/-! ### The capture queue -/

@[simp] theorem State.offerVerifier_ledger (s : State) (f : CapturedFrame) : (s.offerVerifier f).ledger = s.ledger := by
  unfold State.offerVerifier
  split
  · rfl
  · rename_i r hr
    split
    · split
      · refine State.setVerify_ledger hr ?_
        unfold VerifyRecord.after
        split <;> rfl
      · rfl
    · rfl

theorem State.recognize_ledger {s t : State} {f : CapturedFrame} (h : s.recognize f = some t) : t.ledger = s.ledger := by
  unfold State.recognize at h
  split at h <;> simp only [] at h <;> split at h <;> cases h <;> simp

theorem State.forwardRaw_ledger {s t : State} {f : CapturedFrame} (h : s.forwardRaw f = some t) : t.ledger = s.ledger := by
  unfold State.forwardRaw at h
  split at h <;> cases h
  simp

theorem State.consume_moves {s t : State} {f : CapturedFrame} (h : s.consume f = some t) : s.ledger.Moves t.ledger := by
  unfold State.consume at h
  split at h
  · exact .of_eq (State.recognize_ledger h)
  · exact .of_eq (State.forwardRaw_ledger h)
  · cases h
    exact s.offerLearner_moves f
  · cases h
    exact .of_eq (s.offerVerifier_ledger f)

theorem State.leaveQueue_moves (s : State) (f : CapturedFrame) : s.ledger.Moves (s.leaveQueue f).ledger := by
  have hs : ((s.setCaptures s.captures.tail).checkRunEnd f.input).ledger = s.ledger := by simp
  unfold State.leaveQueue
  simp only []
  split
  · exact hs ▸ State.checkSettled_moves _ _
  all_goals exact .of_eq hs

theorem State.tryHead_moves {s t : State} (h : s.tryHead = some t) : s.ledger.Moves t.ledger := by
  unfold State.tryHead at h
  split at h
  · cases h
  · obtain ⟨u, hu, rfl⟩ := Option.map_eq_some_iff.mp h
    exact (State.consume_moves hu).trans (u.leaveQueue_moves _)

theorem tryHeads_moves (n : Nat) (s : State) : s.ledger.Moves (tryHeads n s).ledger := by
  induction n generalizing s with
  | zero => exact .refl
  | succ n ih =>
    unfold tryHeads
    split
    · exact (State.tryHead_moves ‹_›).trans (ih _)
    · exact .refl

theorem State.dispatch_moves (s : State) : s.ledger.Moves s.dispatch.ledger :=
  (tryHeads_moves _ s).trans (State.arbiterAfter_moves _ s)

theorem State.retryProducers_moves (s : State) : s.ledger.Moves s.retryProducers.ledger := by
  simpa [State.retryProducers] using s.dispatch_moves

theorem State.recheckProducers_moves (s : State) : s.ledger.Moves s.recheckProducers.ledger := by
  simpa [State.recheckProducers] using s.dispatch_moves

theorem State.entriesFreed_moves (s : State) : s.ledger.Moves s.entriesFreed.ledger :=
  State.retryProducers_moves (s.setLine s.line.reportLost)

/-! ### The capture engines -/

theorem State.dropOpen_moves (s : State) (v : InputNo) : s.ledger.Moves (s.dropOpen v).ledger := by
  have hs : ((s.noteDrop v .bufferFull).checkRunEnd v).ledger = s.ledger := by simp
  exact (hs ▸ State.checkSettled_moves _ v).trans (State.arbiterAfter_moves _ s)

theorem State.closeFrame_moves (s : State) (v : InputNo) (f : OpenFrame) (flags : FrameFlags) (after : Engine) :
    s.ledger.Moves (s.closeFrame v f flags after).ledger := by
  unfold State.closeFrame
  simp only []
  split
  · exact .of_eq (State.setInput_ledger_of_hold rfl)
  · rename_i c _
    generalize hs : (s.setInput v _).setCaptures (s.captures ++ [f.close v flags c]) = u
    have hu : u.ledger = s.ledger := by
      rw [← hs, State.setCaptures_ledger]
      exact State.setInput_ledger_of_hold rfl
    split
    · exact hu ▸ u.dispatch_moves
    · exact .of_eq hu

theorem State.storeCell_moves (s : State) (v : InputNo) (f : OpenFrame) (d : Nat) :
    s.ledger.Moves (s.storeCell v f d).ledger := by
  unfold State.storeCell
  simp only []
  split
  · split
    · exact .of_eq (State.setInput_ledger_of_hold rfl)
    · exact s.closeFrame_moves ..
  · exact s.dropOpen_moves v

theorem State.acceptChange_moves (s : State) (v : InputNo) (edge : Nat) :
    s.ledger.Moves (s.acceptChange v edge).ledger := by
  have hs : (s.setInput v ((s.input v).change edge)).ledger = s.ledger := State.setInput_ledger_of_hold rfl
  unfold State.acceptChange
  simp only []
  split
  · split
    · exact .of_eq (by rw [State.markStart_ledger, hs])
    · exact .of_eq hs
  · exact hs ▸ State.storeCell_moves ..
  · exact .of_eq hs

theorem State.closeAtEndGap_moves (s : State) (v : InputNo) : s.ledger.Moves (s.closeAtEndGap v).ledger := by
  unfold State.closeAtEndGap
  split
  · split
    · exact s.closeFrame_moves ..
    · exact .refl
  all_goals exact .refl

theorem State.closeStuck_moves (s : State) (v : InputNo) : s.ledger.Moves (s.closeStuck v).ledger := by
  unfold State.closeStuck
  split
  · split
    · split
      · exact s.closeFrame_moves ..
      · exact s.dropOpen_moves v
    · exact .refl
  all_goals exact .refl

theorem State.takeWaitingClosing_moves (s : State) (v : InputNo) : s.ledger.Moves (s.takeWaitingClosing v).ledger := by
  unfold State.takeWaitingClosing
  split
  · split
    · exact s.closeAtEndGap_moves v
    · exact s.closeStuck_moves v
  · exact .of_eq (s.endDiscard_ledger v)
  · exact .refl

theorem State.acceptDue_moves (s : State) (v : InputNo) : s.ledger.Moves (s.acceptDue v).ledger := by
  unfold State.acceptDue
  split
  · split
    · exact s.acceptChange_moves ..
    · exact .refl
  · exact .refl

theorem State.rawEdge_moves (s : State) (v : InputNo) (level : Level) : s.ledger.Moves (s.rawEdge v level).ledger := by
  have hs : ∀ trial, (s.setInput v { s.input v with raw := level, trial := trial }).ledger = s.ledger :=
    fun _ => State.setInput_ledger_of_hold rfl
  unfold State.rawEdge
  simp only []
  split
  · exact hs _ ▸ State.takeWaitingClosing_moves ..
  · exact hs _ ▸ State.acceptDue_moves ..

/-! ### Receiving -/

theorem State.acknowledge_moves (s : State) (tag : Byte) : s.ledger.Moves (s.acknowledge tag).ledger := by
  unfold State.acknowledge
  split
  · rename_i left _
    exact State.entriesFreed_moves (s.setLine (s.line.acknowledged left (s.timer s.params.ackTimeout)))
  · exact .refl

@[simp] theorem State.endHeld_ledger (s : State) : s.endHeld.ledger = s.ledger := rfl
@[simp] theorem State.setFramer_ledger (s : State) (f : Framer) : (s.setFramer f).ledger = s.ledger := rfl
@[simp] theorem State.discardPartial_ledger (s : State) : s.discardPartial.ledger = s.ledger := by
  simp [State.discardPartial]

@[simp] theorem State.admitCommand_ledger (s : State) (c : CommandFrame) : (s.admitCommand c).ledger = s.ledger := by
  unfold State.admitCommand
  split <;> simp

theorem State.checkFrame_moves (s : State) (len kind tag type : Byte) (payload : List Byte) (crc : Word16) :
    s.ledger.Moves (s.checkFrame len kind tag type payload crc).ledger := by
  unfold State.checkFrame
  split
  · exact .of_eq (by simp)
  · split
    · exact s.acknowledge_moves tag
    · split <;> exact .of_eq (by simp)

theorem State.checkBytes_moves (s : State) (len : Byte) (bytes : List Byte) (crc : Word16) :
    s.ledger.Moves (s.checkBytes len bytes crc).ledger := by
  unfold State.checkBytes
  split
  · exact s.checkFrame_moves ..
  all_goals exact .refl

theorem State.frameByte_moves (s : State) (b : Byte) : s.ledger.Moves (s.frameByte b).ledger := by
  unfold State.frameByte
  split
  · split <;> exact .refl
  · split <;> exact .of_eq (by simp)
  · split <;> exact .refl
  · exact .refl
  · exact State.checkBytes_moves (s.setFramer .hunt) ..

theorem State.receiveByte_moves (s : State) (b : Byte) : s.ledger.Moves (s.receiveByte b).ledger := by
  have hs : (if s.gapPassed then s.discardPartial else s).ledger = s.ledger := by split <;> simp
  unfold State.receiveByte
  simp only []
  generalize (if s.gapPassed then s.discardPartial else s) = u at hs
  exact hs ▸ State.frameByte_moves (u.setLine { u.line with lastByte := s.clock }) b

end Sys2Proof.Machine
end

section
/-! PROOFS. Every command is one opening or a run of moves, and so is every step. -/

namespace Sys2Proof.Machine

/-! ### The command interpreter -/

@[simp] theorem State.popCommand_ledger (s : State) : s.popCommand.ledger = s.ledger := rfl
@[simp] theorem State.sendFrame_ledger (s : State) (f : OutFrame) : (s.sendFrame f).ledger = s.ledger := rfl
@[simp] theorem State.answer_state (s : State) (p : List Byte) : (s.answer p).state = s := rfl
@[simp] theorem State.answerThenArbitrate_state (s : State) (p : List Byte) : (s.answerThenArbitrate p).state = s := rfl
@[simp] theorem State.refuse_state (s : State) (st : Status) (p : List Byte) : (s.refuse st p).state = s := rfl
@[simp] theorem State.answer_arbiter (s : State) (p : List Byte) : (s.answer p).arbiter = false := rfl
@[simp] theorem State.refuse_arbiter (s : State) (st : Status) (p : List Byte) : (s.refuse st p).arbiter = false := rfl

@[simp] theorem State.setReplay_ledger (s : State) (r : Option Replay) : (s.setReplay r).ledger = s.ledger := rfl

/-- Creating and recording a reply leaves the ledger; a run of the arbiter may follow (R166). -/
theorem State.finish_cases (a : Answer) (c : CommandFrame) :
    ∃ u : State, u.ledger = a.state.ledger ∧ State.finish a c = if a.arbiter then u.runArbiter else u :=
  ⟨_, by split <;> rfl, rfl⟩

theorem State.finish_moves (a : Answer) (c : CommandFrame) : a.state.ledger.Moves (State.finish a c).ledger := by
  obtain ⟨u, hu, he⟩ := State.finish_cases a c
  rw [he, ← hu]
  split
  · exact u.runArbiter_moves
  · exact .refl

theorem State.finish_ledger {a : Answer} (h : a.arbiter = false) (c : CommandFrame) :
    (State.finish a c).ledger = a.state.ledger := by
  obtain ⟨u, hu, he⟩ := State.finish_cases a c
  simpa [he, h] using hu

/-- The interpreter does to the ledger what it does with the head of the FIFO, and else nothing (R166). -/
theorem State.takeCommand_ledger (s : State) (i : Instr) (form : List Byte → Bool) (act : List Byte → State → Answer) :
    (s.takeCommand i form act).ledger = s.ledger ∨
      ∃ c : CommandFrame, s.takeCommand i form act = State.finish (act c.payload s.popCommand) c := by
  unfold State.takeCommand
  split
  · exact .inl rfl
  · rename_i c _ _
    split
    · unfold State.interpret
      split
      · exact .inl rfl
      · split
        · exact .inr ⟨c, rfl⟩
        · exact .inl (State.finish_ledger rfl c)
    · exact .inl rfl

theorem State.takeCommand_moves {i : Instr} {form : List Byte → Bool} {act : List Byte → State → Answer}
    (h : ∀ (p : List Byte) (u : State), u.ledger.Moves (act p u).state.ledger) (s : State) : s.ledger.Moves (s.takeCommand i form act).ledger := by
  obtain he | ⟨c, he⟩ := s.takeCommand_ledger i form act
  · exact .of_eq he
  · exact he ▸ (h c.payload s.popCommand).trans (State.finish_moves _ c)

theorem State.takeCommand_turn {i : Instr} {form : List Byte → Bool} {act : List Byte → State → Answer}
    (h : ∀ (p : List Byte) (u : State), (act p u).arbiter = false ∧ u.ledger.Turn (act p u).state.ledger) (s : State) :
    s.ledger.Turn (s.takeCommand i form act).ledger := by
  obtain he | ⟨c, he⟩ := s.takeCommand_ledger i form act
  · exact .moves (.of_eq he)
  · obtain ⟨ha, ht⟩ := h c.payload s.popCommand
    rw [he, State.finish_ledger ha c]
    exact ht

/-! ### The commands of the code table -/

theorem Ledger.Turn.of_eq {L L' : Ledger} (h : L' = L) : L.Turn L' :=
  .moves (.of_eq h)

theorem actCodeOpen_turn (p : List Byte) (s : State) :
    (actCodeOpen p s).arbiter = false ∧ s.ledger.Turn (actCodeOpen p s).state.ledger := by
  unfold actCodeOpen
  split
  · exact ⟨rfl, .of_eq rfl⟩
  · rename_i i _
    split
    · exact ⟨rfl, .of_eq rfl⟩
    · rename_i hempty
      split
      · exact ⟨rfl, .of_eq rfl⟩
      · rename_i hfree
        split
        · exact ⟨rfl, .of_eq rfl⟩
        · rename_i h _
          split
          · exact ⟨rfl, .of_eq rfl⟩
          · rename_i hroom
            have hopen := Ledger.Opening.load (L := s.ledger) (l :=
              { slot := i, header := h, nextOffset := 0, checksum := crcStart, idle := s.idleTimer })
              (not_not.mp hempty) hfree (not_lt.mp hroom) rfl rfl
            exact ⟨rfl, .opening hopen⟩

@[simp] theorem State.extendSlot_ledger (s : State) (i : SlotNo) (cells : List Nat) :
    (s.extendSlot i cells).ledger = s.ledger.put i ((s.slot i).extended cells) := by
  have hself := s.ledger_put_slot i
  unfold State.extendSlot
  cases h : s.slot i with
  | loading h got => rfl
  | empty | learning | ready _ | retiring _ => rw [h] at hself; exact hself.symm

@[simp] theorem State.abandonLoad_ledger (s : State) (i : SlotNo) :
    (s.abandonLoad i).ledger = (s.ledger.put i (s.slot i).unloaded).setLoad none := by
  have hself := s.ledger_put_slot i
  unfold State.abandonLoad
  cases h : s.slot i with
  | loading h got => rfl
  | empty | learning | ready _ | retiring _ => rw [h] at hself; simp [Slot.unloaded, hself]

@[simp] theorem State.completeLoad_ledger (s : State) (l : LoadContext) :
    (s.completeLoad l).ledger = (s.ledger.put l.slot ((s.slot l.slot).loaded l.checksum)).setLoad none := by
  have hself := s.ledger_put_slot l.slot
  unfold State.completeLoad
  cases h : s.slot l.slot with
  | loading h got => rfl
  | empty | learning | ready _ | retiring _ => rw [h] at hself; simp [Slot.loaded, hself]

/-- A load context that a slot number names is the one in use, on that slot (R23, R26). -/
theorem State.loadOf_eq_some {s : State} {n : Nat} {l : LoadContext} (h : s.loadOf n = some l) :
    s.table.load = some l ∧ l.slot.val = n := by
  unfold State.loadOf at h
  split at h
  · split at h
    · cases h
      exact ⟨‹_›, ‹_›⟩
    · cases h
  · cases h

theorem actCodeData_moves (p : List Byte) (s : State) : s.ledger.Moves (actCodeData p s).state.ledger := by
  unfold actCodeData
  split
  · exact .refl
  · rename_i l hl
    obtain ⟨hinUse, _⟩ := State.loadOf_eq_some hl
    simp only []
    split
    · exact .refl
    · rename_i hoffset
      split
      · exact .refl
      · rename_i hfits
        split
        · exact .refl
        · rename_i hlong
          have hlong' : cellsLongEnough (cellsAt p 4 (byteAt p 3)) := fun d hd => by
            simpa using List.findIdx?_eq_none_iff.mp hlong d hd
          rw [not_not.mp hoffset] at hfits
          have hstore := Ledger.Move.store (L := s.ledger) (idle := s.idleTimer) hinUse (not_lt.mp hfits) hlong'
          simp only [State.answer_state, State.storeSegment, State.setLoad_ledger, State.extendSlot_ledger]
          exact .single hstore

theorem actCodeClose_moves (p : List Byte) (s : State) : s.ledger.Moves (actCodeClose p s).state.ledger := by
  unfold actCodeClose
  split
  · exact .refl
  · rename_i l hl
    obtain ⟨hinUse, _⟩ := State.loadOf_eq_some hl
    split
    · exact .refl
    · rename_i hall
      split
      · rw [State.answer_state, State.abandonLoad_ledger]
        exact .single (.abandon (.inl ⟨l, hinUse, rfl⟩))
      · rw [State.answer_state, State.completeLoad_ledger]
        exact .single (.complete hinUse (not_not.mp hall))

theorem execLoadIdleTimerExpiry_moves (s : State) :
    ∃ t, execLoadIdleTimerExpiry s = .next t ∧ s.ledger.Moves t.ledger := by
  refine ⟨_, rfl, ?_⟩
  split
  · rename_i l hinUse
    split
    · rw [State.produce_ledger, State.abandonLoad_ledger]
      exact .single (.abandon (.inl ⟨l, hinUse, rfl⟩))
    · exact .refl
  · exact .refl

theorem State.eraseSlot_moves (s : State) (i : SlotNo) : s.ledger.Moves (s.eraseSlot i).ledger := by
  unfold State.eraseSlot
  cases hs : s.slot i with
  | empty | retiring _ => exact .refl
  | loading h cells =>
    simp only [State.abandonLoad_ledger]
    exact .single (.abandon (.inr ⟨h, cells, hs⟩))
  | learning =>
    simp only [State.eraseLearning]
    split
    · rename_i x hx
      split
      · exact State.endLearn_moves hx ..
      · rename_i hne
        exact .single (.clearLearning hs fun y hy => by
          obtain rfl : x = y := Option.some_injective _ (hx.symm.trans hy)
          exact hne)
    · rename_i hnone
      exact .single (.clearLearning hs fun y hy => nomatch hnone.symm.trans hy)
  | ready c =>
    simp only []
    split
    · exact .single (.erase hs ‹_›)
    · exact .single (.defer hs ‹_›)

theorem actCodeErase_moves (p : List Byte) (s : State) : s.ledger.Moves (actCodeErase p s).state.ledger := by
  unfold actCodeErase
  split
  · exact .refl
  · exact s.eraseSlot_moves _

theorem actCodeAmend_moves (p : List Byte) (s : State) : s.ledger.Moves (actCodeAmend p s).state.ledger := by
  unfold actCodeAmend
  split
  · exact .refl
  · split
    · rename_i c hs
      split
      · split
        · exact .single (.amend _ _ _ hs)
        · exact .refl
      · exact .refl
    all_goals exact .refl

theorem execCodeRetired_moves (i : SlotNo) (s : State) :
    ∃ t, execCodeRetired i s = .next t ∧ s.ledger.Moves t.ledger := by
  refine ⟨_, rfl, ?_⟩
  split
  · rename_i c hs
    split
    · exact .single (.retire hs ‹_›)
    · exact .refl
  all_goals exact .refl

/-! ### The commands of jobs and zones -/

/-- A request read from an EMIT payload names the slot it was read for (R38). -/
theorem requestOf_slot {p : List Byte} {i : SlotNo} {r : EmitRequest} (h : requestOf p i = some r) : r.slot = i := by
  unfold requestOf at h
  split at h
  · split at h <;> cases h
    rfl
  · cases h

theorem State.emitLast_moves {s : State} {r : EmitRequest} {c : Code} (hc : s.slot r.slot = .ready c) :
    s.ledger.Moves (s.emitLast r c).state.ledger := by
  have henqueue : (∀ v, r.verifyInput = some v → s.inputFree v = true) → s.ledger.Moves
      (if s.jobs.length < Config.jobPlaces then
        (s.admitJob r).answerThenArbitrate (reply .ok (u8 (s.newJob r).id ++ u8 (s.admitJob r).jobs.length))
      else s.refuse .queueFull (u8 r.slot.val ++ u8 s.jobs.length)).state.ledger := by
    intro hv
    split
    · exact State.admitJob_moves hc ‹_› hv
    · exact .refl
  unfold State.emitLast
  simp only []
  split
  · rename_i hnone
    exact henqueue fun v hv => nomatch hnone.symm.trans hv
  · rename_i v hsome
    split
    · exact .refl
    · rename_i hfree
      split
      · exact .refl
      · refine henqueue fun w hw => ?_
        obtain rfl : v = w := Option.some_injective _ (hsome.symm.trans hw)
        simpa using hfree

theorem State.emitOn_moves {s : State} {p : List Byte} {i : SlotNo} {c : Code} (hc : s.slot i = .ready c) :
    s.ledger.Moves (s.emitOn p i c).state.ledger := by
  unfold State.emitOn
  split
  · exact .refl
  · rename_i r hr
    obtain rfl := requestOf_slot hr
    split
    · exact .refl
    · split
      · exact .refl
      · split
        · exact .refl
        · exact State.emitLast_moves hc

theorem actEmit_moves (p : List Byte) (s : State) : s.ledger.Moves (actEmit p s).state.ledger := by
  unfold actEmit
  split
  · exact .refl
  · split
    · exact State.emitOn_moves ‹_›
    all_goals exact .refl

theorem actJobKeep_ledger (p : List Byte) (s : State) : (actJobKeep p s).state.ledger = s.ledger := by
  unfold actJobKeep
  repeat' split
  all_goals simp

theorem actJobRelease_ledger (p : List Byte) (s : State) : (actJobRelease p s).state.ledger = s.ledger := by
  have hrelease : ∀ id, (s.updateJob id Job.release).ledger = s.ledger := fun _ =>
    State.updateJob_ledger_of_brief fun j _ _ => j.release_brief
  unfold actJobRelease
  repeat' split
  all_goals simp [hrelease]

theorem actJobCancel_moves (p : List Byte) (s : State) : s.ledger.Moves (actJobCancel p s).state.ledger := by
  unfold actJobCancel
  split
  · exact .refl
  · rename_i j hj
    exact State.cancelJob_moves (State.job?_id hj ▸ hj)

theorem actZoneEnable_ledger (p : List Byte) (s : State) : (actZoneEnable p s).state.ledger = s.ledger := by
  unfold actZoneEnable
  simp only []
  repeat' split
  all_goals simp

theorem actZoneDisable_moves (p : List Byte) (s : State) : s.ledger.Moves (actZoneDisable p s).state.ledger := by
  unfold actZoneDisable
  simp only []
  split
  · exact .refl
  · exact s.disableZones_moves _

/-! ### The commands of inputs and of the learner -/

/-- An input mode that INPUT_MODE can give takes no input (R126). -/
theorem inputModeOf_untaken {n : Nat} {m : InputMode} (h : inputModeOf n = some m) : m.isTaken = false := by
  unfold inputModeOf at h
  split at h <;> cases h <;> rfl

theorem State.setMode_ledger (s : State) (v : InputNo) (m : InputMode) (mask : ZoneSet) :
    (s.setMode v m mask).ledger = s.ledger.setHold v { s.ledger.holds v with mode := m } := by
  unfold State.setMode
  simp only []
  split <;> simp [RxInput.hold]

theorem actInputMode_moves (p : List Byte) (s : State) : s.ledger.Moves (actInputMode p s).state.ledger := by
  unfold actInputMode
  split
  · exact .refl
  · split
    · exact .refl
    · rename_i m hm
      simp only []
      split
      · exact .refl
      · rename_i huntaken
        rw [State.answer_state, State.setMode_ledger]
        exact .single (.setMode (by simpa [RxInput.hold] using huntaken) (inputModeOf_untaken hm))

theorem State.startLearn_ledger (s : State) (x : LearnContext) :
    (s.startLearn x).ledger = ((s.ledger.put x.slot .learning).setLearn (some x)).takeInput x.input .learn := by
  simp [State.startLearn]

theorem actLearn_turn (p : List Byte) (s : State) :
    (actLearn p s).arbiter = false ∧ s.ledger.Turn (actLearn p s).state.ledger := by
  unfold actLearn
  split
  · rename_i v i _ _
    unfold State.learnOn
    split
    · exact ⟨rfl, .of_eq rfl⟩
    · rename_i hempty
      split
      · exact ⟨rfl, .of_eq rfl⟩
      · rename_i hfree
        split
        · exact ⟨rfl, .of_eq rfl⟩
        · rename_i hlearnable
          split
          · exact ⟨rfl, .of_eq rfl⟩
          · have hl : (s.input v).mode.isTaken = false ∧ ∀ j ∈ s.jobs, j.verifyInput ≠ some v := by
              simpa [State.learnable, State.namedByJob] using hlearnable
            refine ⟨rfl, .opening ?_⟩
            simp only [State.answer_state, State.startLearn_ledger]
            refine .learn (not_not.mp hempty) hfree hl.1 fun b hb => ?_
            obtain ⟨j, hj, rfl⟩ := List.mem_map.mp hb
            exact hl.2 j hj
  · exact ⟨rfl, .of_eq rfl⟩

theorem actLearnCancel_moves (p : List Byte) (s : State) : s.ledger.Moves (actLearnCancel p s).state.ledger := by
  unfold actLearnCancel
  split
  · exact .refl
  · exact State.endLearn_moves ‹_› ..

theorem execLearnDeadline_moves (s : State) : ∃ t, execLearnDeadline s = .next t ∧ s.ledger.Moves t.ledger := by
  refine ⟨_, rfl, ?_⟩
  split
  · split
    · exact State.endLearn_moves ‹_› ..
    · exact .refl
  · exact .refl

/-! ### Restarts, parameters and the selection -/

theorem State.cutRunning_ledger (s : State) (j : Job) : (s.cutRunning j).ledger = s.ledger := by
  unfold State.cutRunning
  split <;> simp

theorem State.restartActivity_ledger (s : State) : s.restartActivity.ledger = s.ledger.restart := by
  have hcut : (s.jobs.foldl State.cutRunning s).ledger = s.ledger := foldl_ledger State.cutRunning_ledger _ s
  have hholds : ∀ v, ((s.jobs.foldl State.cutRunning s).input v).hold = (s.input v).hold := fun v =>
    congrFun (congrArg Ledger.holds hcut) v
  have htable : (s.jobs.foldl State.cutRunning s).table = s.table := congrArg Ledger.table hcut
  have hinput : ∀ v, (s.restartActivity.input v).hold = s.ledger.restart.holds v := by
    intro v
    have hv := hholds v
    simp only [RxInput.hold, Hold.mk.injEq] at hv
    obtain ⟨hmode, hsaved, _⟩ := hv
    have hr : s.restartActivity.input v = ((s.jobs.foldl State.cutRunning s).input v).afterRestart
        ((s.jobs.foldl State.cutRunning s).endGap v) := by
      match v with
      | 0 => rfl
      | 1 => rfl
    simp [hr, RxInput.hold, RxInput.afterRestart, Ledger.restart, hmode, hsaved]
  have ht : s.restartActivity.table = s.table.afterRestart := by
    rw [← htable]
    rfl
  simp only [State.ledger, Ledger.restart] at hinput ⊢
  simp only [ht, hinput]
  rfl

theorem State.takeDefaults_ledger {s : State} (hj : s.jobs = []) (hn : s.nextId = 1)
    (hs : ∀ v, (s.input v).hold.saved = none ∧ (s.input v).hold.bound = none) : s.takeDefaults.ledger = .fresh := by
  have hholds : ∀ v, (s.takeDefaults.input v).hold = Ledger.fresh.holds v := by
    intro v
    obtain ⟨hsaved, hbound⟩ := hs v
    have hr : s.takeDefaults.input v = (s.input v).afterFull := mapVector_getElem _ _ v.val v.isLt
    simp only [RxInput.hold] at hsaved hbound
    simp [hr, RxInput.hold, RxInput.afterFull, Ledger.fresh, hsaved, hbound]
  simp only [State.ledger, hholds]
  simp [State.takeDefaults, Ledger.fresh, hj, hn]

theorem State.restartLink_moves (s : State) (cause : StartCause) : s.ledger.Moves (s.restartLink cause).ledger :=
  State.retryProducers_moves (s.setLine (s.line.restarted cause s.now))

theorem State.restartFull_moves (s : State) : s.ledger.Moves s.restartFull.ledger := by
  have hl := s.restartActivity_ledger
  have hholds : ∀ v, (s.restartActivity.input v).hold = s.ledger.restart.holds v := fun v =>
    congrFun (congrArg Ledger.holds hl) v
  have hfresh : s.restartActivity.takeDefaults.ledger = .fresh :=
    State.takeDefaults_ledger rfl rfl fun v => by simp [hholds, Ledger.restart]
  exact .head .reset (hfresh ▸ State.restartLink_moves _ _)

theorem State.powered_ledger (straps : BitVec 2) (a b : Level) (cause : Byte) (draw : Nat) (pending : List Instr) :
    (State.powered straps a b cause draw pending).ledger = .fresh := by
  have hholds : ∀ v, ((State.powered straps a b cause draw pending).input v).hold = Ledger.fresh.holds v := fun v =>
    match v with
    | 0 => rfl
    | 1 => rfl
  simp only [State.ledger, hholds]
  rfl

theorem actRestartLink_moves (p : List Byte) (s : State) : s.ledger.Moves (actRestartLink p s).state.ledger := by
  unfold actRestartLink
  split
  · exact s.restartLink_moves _
  · exact .refl

theorem actRestartActivity_moves (p : List Byte) (s : State) : s.ledger.Moves (actRestartActivity p s).state.ledger :=
  .single (s.restartActivity_ledger ▸ .restart)

theorem State.storeParam_moves (s : State) (q : ParamId) (n : Nat) : s.ledger.Moves (s.storeParam q n).ledger := by
  unfold State.storeParam State.afterParam
  split
  · exact .of_eq (by simp)
  · split
    · exact State.dispatch_moves (s.setParams (s.params.set q n))
    · exact .refl

theorem actSetParam_moves (p : List Byte) (s : State) : s.ledger.Moves (actSetParam p s).state.ledger := by
  unfold actSetParam
  split
  · exact .refl
  · split
    · exact s.storeParam_moves _ _
    · exact .refl

theorem actReportSelect_moves (p : List Byte) (s : State) : s.ledger.Moves (actReportSelect p s).state.ledger := by
  unfold actReportSelect
  simp only []
  split
  · exact State.recheckProducers_moves (s.setLine { s.line with categories := p.getD 0 0#8 })
  · exact .refl

/-! ### Every command, and every step -/

theorem actGetParam_ledger (p : List Byte) (s : State) : (actGetParam p s).state.ledger = s.ledger := by
  unfold actGetParam
  split <;> rfl

theorem actCodeInfo_ledger (p : List Byte) (s : State) : (actCodeInfo p s).state.ledger = s.ledger := by
  unfold actCodeInfo
  split <;> rfl

theorem actCodeRead_ledger (p : List Byte) (s : State) : (actCodeRead p s).state.ledger = s.ledger := by
  unfold actCodeRead
  simp only []
  repeat' split
  all_goals rfl

theorem actJobInfo_ledger (p : List Byte) (s : State) : (actJobInfo p s).state.ledger = s.ledger := by
  unfold actJobInfo
  split <;> rfl

theorem actZoneInfo_ledger (p : List Byte) (s : State) : (actZoneInfo p s).state.ledger = s.ledger := by
  unfold actZoneInfo
  split <;> rfl

theorem actDerateGet_ledger (p : List Byte) (s : State) : (actDerateGet p s).state.ledger = s.ledger := by
  unfold actDerateGet
  split <;> rfl

theorem actInputInfo_ledger (p : List Byte) (s : State) : (actInputInfo p s).state.ledger = s.ledger := by
  unfold actInputInfo
  split <;> rfl

theorem actDerateSet_ledger (p : List Byte) (s : State) : (actDerateSet p s).state.ledger = s.ledger := by
  unfold actDerateSet
  split
  · rfl
  · split <;> rfl

theorem State.htxFrameSent_ledger (s : State) : ∃ t, execHtxFrameSent s = .next t ∧ t.ledger = s.ledger := by
  refine ⟨_, rfl, ?_⟩
  split <;> rfl

theorem execKeepTimerExpiry_moves (id : Nat) (s : State) :
    ∃ t, execKeepTimerExpiry id s = .next t ∧ s.ledger.Moves t.ledger := by
  refine ⟨_, rfl, ?_⟩
  split
  · rename_i j hj
    split
    · exact State.lapseKeep_moves (State.job?_id hj ▸ hj)
    · exact .refl
  · exact .refl

theorem execHoldLimitExpiry_moves (id : Nat) (s : State) :
    ∃ t, execHoldLimitExpiry id s = .next t ∧ s.ledger.Moves t.ledger := by
  refine ⟨_, rfl, ?_⟩
  split
  · rename_i j hj
    split
    · exact State.reachHoldLimit_moves (State.job?_id hj ▸ hj)
    · exact .refl
  · exact .refl

theorem execPauseLimitExpiry_moves (id : Nat) (s : State) :
    ∃ t, execPauseLimitExpiry id s = .next t ∧ s.ledger.Moves t.ledger := by
  refine ⟨_, rfl, ?_⟩
  split
  · split
    · exact s.endThenArbitrate_moves _ _
    · exact .refl
  · exact .refl

theorem execGuardExpiry_moves (z : ZoneNo) (s : State) : ∃ t, execGuardExpiry z s = .next t ∧ s.ledger.Moves t.ledger := by
  refine ⟨_, rfl, ?_⟩
  split
  · split
    · exact State.runArbiter_moves (s.setZone z { s.zone z with state := .idle })
    · exact .refl
  all_goals exact .refl

theorem execJobStart_moves (id : Nat) (s : State) : ∃ t, execJobStart id s = .next t ∧ s.ledger.Moves t.ledger := by
  refine ⟨_, rfl, ?_⟩
  split
  · rename_i j h g hf
    obtain ⟨hmem, hwaits⟩ := State.firstStart_mem hf
    split
    · rw [State.startJob_ledger]
      exact .single (.start (b := j.brief) (List.mem_map_of_mem hmem) (Job.brief_waiting hwaits))
    · exact .refl
  · exact .refl

theorem execCellEnd_ledger (id : Nat) (s : State) : ∃ t, execCellEnd id s = .next t ∧ t.ledger = s.ledger := by
  refine ⟨_, rfl, ?_⟩
  repeat' split
  all_goals simp

theorem execFrameBoundary_moves (id : Nat) (s : State) :
    ∃ t, execFrameBoundary id s = .next t ∧ s.ledger.Moves t.ledger := by
  refine ⟨_, rfl, ?_⟩
  split
  · exact .refl
  · rename_i j _
    split
    · rename_i p c _ _
      split
      · split
        · have hcount : (s.updateJob id fun k => k.countFrame p.kind).ledger = s.ledger :=
            State.updateJob_ledger_of_brief fun k _ _ => k.countFrame_brief p.kind
          exact hcount ▸ State.decideBoundary_moves _ _ c.header
        · exact .refl
      all_goals exact .refl
    · exact .refl

theorem execDecayStep_moves (z : ZoneNo) (s : State) : ∃ t, execDecayStep z s = .next t ∧ s.ledger.Moves t.ledger := by
  have hdecay : s.ledger.Moves (s.decay z).ledger := .of_eq (s.decay_ledger z)
  refine ⟨_, rfl, ?_⟩
  split
  · split
    · exact hdecay.trans (State.checkPause_moves _ _)
    all_goals exact hdecay
  · exact .refl

theorem execRxRawEdge_moves (v : InputNo) (level : Level) (s : State) :
    ∃ t, execRxRawEdge v level s = .next t ∧ s.ledger.Moves t.ledger := by
  refine ⟨_, rfl, ?_⟩
  split
  · exact .refl
  · exact (s.acceptDue_moves v).trans (State.rawEdge_moves _ v level)

theorem execRepeatWindowElapse_ledger (v : InputNo) (s : State) :
    ∃ t, execRepeatWindowElapse v s = .next t ∧ t.ledger = s.ledger := by
  refine ⟨_, rfl, ?_⟩
  split
  · split <;> simp
  · rfl

theorem execHrxByte_moves (b : Byte) (stopHigh : Bool) (s : State) :
    ∃ t, execHrxByte b stopHigh s = .next t ∧ s.ledger.Moves t.ledger := by
  refine ⟨_, rfl, ?_⟩
  split
  · exact s.receiveByte_moves b
  · exact .refl

/-- A next state to which a run of moves leads is one to which a turn leads. -/
theorem turn_of_moves {s : State} {o : Host.Outcome State Fault Refusal} (h : ∃ t, o = .next t ∧ s.ledger.Moves t.ledger) :
    ∃ t, o = .next t ∧ s.ledger.Turn t.ledger :=
  h.imp fun _ ht => ⟨ht.1, .moves ht.2⟩

/-- A next state with the same ledger is one to which a turn leads. -/
theorem turn_of_ledger {s : State} {o : Host.Outcome State Fault Refusal} (h : ∃ t, o = .next t ∧ t.ledger = s.ledger) :
    ∃ t, o = .next t ∧ s.ledger.Turn t.ledger :=
  h.imp fun _ ht => ⟨ht.1, .of_eq ht.2⟩

/-- A command whose effect is a run of moves. -/
theorem turn_of_act {i : Instr} {form : List Byte → Bool} {act : List Byte → State → Answer} (s : State)
    (h : ∀ (p : List Byte) (u : State), u.ledger.Moves (act p u).state.ledger) :
    ∃ t, Host.Outcome.next (s.takeCommand i form act) = (.next t : Host.Outcome State Fault Refusal) ∧
      s.ledger.Turn t.ledger :=
  ⟨_, rfl, .moves (State.takeCommand_moves h s)⟩

/-- A command that changes nothing in the ledger. -/
theorem turn_of_inquiry {i : Instr} {form : List Byte → Bool} {act : List Byte → State → Answer} (s : State)
    (h : ∀ (p : List Byte) (u : State), (act p u).state.ledger = u.ledger) :
    ∃ t, Host.Outcome.next (s.takeCommand i form act) = (.next t : Host.Outcome State Fault Refusal) ∧
      s.ledger.Turn t.ledger :=
  turn_of_act s fun p u => .of_eq (h p u)

/-- Every command answers a next state, to whose ledger one opening or a run of moves leads. -/
theorem exec_turn (i : Instr) (s : State) : ∃ t, exec i s = .next t ∧ s.ledger.Turn t.ledger := by
  cases i with
  | powerOn straps a b => exact ⟨_, rfl, .moves (.single (State.powered_ledger .. ▸ .reset))⟩
  | resetPin straps a b => exact ⟨_, rfl, .moves (.single (State.powered_ledger .. ▸ .reset))⟩
  | messageFrame f => exact ⟨_, rfl, .moves (foldl_moves State.receiveByte_moves _ s)⟩
  | byteTimeout => exact ⟨_, rfl, .of_eq (by split <;> simp)⟩
  | badMessage => exact turn_of_inquiry s fun _ _ => rfl
  | identify => exact turn_of_inquiry s fun _ _ => rfl
  | time => exact turn_of_inquiry s fun _ _ => rfl
  | setParam => exact turn_of_act s actSetParam_moves
  | getParam => exact turn_of_inquiry s actGetParam_ledger
  | reportSelect => exact turn_of_act s actReportSelect_moves
  | restartLink => exact turn_of_act s actRestartLink_moves
  | restartActivity => exact turn_of_act s actRestartActivity_moves
  | restartFull => exact turn_of_act s fun _ u => u.restartFull_moves
  | codeOpen => exact ⟨_, rfl, State.takeCommand_turn actCodeOpen_turn s⟩
  | codeData => exact turn_of_act s actCodeData_moves
  | codeClose => exact turn_of_act s actCodeClose_moves
  | codeErase => exact turn_of_act s actCodeErase_moves
  | codeAmend => exact turn_of_act s actCodeAmend_moves
  | codeInfo => exact turn_of_inquiry s actCodeInfo_ledger
  | codeRead => exact turn_of_inquiry s actCodeRead_ledger
  | poolInfo => exact turn_of_inquiry s fun _ _ => rfl
  | emit => exact turn_of_act s actEmit_moves
  | jobKeep => exact turn_of_inquiry s actJobKeep_ledger
  | jobRelease => exact turn_of_inquiry s actJobRelease_ledger
  | jobCancel => exact turn_of_act s actJobCancel_moves
  | jobInfo => exact turn_of_inquiry s actJobInfo_ledger
  | jobList => exact turn_of_inquiry s fun _ _ => rfl
  | zoneEnable => exact turn_of_inquiry s actZoneEnable_ledger
  | zoneDisable => exact turn_of_act s actZoneDisable_moves
  | zoneInfo => exact turn_of_inquiry s actZoneInfo_ledger
  | derateSet => exact turn_of_inquiry s actDerateSet_ledger
  | derateGet => exact turn_of_inquiry s actDerateGet_ledger
  | inputMode => exact turn_of_act s actInputMode_moves
  | inputInfo => exact turn_of_inquiry s actInputInfo_ledger
  | learn => exact ⟨_, rfl, State.takeCommand_turn actLearn_turn s⟩
  | learnCancel => exact turn_of_act s actLearnCancel_moves
  | htxFrameSent => exact turn_of_ledger s.htxFrameSent_ledger
  | reportSend => exact ⟨_, rfl, .of_eq (by split <;> rfl)⟩
  | ackTimerExpiry => exact ⟨_, rfl, .of_eq (by split <;> rfl)⟩
  | loadIdleTimerExpiry => exact turn_of_moves (execLoadIdleTimerExpiry_moves s)
  | keepTimerExpiry id => exact turn_of_moves (execKeepTimerExpiry_moves id s)
  | holdLimitExpiry id => exact turn_of_moves (execHoldLimitExpiry_moves id s)
  | pauseLimitExpiry id => exact turn_of_moves (execPauseLimitExpiry_moves id s)
  | guardExpiry z => exact turn_of_moves (execGuardExpiry_moves z s)
  | jobStart id => exact turn_of_moves (execJobStart_moves id s)
  | cellEnd id => exact turn_of_ledger (execCellEnd_ledger id s)
  | frameBoundary id => exact turn_of_moves (execFrameBoundary_moves id s)
  | codeRetired k => exact turn_of_moves (execCodeRetired_moves k s)
  | decayStep z => exact turn_of_moves (execDecayStep_moves z s)
  | pauseClear id => exact ⟨_, rfl, .moves (s.checkPause_moves id)⟩
  | rxRawEdge v level => exact turn_of_moves (execRxRawEdge_moves v level s)
  | acceptedChange v => exact ⟨_, rfl, .moves (s.acceptDue_moves v)⟩
  | endGapClose v => exact ⟨_, rfl, .moves (s.closeAtEndGap_moves v)⟩
  | stuckMark v => exact ⟨_, rfl, .moves (s.closeStuck_moves v)⟩
  | discardEnd v => exact ⟨_, rfl, .of_eq (s.endDiscard_ledger v)⟩
  | captureDispatch => exact ⟨_, rfl, .moves s.dispatch_moves⟩
  | verifyVerdict v => exact ⟨_, rfl, .moves ((s.checkSettled_moves v).trans (State.arbiterAfter_moves _ s))⟩
  | learnDeadline => exact turn_of_moves (execLearnDeadline_moves s)
  | repeatWindowElapse v => exact turn_of_ledger (execRepeatWindowElapse_ledger v s)
  | rxRunEnd v => exact ⟨_, rfl, .of_eq (s.retryRunEnd_ledger v)⟩
  | hrxByte b stopHigh => exact turn_of_moves (execHrxByte_moves b stopHigh s)

theorem exec_next_turn {i : Instr} {s t : State} (h : exec i s = .next t) : s.ledger.Turn t.ledger := by
  obtain ⟨u, hu, hturn⟩ := exec_turn i s
  obtain rfl : u = t := Host.Outcome.next.inj (hu.symm.trans h)
  exact hturn

/-- A happening is chosen in a state with the same ledger. -/
theorem State.chooseDue_ledger {s t : State} {i : Instr} (h : s.chooseDue = some (i, t)) : t.ledger = s.ledger := by
  unfold State.chooseDue at h
  split at h <;> cases h <;> rfl

/-- A step, of a command or of the part itself, is a turn of the ledger. -/
theorem step_turn {s t : State} (h : step s = .next t) : s.ledger.Turn t.ledger := by
  unfold step at h
  split at h
  · rename_i c rest _
    exact exec_next_turn (s := { s with pending := rest }) h
  · split at h
    · rename_i c s' hdue
      exact State.chooseDue_ledger hdue ▸ exec_next_turn h
    · obtain rfl := Host.Outcome.next.inj h
      exact .of_eq rfl

/-- What every move keeps, a run of moves keeps. -/
theorem Ledger.Moves.keeps {P : Ledger → Prop} {L L' : Ledger} (h : L.Moves L')
    (hm : ∀ L L', Ledger.Move L L' → P L → P L') (hP : P L) : P L' := by
  induction h with
  | refl => exact hP
  | tail _ hmove ih => exact hm _ _ hmove ih

/-- What openings and moves keep, every step keeps. -/
theorem step_keeps {P : Ledger → Prop} (ho : ∀ L L', Ledger.Opening L L' → P L → P L')
    (hm : ∀ L L', Ledger.Move L L' → P L → P L') {s t : State} (h : step s = .next t) (hs : P s.ledger) : P t.ledger := by
  cases step_turn h with
  | opening h => exact ho _ _ h hs
  | moves h => exact h.keeps hm hs

end Sys2Proof.Machine
end

section
/-! PROOFS. The code table: the pool's accounting (R8), codes that never change (R4, R12), and the soundness of the table
(R1, R7, R18, R24, R148), each a case analysis of the moves. -/

namespace Sys2Proof.Machine

/-! ### The pool -/

/-- The pool's accounting, of a ledger (R8). -/
def Ledger.PoolAccounted (L : Ledger) : Prop :=
  L.table.freeBlocks + (L.table.slots.toList.map Slot.blocks).sum = 256

theorem State.poolAccounted_iff (s : State) : s.poolAccounted ↔ s.ledger.PoolAccounted :=
  Iff.rfl

/-- What a sum gains by a replaced element. -/
theorem sum_set_add_getElem (l : List Nat) (i a : Nat) (h : i < l.length) : (l.set i a).sum + l[i] = l.sum + a := by
  induction l generalizing i with
  | nil => exact absurd h (Nat.not_lt_zero i)
  | cons b l ih =>
    cases i with
    | zero =>
      simp only [List.set_cons_zero, List.sum_cons, List.getElem_cons_zero]
      omega
    | succ i =>
      have hi := ih i (by simpa using h)
      simp only [List.set_cons_succ, List.sum_cons, List.getElem_cons_succ]
      omega

/-- What the blocks of the slots come to after a slot is written. -/
theorem CodeTable.blocks_put (t : CodeTable) (i : SlotNo) (x : Slot) :
    ((t.put i x).slots.toList.map Slot.blocks).sum + (t.slot i).blocks =
      (t.slots.toList.map Slot.blocks).sum + x.blocks := by
  have h := sum_set_add_getElem (t.slots.toList.map Slot.blocks) i.val x.blocks (by simp)
  rw [← List.map_set, ← Vector.toList_set i.isLt] at h
  simpa [CodeTable.put, CodeTable.slot] using h

/-- A write keeps the accounting when the pool and the slot's own blocks have room for what is written (R8). -/
theorem Ledger.PoolAccounted.put {L : Ledger} (hL : L.PoolAccounted) {i : SlotNo} {x : Slot}
    (h : x.blocks ≤ L.table.freeBlocks + (L.slot i).blocks) : (L.put i x).PoolAccounted := by
  have hsum := L.table.blocks_put i x
  have hfree : (L.put i x).table.freeBlocks = L.table.freeBlocks + (L.slot i).blocks - x.blocks := rfl
  have hslot : (L.table.slot i).blocks = (L.slot i).blocks := rfl
  unfold Ledger.PoolAccounted at hL ⊢
  rw [hfree]
  simp only [Ledger.put]
  omega

/-- A write of a slot that holds no more blocks than before keeps the accounting. -/
theorem Ledger.PoolAccounted.put_le {L : Ledger} (hL : L.PoolAccounted) {i : SlotNo} {x : Slot}
    (h : x.blocks ≤ (L.slot i).blocks) : (L.put i x).PoolAccounted :=
  hL.put (h.trans (Nat.le_add_left ..))

theorem Slot.withoutReference_blocks (x : Slot) : x.withoutReference.blocks ≤ x.blocks := by
  cases x with
  | retiring c =>
    simp only [Slot.withoutReference]
    split
    · exact Nat.zero_le _
    · exact le_rfl
  | empty | loading _ _ | learning | ready _ => exact le_rfl

theorem Slot.withReference_blocks (x : Slot) : x.withReference.blocks = x.blocks := by
  cases x <;> rfl

theorem Slot.extended_blocks (x : Slot) (cells : List Nat) : (x.extended cells).blocks = x.blocks := by
  cases x <;> rfl

theorem Slot.unloaded_blocks (x : Slot) : x.unloaded.blocks ≤ x.blocks := by
  cases x with
  | loading h cells => exact Nat.zero_le _
  | empty | learning | ready _ | retiring _ => exact le_rfl

theorem Slot.loaded_blocks (x : Slot) (checksum : Word16) : (x.loaded checksum).blocks = x.blocks := by
  cases x <;> rfl

theorem Slot.unlearned_blocks (x : Slot) : x.unlearned.blocks = x.blocks := by
  cases x <;> rfl

theorem Slot.learned_blocks (x : Slot) (c : Code) : (x.learned c).blocks ≤ c.header.blocks + x.blocks := by
  cases x with
  | learning => exact le_rfl
  | empty | loading _ _ | ready _ | retiring _ => exact Nat.le_add_left ..

theorem Slot.afterRestart_blocks (x : Slot) : x.blocksReturned + x.afterRestart.blocks = x.blocks := by
  unfold Slot.blocksReturned
  cases x with
  | ready c => exact Nat.sub_add_cancel le_rfl
  | empty | loading _ _ | learning | retiring _ => rfl

theorem Ledger.PoolAccounted.restart {L : Ledger} (hL : L.PoolAccounted) : L.restart.PoolAccounted := by
  have hsum : (L.table.slots.toList.map Slot.blocksReturned).sum +
      (L.table.slots.toList.map fun x => x.afterRestart.blocks).sum = (L.table.slots.toList.map Slot.blocks).sum := by
    rw [← List.sum_map_add]
    simp only [Slot.afterRestart_blocks]
  unfold Ledger.PoolAccounted at hL ⊢
  simp only [Ledger.restart, CodeTable.afterRestart, mapVector_toList, List.map_map, Function.comp_def]
  omega

theorem Ledger.fresh_poolAccounted : Ledger.fresh.PoolAccounted := by
  simp [Ledger.PoolAccounted, Ledger.fresh, emptyTable, Vector.toList_replicate, Slot.blocks, Config.poolBlocks]

theorem Ledger.Opening.keeps_poolAccounted (L L' : Ledger) (h : L.Opening L') (hL : L.PoolAccounted) :
    L'.PoolAccounted := by
  cases h with
  | load empty free room offset sum => exact hL.put (Nat.le_add_right_of_le room)
  | learn empty free untaken unnamed => exact hL.put (Nat.zero_le _)

theorem Ledger.bind_poolAccounted {L : Ledger} (hL : L.PoolAccounted) (id : Nat) (v : Option InputNo) :
    (L.bind id v).PoolAccounted := by
  unfold Ledger.PoolAccounted
  rwa [Ledger.bind_table]

theorem Ledger.finish_poolAccounted {L : Ledger} (hL : L.PoolAccounted) (id : Nat) : (L.finish id).PoolAccounted := by
  unfold Ledger.finish
  split
  · exact hL.put_le (Slot.withoutReference_blocks _)
  · exact hL

theorem Ledger.Move.keeps_poolAccounted (L L' : Ledger) (h : L.Move L') (hL : L.PoolAccounted) : L'.PoolAccounted := by
  cases h with
  | store inUse fits long => exact hL.put_le (Slot.extended_blocks ..).le
  | abandon loads => exact hL.put_le (Slot.unloaded_blocks _)
  | complete inUse all => exact hL.put_le (Slot.loaded_blocks ..).le
  | amend label matchable tolerance ready =>
    refine hL.put_le ?_
    rw [ready]
    exact le_rfl
  | erase ready unused => exact hL.put_le (Nat.zero_le _)
  | defer ready used =>
    refine hL.put_le ?_
    rw [ready]
    exact le_rfl
  | retire retiring unused => exact hL.put_le (Nat.zero_le _)
  | clearLearning learning stray => exact hL.put_le (Nat.zero_le _)
  | noteLearn inUse slot input => exact hL
  | endLearn inUse => exact hL.put_le (Slot.unlearned_blocks _).le
  | storeLearned inUse room whole unused =>
    exact hL.put ((Slot.learned_blocks _ _).trans (Nat.add_le_add_right room _))
  | setMode untaken free => exact hL
  | enqueue ready room fresh waits input => exact hL.put_le (Slot.withReference_blocks _).le
  | start live waits => exact Ledger.bind_poolAccounted (L := L.restate _ _) hL _ _
  | settle live names bound => exact hL
  | finish live unbound => exact Ledger.finish_poolAccounted hL _
  | release live bound => exact Ledger.finish_poolAccounted (L := L.unbind _) hL _
  | restart => exact hL.restart
  | reset => exact Ledger.fresh_poolAccounted
  | disordered disorder table =>
    unfold Ledger.PoolAccounted
    rwa [table]

/-! ### Stored codes -/

/-- A code with the cells, the checksum and the fields of another, but for the three that CODE_AMEND replaces (R4, R12). -/
def Code.Agrees (a b : Code) : Prop :=
  b.cells = a.cells ∧ b.checksum = a.checksum ∧
    b.header = { a.header with label := b.header.label, matchable := b.header.matchable, tolerance := b.header.tolerance }

theorem Code.Agrees.trans {a b c : Code} (hab : a.Agrees b) (hbc : b.Agrees c) : a.Agrees c := by
  obtain ⟨hcells, hsum, hheader⟩ := hab
  obtain ⟨hcells', hsum', hheader'⟩ := hbc
  refine ⟨hcells'.trans hcells, hsum'.trans hsum, ?_⟩
  rw [hheader', hheader]

/-- The stage of a slot's life within one command: being filled, holding a code, empty. Only an opening leads back. -/
def Slot.stage : Slot → Nat
  | .loading _ _ => 0
  | .learning => 0
  | .ready _ => 1
  | .retiring _ => 1
  | .empty => 2

theorem Slot.stage_eq_one_iff (x : Slot) : x.stage = 1 ↔ ∃ c, x.code? = some c := by
  cases x <;> simp [Slot.stage, Slot.code?]

/-- What a slot may become by moves: its stage does not fall, and a code stays the same code. -/
def Slot.Becomes (x y : Slot) : Prop :=
  x.stage ≤ y.stage ∧ ∀ a b, x.code? = some a → y.code? = some b → a.Agrees b

theorem Slot.Becomes.refl (x : Slot) : x.Becomes x := by
  refine ⟨le_rfl, fun a b ha hb => ?_⟩
  obtain rfl : a = b := Option.some_injective _ (ha.symm.trans hb)
  exact ⟨rfl, rfl, rfl⟩

theorem Slot.Becomes.trans {x y z : Slot} (hxy : x.Becomes y) (hyz : y.Becomes z) : x.Becomes z := by
  refine ⟨hxy.1.trans hyz.1, fun a c ha hc => ?_⟩
  have hx : x.stage = 1 := x.stage_eq_one_iff.mpr ⟨a, ha⟩
  have hz : z.stage = 1 := z.stage_eq_one_iff.mpr ⟨c, hc⟩
  have hy : y.stage = 1 := le_antisymm (hz ▸ hyz.1) (hx ▸ hxy.1)
  obtain ⟨b, hb⟩ := y.stage_eq_one_iff.mp hy
  exact (hxy.2 a b ha hb).trans (hyz.2 b c hb hc)

theorem Slot.becomes_empty (x : Slot) : x.Becomes .empty := by
  refine ⟨?_, fun _ _ _ hb => nomatch hb⟩
  cases x <;> simp [Slot.stage]

/-- A slot that is being filled may become anything. -/
theorem Slot.becomes_of_filling {x : Slot} (h : x.stage = 0) (y : Slot) : x.Becomes y := by
  refine ⟨h ▸ Nat.zero_le _, fun a _ ha _ => ?_⟩
  have hx : x.stage = 1 := x.stage_eq_one_iff.mpr ⟨a, ha⟩
  omega

/-- A code that agrees may take the place of one. -/
theorem Slot.becomes_of_agrees {x y : Slot} {a b : Code} (ha : x.code? = some a) (hb : y.code? = some b)
    (h : a.Agrees b) : x.Becomes y := by
  refine ⟨?_, fun a' b' ha' hb' => ?_⟩
  · rw [x.stage_eq_one_iff.mpr ⟨a, ha⟩, y.stage_eq_one_iff.mpr ⟨b, hb⟩]
  · obtain rfl : a = a' := Option.some_injective _ (ha.symm.trans ha')
    obtain rfl : b = b' := Option.some_injective _ (hb.symm.trans hb')
    exact h

/-- What the ledger's slots may become by moves. -/
def Ledger.SlotsBecome (L L' : Ledger) : Prop :=
  ∀ i, (L.slot i).Becomes (L'.slot i)

theorem Ledger.slot_put (L : Ledger) (i k : SlotNo) (x : Slot) :
    (L.put i x).slot k = if k = i then x else L.slot k :=
  L.table.slot_put i k x

theorem Ledger.SlotsBecome.put {L : Ledger} {i : SlotNo} {x : Slot} (h : (L.slot i).Becomes x) :
    L.SlotsBecome (L.put i x) := by
  intro k
  rw [Ledger.slot_put]
  split
  · exact ‹k = i› ▸ h
  · exact .refl _

theorem Slot.becomes_withoutReference (x : Slot) : x.Becomes x.withoutReference := by
  cases x with
  | ready c => exact Slot.becomes_of_agrees rfl rfl ⟨rfl, rfl, rfl⟩
  | retiring c =>
    simp only [Slot.withoutReference]
    split
    · exact Slot.becomes_empty _
    · exact Slot.becomes_of_agrees rfl rfl ⟨rfl, rfl, rfl⟩
  | empty | loading _ _ | learning => exact .refl _

theorem Slot.becomes_withReference (x : Slot) : x.Becomes x.withReference := by
  cases x with
  | ready c => exact Slot.becomes_of_agrees rfl rfl ⟨rfl, rfl, rfl⟩
  | empty | loading _ _ | learning | retiring _ => exact .refl _

theorem Slot.becomes_extended (x : Slot) (cells : List Nat) : x.Becomes (x.extended cells) := by
  cases x with
  | loading h got => exact Slot.becomes_of_filling rfl _
  | empty | learning | ready _ | retiring _ => exact .refl _

theorem Slot.becomes_unloaded (x : Slot) : x.Becomes x.unloaded := by
  cases x with
  | loading h got => exact Slot.becomes_empty _
  | empty | learning | ready _ | retiring _ => exact .refl _

theorem Slot.becomes_loaded (x : Slot) (checksum : Word16) : x.Becomes (x.loaded checksum) := by
  cases x with
  | loading h got => exact Slot.becomes_of_filling rfl _
  | empty | learning | ready _ | retiring _ => exact .refl _

theorem Slot.becomes_unlearned (x : Slot) : x.Becomes x.unlearned := by
  cases x with
  | learning => exact Slot.becomes_empty _
  | empty | loading _ _ | ready _ | retiring _ => exact .refl _

theorem Slot.becomes_learned (x : Slot) (c : Code) : x.Becomes (x.learned c) := by
  cases x with
  | learning => exact Slot.becomes_of_filling rfl _
  | empty | loading _ _ | ready _ | retiring _ => exact .refl _

theorem Slot.becomes_afterRestart (x : Slot) : x.Becomes x.afterRestart := by
  cases x with
  | ready c => exact Slot.becomes_of_agrees rfl rfl ⟨rfl, rfl, rfl⟩
  | empty | loading _ _ | learning | retiring _ => exact Slot.becomes_empty _

theorem Ledger.restart_slot (L : Ledger) (i : SlotNo) : L.restart.slot i = (L.slot i).afterRestart :=
  mapVector_getElem _ _ i.val i.isLt

theorem Ledger.fresh_slot (i : SlotNo) : Ledger.fresh.slot i = .empty :=
  Vector.getElem_replicate i.isLt

theorem Ledger.bind_slot (L : Ledger) (id : Nat) (v : Option InputNo) (i : SlotNo) : (L.bind id v).slot i = L.slot i := by
  simp [Ledger.slot]

theorem Ledger.finish_slotsBecome (L : Ledger) (id : Nat) : L.SlotsBecome (L.finish id) := by
  unfold Ledger.finish
  split
  · exact Ledger.SlotsBecome.put (Slot.becomes_withoutReference _)
  · exact fun _ => .refl _

theorem Ledger.Move.slotsBecome {L L' : Ledger} (h : L.Move L') : L.SlotsBecome L' := by
  cases h with
  | store inUse fits long => exact Ledger.SlotsBecome.put (Slot.becomes_extended _ _)
  | abandon loads => exact Ledger.SlotsBecome.put (Slot.becomes_unloaded _)
  | complete inUse all => exact Ledger.SlotsBecome.put (Slot.becomes_loaded _ _)
  | amend label matchable tolerance ready =>
    refine Ledger.SlotsBecome.put ?_
    rw [ready]
    exact Slot.becomes_of_agrees rfl rfl ⟨rfl, rfl, rfl⟩
  | erase ready unused => exact Ledger.SlotsBecome.put (Slot.becomes_empty _)
  | defer ready used =>
    refine Ledger.SlotsBecome.put ?_
    rw [ready]
    exact Slot.becomes_of_agrees rfl rfl ⟨rfl, rfl, rfl⟩
  | retire retiring unused => exact Ledger.SlotsBecome.put (Slot.becomes_empty _)
  | clearLearning learning stray => exact Ledger.SlotsBecome.put (Slot.becomes_empty _)
  | noteLearn inUse slot input => exact fun _ => .refl _
  | endLearn inUse => exact Ledger.SlotsBecome.put (Slot.becomes_unlearned _)
  | storeLearned inUse room whole unused => exact Ledger.SlotsBecome.put (Slot.becomes_learned _ _)
  | setMode untaken free => exact fun _ => .refl _
  | enqueue ready room fresh waits input => exact Ledger.SlotsBecome.put (Slot.becomes_withReference _)
  | start live waits => exact fun i => (Ledger.bind_slot (L.restate _ _) _ _ i).symm ▸ .refl (L.slot i)
  | settle live names bound => exact fun _ => .refl _
  | finish live unbound => exact L.finish_slotsBecome _
  | release live bound => exact Ledger.finish_slotsBecome (L.unbind _) _
  | restart => exact fun i => L.restart_slot i ▸ Slot.becomes_afterRestart _
  | reset => exact fun i => Ledger.fresh_slot i ▸ Slot.becomes_empty _
  | disordered disorder table =>
    intro i
    unfold Ledger.slot
    rw [table]
    exact .refl _

theorem Ledger.Moves.slotsBecome {L L' : Ledger} (h : L.Moves L') : L.SlotsBecome L' :=
  h.keeps (P := L.SlotsBecome) (fun _ _ hmove hP i => (hP i).trans (hmove.slotsBecome i)) fun _ => .refl _

/-- An opening changes one slot, which was EMPTY. -/
theorem Ledger.Opening.slot_eq {L L' : Ledger} (h : L.Opening L') (i : SlotNo) : L.slot i = .empty ∨ L'.slot i = L.slot i := by
  cases h with
  | @load l empty free room offset sum =>
    by_cases hi : i = l.slot
    · exact .inl (hi ▸ empty)
    · exact .inr ((L.slot_put l.slot i _).trans (if_neg hi))
  | @learn x empty free untaken unnamed =>
    by_cases hi : i = x.slot
    · exact .inl (hi ▸ empty)
    · exact .inr ((L.slot_put x.slot i _).trans (if_neg hi))

/-- In one turn a slot that holds a code before and after holds the same code. -/
theorem Ledger.Turn.code_agrees {L L' : Ledger} (h : L.Turn L') {i : SlotNo} {a b : Code} (ha : (L.slot i).code? = some a)
    (hb : (L'.slot i).code? = some b) : a.Agrees b := by
  cases h with
  | opening h =>
    obtain he | he := h.slot_eq i
    · rw [he] at ha
      cases ha
    · exact (Slot.Becomes.refl (L.slot i)).2 a b ha (he ▸ hb)
  | moves h => exact (h.slotsBecome i).2 a b ha hb

/-! ### The soundness of the table -/

/-- A slot is LOADING what a load context says (R18, R24). -/
def LoadContext.Fits (l : LoadContext) (x : Slot) : Prop :=
  ∃ cells, x = .loading l.header cells ∧ l.nextOffset = cells.length ∧ cells.length ≤ l.header.total ∧
    l.checksum = crcCells crcStart cells ∧ cellsLongEnough cells

/-- Whether a slot is LOADING. -/
def Slot.isLoading : Slot → Bool
  | .loading _ _ => true
  | .empty => false
  | .learning => false
  | .ready _ => false
  | .retiring _ => false

/-- Whether a slot is LEARNING. -/
def Slot.isLearning : Slot → Bool
  | .learning => true
  | .empty => false
  | .loading _ _ => false
  | .ready _ => false
  | .retiring _ => false

theorem Slot.isLearning_iff (x : Slot) : x.isLearning = true ↔ x = .learning := by
  cases x <;> simp [Slot.isLearning]

/-- The soundness of a table, as `State.tableSound` says, by the load, the learn and the stored codes. -/
structure CodeTable.Sound (t : CodeTable) : Prop where
  load : ∀ l, t.load = some l → l.Fits (t.slot l.slot)
  loading : ∀ i, (t.slot i).isLoading = true → ∃ l, t.load = some l ∧ l.slot = i
  learn : ∀ x, t.learn = some x → (t.slot x.slot).isLearning = true
  learning : ∀ i, (t.slot i).isLearning = true → ∃ x, t.learn = some x ∧ x.slot = i
  whole : ∀ i c, (t.slot i).code? = some c → c.whole

theorem State.tableSound_iff (s : State) : s.tableSound ↔ s.table.Sound := by
  constructor
  · rintro ⟨hslots, hload, hlearn⟩
    refine ⟨fun l hl => ?_, fun i hi => ?_, fun x hx => ?_, fun i hi => ?_, fun i c hc => ?_⟩
    · obtain ⟨h, cells, hs⟩ := hload l hl
      have hi := hslots l.slot
      unfold State.slotSound at hi
      rw [hs] at hi
      obtain ⟨l', hl', -, rfl, hrest⟩ := hi
      obtain rfl : l = l' := Option.some_injective _ (hl.symm.trans hl')
      exact ⟨cells, hs, hrest⟩
    · have hs := hslots i
      unfold State.slotSound at hs
      rw [CodeTable.slot_table] at hi
      split at hs <;> rename_i he <;> rw [he] at hi
      · obtain ⟨l, hl, hslot, -⟩ := hs
        exact ⟨l, hl, hslot⟩
      all_goals cases hi
    · rw [CodeTable.slot_table, hlearn x hx]
      rfl
    · have hs := hslots i
      unfold State.slotSound at hs
      rw [CodeTable.slot_table, Slot.isLearning_iff] at hi
      rw [hi] at hs
      exact hs
    · have hs := hslots i
      unfold State.slotSound at hs
      rw [CodeTable.slot_table] at hc
      split at hs <;> rename_i he <;> rw [he] at hc <;> cases hc <;> exact hs
  · intro h
    refine ⟨fun i => ?_, fun l hl => ?_, fun x hx => (Slot.isLearning_iff _).mp (h.learn x hx)⟩
    · unfold State.slotSound
      cases hs : s.slot i with
      | loading g cells =>
        obtain ⟨l, hl, rfl⟩ := h.loading i (by rw [CodeTable.slot_table, hs]; rfl)
        obtain ⟨cells', he, hrest⟩ := h.load l hl
        rw [CodeTable.slot_table, hs] at he
        cases he
        exact ⟨l, hl, rfl, rfl, hrest⟩
      | learning => exact h.learning i (by rw [CodeTable.slot_table, hs]; rfl)
      | ready c => exact h.whole i c (by rw [CodeTable.slot_table, hs]; rfl)
      | retiring c => exact h.whole i c (by rw [CodeTable.slot_table, hs]; rfl)
      | empty => trivial
    · obtain ⟨cells, hs, -⟩ := h.load l hl
      exact ⟨_, cells, hs⟩

theorem LoadContext.Fits.isLoading {l : LoadContext} {x : Slot} (h : l.Fits x) : x.isLoading = true := by
  obtain ⟨cells, rfl, -⟩ := h
  rfl

theorem Slot.not_loading_of_learning {x : Slot} (h : x.isLearning = true) : x.isLoading = false := by
  cases x <;> simp_all [Slot.isLearning, Slot.isLoading]

/-- Cells entered one run after another are entered as one run (R7). -/
theorem crcCells_append (r : Word16) (a b : List Nat) : crcCells (crcCells r a) b = crcCells r (a ++ b) := by
  simp [crcCells, crcBytes, cellBytes]

section Writes

variable {t : CodeTable} {i : SlotNo} {x : Slot}

/-- Stored codes stay whole when what is written is whole. -/
theorem CodeTable.whole_put (h : ∀ k c, (t.slot k).code? = some c → c.whole) (hnew : ∀ c, x.code? = some c → c.whole)
    (k : SlotNo) (c : Code) (hc : ((t.put i x).slot k).code? = some c) : c.whole := by
  rw [CodeTable.slot_put] at hc
  split at hc
  · exact hnew c hc
  · exact h k c hc

/-- The load context keeps its slot when a slot that is not LOADING is written. -/
theorem CodeTable.load_put (h : ∀ l, t.load = some l → l.Fits (t.slot l.slot)) (hold : (t.slot i).isLoading = false)
    (l : LoadContext) (hl : t.load = some l) : l.Fits ((t.put i x).slot l.slot) := by
  have hfits := h l hl
  rw [CodeTable.slot_put, if_neg]
  · exact hfits
  · rintro rfl
    exact Bool.false_ne_true (hold.symm.trans hfits.isLoading)

/-- LOADING slots stay those of the load context when what is written is not LOADING. -/
theorem CodeTable.loading_put (h : ∀ k, (t.slot k).isLoading = true → ∃ l, t.load = some l ∧ l.slot = k)
    (hnew : x.isLoading = false) (k : SlotNo) (hk : ((t.put i x).slot k).isLoading = true) :
    ∃ l, t.load = some l ∧ l.slot = k := by
  rw [CodeTable.slot_put] at hk
  split at hk
  · exact absurd hk (by simp [hnew])
  · exact h k hk

/-- The learn context keeps its slot when a slot that is not LEARNING is written. -/
theorem CodeTable.learn_put (h : ∀ y, t.learn = some y → (t.slot y.slot).isLearning = true)
    (hold : (t.slot i).isLearning = false) (y : LearnContext) (hy : t.learn = some y) :
    ((t.put i x).slot y.slot).isLearning = true := by
  have hlearning := h y hy
  rw [CodeTable.slot_put, if_neg]
  · exact hlearning
  · rintro rfl
    exact Bool.false_ne_true (hold.symm.trans hlearning)

/-- LEARNING slots stay those of the learn context when what is written is not LEARNING. -/
theorem CodeTable.learning_put (h : ∀ k, (t.slot k).isLearning = true → ∃ y, t.learn = some y ∧ y.slot = k)
    (hnew : x.isLearning = false) (k : SlotNo) (hk : ((t.put i x).slot k).isLearning = true) :
    ∃ y, t.learn = some y ∧ y.slot = k := by
  rw [CodeTable.slot_put] at hk
  split at hk
  · exact absurd hk (by simp [hnew])
  · exact h k hk

/-- A slot outside the two contexts, before and after, is written with a whole code or nothing. -/
theorem CodeTable.Sound.put (ht : t.Sound) (hload : (t.slot i).isLoading = false) (hlearn : (t.slot i).isLearning = false)
    (hload' : x.isLoading = false) (hlearn' : x.isLearning = false) (hwhole : ∀ c, x.code? = some c → c.whole) :
    (t.put i x).Sound :=
  ⟨t.load_put ht.load hload, t.loading_put ht.loading hload', t.learn_put ht.learn hlearn,
    t.learning_put ht.learning hlearn', t.whole_put ht.whole hwhole⟩

/-- A slot is written together with the load context: no other slot is LOADING. -/
theorem CodeTable.Sound.putLoad (ht : t.Sound) {l' : Option LoadContext} (hold : (t.slot i).isLearning = false)
    (hnew : x.isLearning = false) (hwhole : ∀ c, x.code? = some c → c.whole)
    (hothers : ∀ k, k ≠ i → (t.slot k).isLoading = false) (hfits : ∀ l, l' = some l → l.slot = i ∧ l.Fits x)
    (hloading : x.isLoading = true → ∃ l, l' = some l ∧ l.slot = i) : ({ t.put i x with load := l' } : CodeTable).Sound where
  load l hl := by
    obtain ⟨rfl, hx⟩ := hfits l hl
    exact (t.slot_put_self l.slot x).symm ▸ hx
  loading k hk := by
    by_cases hki : k = i
    · subst hki
      exact hloading ((t.slot_put_self k x) ▸ hk)
    · have hs := (t.slot_put i k x).trans (if_neg hki)
      exact absurd ((congrArg Slot.isLoading hs).symm.trans hk) (by simp [hothers k hki])
  learn := t.learn_put ht.learn hold
  learning := t.learning_put ht.learning hnew
  whole := t.whole_put ht.whole hwhole

/-- A slot is written together with the learn context: no other slot is LEARNING. -/
theorem CodeTable.Sound.putLearn (ht : t.Sound) {y' : Option LearnContext} (hold : (t.slot i).isLoading = false)
    (hnew : x.isLoading = false) (hwhole : ∀ c, x.code? = some c → c.whole)
    (hothers : ∀ k, k ≠ i → (t.slot k).isLearning = false) (hlearn : ∀ y, y' = some y → y.slot = i ∧ x.isLearning = true)
    (hlearning : x.isLearning = true → ∃ y, y' = some y ∧ y.slot = i) :
    ({ t.put i x with learn := y' } : CodeTable).Sound where
  load := t.load_put ht.load hold
  loading := t.loading_put ht.loading hnew
  learn y hy := by
    obtain ⟨rfl, hx⟩ := hlearn y hy
    exact (t.slot_put_self y.slot x).symm ▸ hx
  learning k hk := by
    by_cases hki : k = i
    · subst hki
      exact hlearning ((t.slot_put_self k x) ▸ hk)
    · have hs := (t.slot_put i k x).trans (if_neg hki)
      exact absurd ((congrArg Slot.isLearning hs).symm.trans hk) (by simp [hothers k hki])
  whole := t.whole_put ht.whole hwhole

end Writes

section Contexts

variable {t : CodeTable} (ht : t.Sound)
include ht

/-- With a load open no slot but its own is LOADING. -/
theorem CodeTable.Sound.other_not_loading {l : LoadContext} (hl : t.load = some l) {k : SlotNo} (hk : k ≠ l.slot) :
    (t.slot k).isLoading = false := by
  refine Bool.eq_false_iff.mpr fun h => hk ?_
  obtain ⟨l', hl', rfl⟩ := ht.loading k h
  obtain rfl : l = l' := Option.some_injective _ (hl.symm.trans hl')
  rfl

/-- With a learn in progress no slot but its own is LEARNING. -/
theorem CodeTable.Sound.other_not_learning {y : LearnContext} (hy : t.learn = some y) {k : SlotNo} (hk : k ≠ y.slot) :
    (t.slot k).isLearning = false := by
  refine Bool.eq_false_iff.mpr fun h => hk ?_
  obtain ⟨y', hy', rfl⟩ := ht.learning k h
  obtain rfl : y = y' := Option.some_injective _ (hy.symm.trans hy')
  rfl

theorem CodeTable.Sound.none_loading (hl : t.load = none) (k : SlotNo) : (t.slot k).isLoading = false :=
  Bool.eq_false_iff.mpr fun h => by
    obtain ⟨l, hl', -⟩ := ht.loading k h
    exact nomatch hl.symm.trans hl'

theorem CodeTable.Sound.none_learning (hy : t.learn = none) (k : SlotNo) : (t.slot k).isLearning = false :=
  Bool.eq_false_iff.mpr fun h => by
    obtain ⟨y, hy', -⟩ := ht.learning k h
    exact nomatch hy.symm.trans hy'

/-- A load that is abandoned leaves the slot EMPTY and the context free (R27). -/
theorem CodeTable.Sound.abandon {l : LoadContext} (hl : t.load = some l) :
    ({ t.put l.slot (t.slot l.slot).unloaded with load := none } : CodeTable).Sound := by
  obtain ⟨cells, hs, -⟩ := ht.load l hl
  rw [hs]
  exact ht.putLoad (by rw [hs]; rfl) rfl (fun _ hc => nomatch hc) (fun k hk => ht.other_not_loading hl hk)
    (fun _ h => nomatch h) (fun h => nomatch h)

/-- A load that is completed leaves a whole code and the context free (R28). -/
theorem CodeTable.Sound.complete {l : LoadContext} (hl : t.load = some l) (hall : l.nextOffset = l.header.total) :
    ({ t.put l.slot ((t.slot l.slot).loaded l.checksum) with load := none } : CodeTable).Sound := by
  obtain ⟨cells, hs, hcount, -, hsum, hlong⟩ := ht.load l hl
  rw [hs]
  refine ht.putLoad (by rw [hs]; rfl) rfl (fun c hc => ?_) (fun k hk => ht.other_not_loading hl hk)
    (fun _ h => nomatch h) (fun h => nomatch h)
  cases hc
  exact ⟨hcount.symm.trans hall, hsum, hlong⟩

/-- A segment that is stored is counted and summed by the context (R24). -/
theorem CodeTable.Sound.store {l : LoadContext} (hl : t.load = some l) {more : List Nat} {idle : Timer}
    (hfits : l.nextOffset + more.length ≤ l.header.total) (hlong : cellsLongEnough more) :
    ({ t.put l.slot ((t.slot l.slot).extended more) with
        load := some { l with
          nextOffset := l.nextOffset + more.length, checksum := crcCells l.checksum more, idle := idle } } :
      CodeTable).Sound := by
  obtain ⟨cells, hs, hcount, -, hsum, hcells⟩ := ht.load l hl
  rw [hs]
  refine ht.putLoad (by rw [hs]; rfl) rfl (fun _ hc => nomatch hc) (fun k hk => ht.other_not_loading hl hk)
    (fun l' hl' => ?_) (fun _ => ⟨_, rfl, rfl⟩)
  cases hl'
  refine ⟨rfl, cells ++ more, rfl, ?_, ?_, ?_, fun d hd => ?_⟩
  · simp [hcount]
  · simpa [hcount] using hfits
  · rw [hsum, crcCells_append]
  · exact (List.mem_append.mp hd).elim (hcells d) (hlong d)

/-- A learn that ends leaves its slot with a whole code or EMPTY, and the context free (R152, R153). -/
theorem CodeTable.Sound.endLearn {y : LearnContext} (hy : t.learn = some y) {x : Slot} (hload : x.isLoading = false)
    (hlearn : x.isLearning = false) (hwhole : ∀ c, x.code? = some c → c.whole) :
    ({ t.put y.slot x with learn := none } : CodeTable).Sound :=
  ht.putLearn (Slot.not_loading_of_learning (ht.learn y hy)) hload hwhole (fun _ hk => ht.other_not_learning hy hk)
    (fun _ h => nomatch h) (fun h => absurd h (by simp [hlearn]))

/-- The learn context may note a frame (R151). -/
theorem CodeTable.Sound.noteLearn {y z : LearnContext} (hy : t.learn = some y) (hslot : z.slot = y.slot) :
    ({ t with learn := some z } : CodeTable).Sound where
  load := ht.load
  loading := ht.loading
  learn w hw := by
    cases hw
    exact hslot ▸ ht.learn y hy
  learning k hk := by
    obtain ⟨w, hw, rfl⟩ := ht.learning k hk
    obtain rfl : y = w := Option.some_injective _ (hy.symm.trans hw)
    exact ⟨z, rfl, hslot⟩
  whole := ht.whole

/-- A code is rewritten by one that is whole when it is (R9, R10, R12). -/
theorem CodeTable.Sound.putCode {i : SlotNo} {a b : Code} {x : Slot} (ha : (t.slot i).code? = some a)
    (hb : x.code? = some b) (hwhole : a.whole → b.whole) : (t.put i x).Sound := by
  have hnot : ∀ {y : Slot} {c : Code}, y.code? = some c → y.isLoading = false ∧ y.isLearning = false := by
    intro y c hc
    cases y with
    | ready _ | retiring _ => exact ⟨rfl, rfl⟩
    | empty | loading _ _ | learning => cases hc
  obtain ⟨hload, hlearn⟩ := hnot ha
  obtain ⟨hload', hlearn'⟩ := hnot hb
  refine ht.put hload hlearn hload' hlearn' fun c hc => ?_
  obtain rfl : b = c := Option.some_injective _ (hb.symm.trans hc)
  exact hwhole (ht.whole i a ha)

/-- A code is erased (R10, R11). -/
theorem CodeTable.Sound.eraseCode {i : SlotNo} {a : Code} (ha : (t.slot i).code? = some a) : (t.put i .empty).Sound := by
  cases hs : t.slot i with
  | ready _ | retiring _ => exact ht.put (by rw [hs]; rfl) (by rw [hs]; rfl) rfl rfl fun _ hc => nomatch hc
  | empty | loading _ _ | learning => simp [hs, Slot.code?] at ha

theorem CodeTable.Sound.withReference (i : SlotNo) : (t.put i (t.slot i).withReference).Sound := by
  cases hs : t.slot i with
  | ready c => exact ht.putCode (a := c) (by rw [hs]; rfl) rfl id
  | empty | loading _ _ | learning | retiring _ =>
    have hself := t.put_slot i
    rw [hs] at hself
    exact hself.symm ▸ ht

theorem CodeTable.Sound.withoutReference (i : SlotNo) : (t.put i (t.slot i).withoutReference).Sound := by
  cases hs : t.slot i with
  | ready c => exact ht.putCode (a := c) (by rw [hs]; rfl) rfl id
  | retiring c =>
    simp only [Slot.withoutReference]
    split
    · exact ht.eraseCode (a := c) (by rw [hs]; rfl)
    · exact ht.putCode (a := c) (by rw [hs]; rfl) rfl id
  | empty | loading _ _ | learning =>
    have hself := t.put_slot i
    rw [hs] at hself
    exact hself.symm ▸ ht

theorem CodeTable.Sound.afterRestart : t.afterRestart.Sound := by
  have hslot : ∀ i, t.afterRestart.slot i = (t.slot i).afterRestart := fun i => mapVector_getElem _ _ i.val i.isLt
  have hnone : ∀ x : Slot, x.afterRestart.isLoading = false ∧ x.afterRestart.isLearning = false := by
    intro x
    cases x <;> exact ⟨rfl, rfl⟩
  refine ⟨fun _ h => (nomatch h), fun i hi => ?_, fun _ h => (nomatch h), fun i hi => ?_, fun i c hc => ?_⟩
  · exact absurd hi (by simp [hslot, hnone])
  · exact absurd hi (by simp [hslot, hnone])
  · rw [hslot] at hc
    cases hs : t.slot i with
    | ready a =>
      rw [hs] at hc
      cases hc
      exact ht.whole i a (by rw [hs]; rfl)
    | empty | loading _ _ | learning | retiring _ =>
      rw [hs] at hc
      cases hc

end Contexts

theorem emptyTable_sound : emptyTable.Sound := by
  have hslot : ∀ i, emptyTable.slot i = .empty := fun i => Vector.getElem_replicate i.isLt
  refine ⟨fun _ h => (nomatch h), fun i hi => ?_, fun _ h => (nomatch h), fun i hi => ?_, fun i c hc => ?_⟩
  · rw [hslot] at hi
    cases hi
  · rw [hslot] at hi
    cases hi
  · rw [hslot] at hc
    cases hc

theorem Ledger.Opening.keeps_sound (L L' : Ledger) (h : L.Opening L') (hL : L.table.Sound) : L'.table.Sound := by
  cases h with
  | @load l empty free room offset sum =>
    have hs : L.table.slot l.slot = .empty := empty
    refine hL.putLoad (by rw [hs]; rfl) rfl (fun _ hc => nomatch hc) (fun k _ => hL.none_loading free k)
      (fun l' hl' => ?_) (fun _ => ⟨l, rfl, rfl⟩)
    cases hl'
    exact ⟨rfl, [], rfl, offset, Nat.zero_le _, sum, fun _ hd => nomatch hd⟩
  | @learn x empty free untaken unnamed =>
    have hs : L.table.slot x.slot = .empty := empty
    refine hL.putLearn (by rw [hs]; rfl) rfl (fun _ hc => nomatch hc) (fun k _ => hL.none_learning free k)
      (fun y hy => ?_) (fun _ => ⟨x, rfl, rfl⟩)
    cases hy
    exact ⟨rfl, rfl⟩

theorem Ledger.finish_sound {L : Ledger} (hL : L.table.Sound) (id : Nat) : (L.finish id).table.Sound := by
  unfold Ledger.finish
  split
  · exact hL.withoutReference _
  · exact hL

theorem Ledger.Move.keeps_sound (L L' : Ledger) (h : L.Move L') (hL : L.table.Sound) : L'.table.Sound := by
  cases h with
  | store inUse fits long => exact hL.store inUse fits long
  | @abandon i loads =>
    obtain ⟨l, hl, rfl⟩ : ∃ l, L.table.load = some l ∧ l.slot = i := by
      obtain h | ⟨g, cells, hs⟩ := loads
      · exact h
      · exact hL.loading i (congrArg Slot.isLoading hs)
    exact hL.abandon hl
  | complete inUse all => exact hL.complete inUse all
  | amend label matchable tolerance ready => exact hL.putCode (congrArg Slot.code? ready) rfl id
  | erase ready unused => exact hL.eraseCode (congrArg Slot.code? ready)
  | defer ready used => exact hL.putCode (congrArg Slot.code? ready) rfl id
  | retire retiring unused => exact hL.eraseCode (congrArg Slot.code? retiring)
  | @clearLearning i learning stray =>
    obtain ⟨x, hx, he⟩ := hL.learning i (congrArg Slot.isLearning learning)
    exact absurd he (stray x hx)
  | noteLearn inUse slot input => exact hL.noteLearn inUse slot
  | @endLearn x inUse =>
    have hs : L.slot x.slot = .learning := (Slot.isLearning_iff _).mp (hL.learn x inUse)
    rw [hs]
    exact hL.endLearn inUse rfl rfl fun _ hc => nomatch hc
  | @storeLearned x c inUse room whole unused =>
    have hs : L.slot x.slot = .learning := (Slot.isLearning_iff _).mp (hL.learn x inUse)
    rw [hs]
    refine hL.endLearn inUse rfl rfl fun c' hc => ?_
    cases hc
    exact whole
  | setMode untaken free => exact hL
  | enqueue ready room fresh waits input => exact hL.withReference _
  | start live waits =>
    rw [Ledger.bind_table]
    exact hL
  | settle live names bound => exact hL
  | finish live unbound => exact Ledger.finish_sound hL _
  | release live bound => exact Ledger.finish_sound (L := L.unbind _) hL _
  | restart => exact hL.afterRestart
  | reset => exact emptyTable_sound
  | disordered disorder table => exact table.symm ▸ hL

end Sys2Proof.Machine

/-! ### The statements -/

section

open Sys2Proof Sys2Proof.Machine

/-- Settles O54: every opening and every move has room in the pool for what it writes. -/
theorem stepKeepsPoolAccounted : Obligations.StepKeepsPoolAccounted := fun _ _ hs h =>
  step_keeps Ledger.Opening.keeps_poolAccounted Ledger.Move.keeps_poolAccounted h hs

/-- Settles O55: every opening and every move keeps the table's slots and its two contexts together. -/
theorem stepKeepsTableSound : Obligations.StepKeepsTableSound := fun s t hs h =>
  (State.tableSound_iff t).mpr <|
    step_keeps (P := fun L => L.table.Sound) Ledger.Opening.keeps_sound Ledger.Move.keeps_sound h
      ((State.tableSound_iff s).mp hs)

/-- Settles O3: within one command a slot's stage never falls, so a code cannot be replaced by another. -/
theorem codeCellsNeverChange : Obligations.CodeCellsNeverChange := fun _ _ _ _ _ _ h ha hb =>
  (exec_next_turn h).code_agrees ha hb

end
end

section
/-! PROOFS. The job queue's order, the references counted, and the inputs taken (R9, R34, R39, R42, R43, R125, R149, R156),
each a case analysis of the moves. -/

namespace Sys2Proof.Machine

/-! ### The queue in order -/

/-- A list that is its part with a property ahead of its part without is one in which the property is never met behind its
absence. -/
theorem eq_filter_append_filter_iff_pairwise {α : Type} (p : α → Bool) (l : List α) :
    l = l.filter p ++ l.filter (fun a => !p a) ↔ l.Pairwise fun a b => p b = true → p a = true := by
  induction l with
  | nil => simp
  | cons a l ih =>
    rw [List.pairwise_cons]
    cases hp : p a with
    | true => simpa [hp] using ih
    | false =>
      constructor
      · intro h
        cases hf : l.filter p with
        | nil =>
          have hnone : ∀ b ∈ l, ¬p b = true := List.filter_eq_nil_iff.mp hf
          refine ⟨fun b hb hpb => absurd hpb (hnone b hb), ?_⟩
          exact List.pairwise_of_forall_mem_list fun b _ c hc hpc => absurd hpc (hnone c hc)
        | cons b m =>
          have hb : p b = true := (List.mem_filter.mp (hf ▸ List.mem_cons_self : b ∈ l.filter p)).2
          rw [List.filter_cons_of_neg (by simp [hp]), hf, List.cons_append] at h
          obtain rfl : a = b := (List.cons.inj h).1
          exact absurd hb (by simp [hp])
      · rintro ⟨hnone, -⟩
        have hnone' : ∀ b ∈ l, ¬p b = true := fun b hb hpb => by simpa using hnone b hb hpb
        have hall : l.filter (fun a => !p a) = l := List.filter_eq_self.mpr fun b hb => by simpa using hnone' b hb
        simp [hp, List.filter_eq_nil_iff.mpr hnone', hall]

theorem State.queueOrdered_iff (s : State) : s.queueOrdered ↔ s.ledger.Ordered := by
  have hclasses : s.jobs = s.jobs.filter Job.isUrgent ++ s.jobs.filter (fun j => !j.isUrgent) ↔
      s.ledger.jobs.Pairwise fun a b => b.urgent = true → a.urgent = true := by
    rw [eq_filter_append_filter_iff_pairwise, State.ledger_jobs, List.pairwise_map]
    rfl
  have hinputs : s.ledger.jobs.filterMap Brief.verifyInput = s.jobs.filterMap Job.verifyInput := by
    rw [State.ledger_jobs, List.filterMap_map]
    rfl
  have hrange : (∀ b ∈ s.ledger.jobs, isJobId b.id) ↔ ∀ j ∈ s.jobs, isJobId j.id := List.forall_mem_map
  have hlength : s.ledger.jobs.length = s.jobs.length := by simp
  constructor
  · rintro ⟨places, ids, idRange, nextRange, classes, inputs⟩
    exact ⟨hlength ▸ places, s.ids_eq ▸ ids, hrange.mpr idRange, nextRange, hclasses.mp classes, hinputs ▸ inputs⟩
  · rintro ⟨places, ids, idRange, nextRange, classes, inputs⟩
    exact ⟨hlength ▸ places, s.ids_eq ▸ ids, hrange.mp idRange, nextRange, hclasses.mpr classes, hinputs ▸ inputs⟩

/-- Order is a matter of the jobs and the next-id counter. -/
theorem Ledger.Ordered.congr {L L' : Ledger} (h : L.Ordered) (hj : L'.jobs = L.jobs) (hn : L'.nextId = L.nextId) :
    L'.Ordered := by
  obtain ⟨places, ids, idRange, nextRange, classes, inputs⟩ := h
  constructor <;> simpa only [hj, hn]

/-- A queue from which jobs have left is in order. -/
theorem Ledger.Ordered.sublist {L L' : Ledger} (h : L.Ordered) (hj : L'.jobs.Sublist L.jobs) (hn : L'.nextId = L.nextId) :
    L'.Ordered where
  places := hj.length_le.trans h.places
  ids := h.ids.sublist (hj.map _)
  idRange b hb := h.idRange b (hj.subset hb)
  nextRange := hn ▸ h.nextRange
  classes := h.classes.sublist hj
  inputs := h.inputs.sublist (hj.filterMap _)

theorem Ledger.finish_jobs_sublist (L : Ledger) (id : Nat) : (L.finish id).jobs.Sublist L.jobs := by
  unfold Ledger.finish
  split
  · exact List.filter_sublist
  · exact .refl _

theorem Ledger.finish_nextId (L : Ledger) (id : Nat) : (L.finish id).nextId = L.nextId := by
  unfold Ledger.finish
  split <;> rfl

/-- Restating jobs changes what else the queue's order is told from in nothing. -/
theorem Ledger.restate_map {α : Type} (L : Ledger) (id : Nat) (p : Phase) (f : Brief → α)
    (hf : ∀ b, f { b with phase := p } = f b) : (L.restate id p).jobs.map f = L.jobs.map f := by
  simp only [Ledger.restate, List.map_map]
  refine List.map_congr_left fun b _ => ?_
  simp only [Function.comp_apply]
  split
  · exact hf b
  · rfl

/-- What holds of every job so far as it is not told from phases holds of the restated ones. -/
theorem Ledger.restate_forall {L : Ledger} {id : Nat} {p : Phase} {Q : Brief → Prop}
    (hQ : ∀ b, Q b → Q { b with phase := p }) (h : ∀ b ∈ L.jobs, Q b) : ∀ b ∈ (L.restate id p).jobs, Q b := by
  intro b hb
  obtain ⟨k, hk, rfl⟩ := List.mem_map.mp hb
  split
  · exact hQ k (h k hk)
  · exact h k hk

theorem Ledger.Ordered.restate {L : Ledger} (h : L.Ordered) (id : Nat) (p : Phase) : (L.restate id p).Ordered where
  places := by simpa [Ledger.restate] using h.places
  ids := L.restate_map id p Brief.id (fun _ => rfl) ▸ h.ids
  idRange := Ledger.restate_forall (fun _ hb => hb) h.idRange
  nextRange := h.nextRange
  classes := by
    have hm := L.restate_map id p Brief.urgent fun _ => rfl
    have hc := fun bs : List Brief =>
      List.pairwise_map (R := fun a b : Bool => b = true → a = true) (f := Brief.urgent) (l := bs)
    exact (hc _).mp (hm ▸ (hc _).mpr h.classes)
  inputs := by
    have hm := L.restate_map id p Brief.verifyInput fun _ => rfl
    have hfilter : ∀ bs : List Brief, bs.filterMap Brief.verifyInput = (bs.map Brief.verifyInput).filterMap fun v => v := by
      intro bs
      rw [List.filterMap_map]
      rfl
    rw [hfilter, hm, ← hfilter]
    exact h.inputs

/-! ### Admission to the queue -/

theorem joinBriefs_perm (bs : List Brief) (b : Brief) : (joinBriefs bs b).Perm (b :: bs) := by
  unfold joinBriefs
  split
  · refine List.perm_middle.trans ?_
    rw [List.takeWhile_append_dropWhile]
  · exact List.perm_append_singleton b bs

/-- A job that joins at its class position leaves URGENT jobs ahead of NORMAL ones (R43). -/
theorem joinBriefs_classes {bs : List Brief} (h : bs.Pairwise fun a b => b.urgent = true → a.urgent = true) (b : Brief) :
    (joinBriefs bs b).Pairwise fun a b => b.urgent = true → a.urgent = true := by
  unfold joinBriefs
  split
  · rename_i hb
    refine List.pairwise_append.mpr ⟨h.sublist (List.takeWhile_sublist _), ?_, fun a ha _ _ _ => ?_⟩
    · exact List.pairwise_cons.mpr ⟨fun _ _ _ => hb, h.sublist (List.dropWhile_sublist _)⟩
    · exact List.mem_takeWhile_imp ha
  · rename_i hb
    refine List.pairwise_append.mpr ⟨h, List.pairwise_singleton .., fun a _ c hc hu => ?_⟩
    rw [List.mem_singleton.mp hc] at hu
    exact absurd hu hb

theorem Ledger.enqueue_jobs_perm (L : Ledger) (b : Brief) : (L.enqueue b).jobs.Perm (b :: L.jobs) :=
  joinBriefs_perm L.jobs b

theorem Ledger.mem_enqueue {L : Ledger} {b k : Brief} : k ∈ (L.enqueue b).jobs ↔ k = b ∨ k ∈ L.jobs := by
  rw [(L.enqueue_jobs_perm b).mem_iff, List.mem_cons]

theorem Ledger.Ordered.enqueue {L : Ledger} (h : L.Ordered) {b : Brief} (room : L.jobs.length < 16) (hid : isJobId b.id)
    (fresh : ∀ k ∈ L.jobs, k.id ≠ b.id) (input : ∀ v, b.verifyInput = some v → ∀ k ∈ L.jobs, k.verifyInput ≠ some v) :
    (L.enqueue b).Ordered where
  places := by
    rw [(L.enqueue_jobs_perm b).length_eq, List.length_cons]
    omega
  ids := by
    refine ((L.enqueue_jobs_perm b).map Brief.id).nodup_iff.mpr (List.nodup_cons.mpr ⟨fun hmem => ?_, h.ids⟩)
    obtain ⟨k, hk, he⟩ := List.mem_map.mp hmem
    exact fresh k hk he
  idRange k hk := by
    obtain rfl | hk := Ledger.mem_enqueue.mp hk
    · exact hid
    · exact h.idRange k hk
  nextRange := by
    change isJobId (nextIdAfter b.id)
    unfold nextIdAfter
    split <;> constructor <;> omega
  classes := joinBriefs_classes h.classes b
  inputs := by
    refine ((L.enqueue_jobs_perm b).filterMap Brief.verifyInput).nodup_iff.mpr ?_
    cases hv : b.verifyInput with
    | none =>
      rw [List.filterMap_cons_none hv]
      exact h.inputs
    | some v =>
      rw [List.filterMap_cons_some hv]
      refine List.nodup_cons.mpr ⟨fun hmem => ?_, h.inputs⟩
      obtain ⟨k, hk, he⟩ := List.mem_filterMap.mp hmem
      exact input v hv k hk he

theorem Ledger.ordered_of_no_jobs {L : Ledger} (hj : L.jobs = []) (hn : L.nextId = 1) : L.Ordered := by
  constructor <;> simp [hj, hn, isJobId]

theorem Ledger.Opening.keeps_ordered {L L' : Ledger} (h : L.Opening L') (hL : L.Ordered) : L'.Ordered := by
  cases h <;> exact hL.congr rfl rfl

theorem Ledger.bind_nextId (L : Ledger) (id : Nat) (v : Option InputNo) : (L.bind id v).nextId = L.nextId := by
  cases v <;> rfl

theorem Ledger.Ordered.bind {L : Ledger} (h : L.Ordered) (id : Nat) (v : Option InputNo) : (L.bind id v).Ordered :=
  h.congr (L.bind_jobs id v) (L.bind_nextId id v)

theorem Ledger.Ordered.finish {L : Ledger} (h : L.Ordered) (id : Nat) : (L.finish id).Ordered :=
  h.sublist (L.finish_jobs_sublist id) (L.finish_nextId id)

theorem Ledger.Move.keeps_ordered {L L' : Ledger} (h : L.Move L') (hL : L.Ordered) : L'.Ordered := by
  cases h with
  | enqueue ready room fresh waits input =>
    obtain ⟨hid, hfresh⟩ := fresh hL.nextRange
    exact hL.enqueue room hid hfresh fun v hv => (input v hv).2
  | start live waits => exact (hL.restate _ _).bind _ _
  | settle live names bound => exact hL.restate _ _
  | finish live unbound => exact hL.finish _
  | release live bound => exact Ledger.Ordered.finish (L := L.unbind _) (hL.congr rfl rfl) _
  | restart => exact Ledger.ordered_of_no_jobs rfl rfl
  | reset => exact Ledger.ordered_of_no_jobs rfl rfl
  | disordered disorder table => exact absurd hL disorder
  | store | abandon | complete | amend | erase | defer | retire | clearLearning | noteLearn | endLearn | storeLearned
  | setMode => exact hL.congr rfl rfl

/-! ### References -/

/-- The live jobs that name a slot (R9). -/
def Ledger.jobsOn (L : Ledger) (i : SlotNo) : Nat :=
  L.jobs.countP fun b => decide (b.slot = i)

/-- A slot whose reference count is a number, as `State.referencesOf` asks (R9, R11). -/
def Slot.Counts (n : Nat) : Slot → Prop
  | .ready c => c.refs = n
  | .retiring c => c.refs = n ∧ 1 ≤ c.refs
  | .empty => n = 0
  | .loading _ _ => n = 0
  | .learning => n = 0

/-- Every slot counts its jobs. -/
def Ledger.Counted (L : Ledger) : Prop :=
  ∀ i, (L.slot i).Counts (L.jobsOn i)

theorem State.jobsOn_eq (s : State) (i : SlotNo) : s.ledger.jobsOn i = s.jobsOn i := by
  simp only [Ledger.jobsOn, State.jobsOn, State.ledger_jobs, List.countP_map]
  rfl

theorem State.referencesCounted_iff (s : State) : s.referencesCounted ↔ s.ledger.Ordered ∧ s.ledger.Counted := by
  refine and_congr s.queueOrdered_iff (forall_congr' fun i => ?_)
  unfold State.referencesOf
  rw [State.ledger_slot, State.jobsOn_eq]
  cases s.slot i <;> exact Iff.rfl

/-- With the same jobs, a slot written counts them when it counts whatever the old one did. -/
theorem Ledger.Counted.put {L L' : Ledger} (h : L.Counted) {i : SlotNo} {x : Slot} (hs : ∀ k, L'.slot k = (L.put i x).slot k)
    (hj : L'.jobs = L.jobs) (hx : ∀ n, (L.slot i).Counts n → x.Counts n) : L'.Counted := by
  intro k
  have hn : L'.jobsOn k = L.jobsOn k := by simp [Ledger.jobsOn, hj]
  rw [hs, hn, Ledger.slot_put]
  split
  · exact ‹k = i› ▸ hx _ (‹k = i› ▸ h k)
  · exact h k

theorem Slot.Counts.unloaded {n : Nat} {x : Slot} (h : x.Counts n) : x.unloaded.Counts n := by
  cases x <;> exact h

theorem Slot.Counts.extended {n : Nat} {x : Slot} (h : x.Counts n) (cells : List Nat) : (x.extended cells).Counts n := by
  cases x <;> exact h

theorem Slot.Counts.loaded {n : Nat} {x : Slot} (h : x.Counts n) (checksum : Word16) : (x.loaded checksum).Counts n := by
  cases x with
  | loading g cells => exact Eq.symm h
  | empty | learning | ready _ | retiring _ => exact h

theorem Slot.Counts.unlearned {n : Nat} {x : Slot} (h : x.Counts n) : x.unlearned.Counts n := by
  cases x <;> exact h

theorem Slot.Counts.learned {n : Nat} {x : Slot} (h : x.Counts n) {c : Code} (hc : c.refs = 0) : (x.learned c).Counts n := by
  cases x with
  | learning => exact hc.trans (Eq.symm h)
  | empty | loading _ _ | ready _ | retiring _ => exact h

/-- A slot with a count that is not 0 holds a code. -/
theorem Slot.Counts.withoutReference {n : Nat} {x : Slot} (h : x.Counts (n + 1)) : x.withoutReference.Counts n := by
  cases x with
  | ready c =>
    have hc : c.refs = n + 1 := h
    exact Nat.sub_eq_of_eq_add hc
  | retiring c =>
    obtain ⟨hc, -⟩ := h
    simp only [Slot.withoutReference]
    split
    · have hn : n = 0 := by omega
      exact hn
    · have hn : c.refs - 1 = n ∧ 1 ≤ c.refs - 1 := by omega
      exact hn
  | empty | loading _ _ | learning => exact absurd h (Nat.succ_ne_zero n)

/-- Among jobs with distinct ids, the one that has an id is the only one that leaves with it. -/
theorem perm_cons_filter_of_mem {bs : List Brief} (hn : (bs.map Brief.id).Nodup) {b : Brief} (hb : b ∈ bs) :
    bs.Perm (b :: bs.filter fun k => decide (k.id ≠ b.id)) := by
  induction bs with
  | nil => cases hb
  | cons c bs ih =>
    obtain ⟨hc, hn⟩ := List.nodup_cons.mp hn
    have hne : ∀ k ∈ bs, k.id ≠ c.id := fun k hk he => hc (List.mem_map.mpr ⟨k, hk, he⟩)
    obtain rfl | hb := List.mem_cons.mp hb
    · have hall : bs.filter (fun k => decide (k.id ≠ b.id)) = bs :=
        List.filter_eq_self.mpr fun k hk => decide_eq_true (hne k hk)
      rw [List.filter_cons_of_neg (by simp), hall]
    · rw [List.filter_cons_of_pos (by simpa using (hne b hb).symm)]
      exact ((ih hn hb).cons c).trans (.swap b c _)

theorem Ledger.job?_mem {L : Ledger} {id : Nat} {b : Brief} (h : L.job? id = some b) : b ∈ L.jobs :=
  List.mem_of_find?_eq_some h

theorem Ledger.finish_eq {L : Ledger} {b : Brief} (h : L.job? b.id = some b) : L.finish b.id = L.remove b := by
  simp [Ledger.finish, h]

/-- A job that is removed gives up its one reference (R9, R106). -/
theorem Ledger.Counted.remove {L : Ledger} (h : L.Counted) (ho : L.Ordered) {b : Brief} (hb : b ∈ L.jobs) :
    (L.remove b).Counted := by
  intro k
  have hn : L.jobsOn k = (L.remove b).jobsOn k + if b.slot = k then 1 else 0 := by
    have hp := (perm_cons_filter_of_mem ho.ids hb).countP_eq fun c => decide (c.slot = k)
    rw [List.countP_cons] at hp
    simpa [Ledger.jobsOn, Ledger.remove] using hp
  have hk := h k
  have hs : (L.remove b).slot k = if k = b.slot then (L.slot b.slot).withoutReference else L.slot k :=
    L.slot_put b.slot k _
  rw [hs]
  by_cases he : k = b.slot
  · subst he
    rw [if_pos rfl] at hn ⊢
    exact (hn ▸ hk).withoutReference
  · rw [if_neg he]
    rw [if_neg (Ne.symm he), Nat.add_zero] at hn
    exact hn ▸ hk

/-- A job that is admitted takes one reference (R9, R41). -/
theorem Ledger.Counted.enqueue {L : Ledger} (h : L.Counted) {b : Brief} {c : Code} (ready : L.slot b.slot = .ready c) :
    (L.enqueue b).Counted := by
  intro k
  have hn : (L.enqueue b).jobsOn k = L.jobsOn k + if b.slot = k then 1 else 0 := by
    rw [Ledger.jobsOn, (L.enqueue_jobs_perm b).countP_eq, List.countP_cons]
    simp [Ledger.jobsOn]
  have hk := h k
  have hs : (L.enqueue b).slot k = if k = b.slot then (L.slot b.slot).withReference else L.slot k :=
    L.slot_put b.slot k _
  rw [hs, hn]
  by_cases he : k = b.slot
  · subst he
    rw [ready] at hk
    rw [if_pos rfl, if_pos rfl, ready]
    exact congrArg (· + 1) hk
  · rw [if_neg he, if_neg (Ne.symm he)]
    exact hk

theorem Slot.Counts.afterRestart {n : Nat} {x : Slot} (h : x.Counts n) : x.afterRestart.Counts 0 := by
  cases x <;> exact rfl

theorem Ledger.Opening.keeps_counted {L L' : Ledger} (h : L.Opening L') (hL : L.Counted) : L'.Counted := by
  cases h with
  | load empty free room offset sum =>
    refine hL.put (fun _ => rfl) rfl fun n hn => ?_
    rw [empty] at hn
    exact hn
  | learn empty free untaken unnamed =>
    refine hL.put (fun _ => rfl) rfl fun n hn => ?_
    rw [empty] at hn
    exact hn

theorem Ledger.Move.keeps_counted {L L' : Ledger} (h : L.Move L') (ho : L.Ordered) (hL : L.Counted) : L'.Counted := by
  cases h with
  | store inUse fits long => exact hL.put (fun _ => rfl) rfl fun _ hn => hn.extended _
  | abandon loads => exact hL.put (fun _ => rfl) rfl fun _ hn => hn.unloaded
  | complete inUse all => exact hL.put (fun _ => rfl) rfl fun _ hn => hn.loaded _
  | amend label matchable tolerance ready =>
    refine hL.put (fun _ => rfl) rfl fun n hn => ?_
    rw [ready] at hn
    exact hn
  | erase ready unused =>
    refine hL.put (fun _ => rfl) rfl fun n hn => ?_
    rw [ready] at hn
    exact hn.symm.trans unused
  | defer ready used =>
    refine hL.put (fun _ => rfl) rfl fun n hn => ?_
    rw [ready] at hn
    exact ⟨hn, Nat.one_le_iff_ne_zero.mpr used⟩
  | retire retiring unused =>
    refine hL.put (fun _ => rfl) rfl fun n hn => ?_
    rw [retiring] at hn
    exact hn.1.symm.trans unused
  | clearLearning learning stray =>
    refine hL.put (fun _ => rfl) rfl fun n hn => ?_
    rw [learning] at hn
    exact hn
  | noteLearn inUse slot input => exact hL
  | endLearn inUse => exact hL.put (fun _ => rfl) rfl fun _ hn => hn.unlearned
  | storeLearned inUse room whole unused => exact hL.put (fun _ => rfl) rfl fun _ hn => hn.learned unused
  | setMode untaken free => exact hL
  | enqueue ready room fresh waits input => exact hL.enqueue ready
  | @start b live waits =>
    intro i
    have hn : ((L.restate b.id .playing).bind b.id b.verifyInput).jobsOn i = L.jobsOn i := by
      have hm := congrArg (List.countP fun k => decide (k = i)) (L.restate_map b.id .playing Brief.slot fun _ => rfl)
      simpa [Ledger.jobsOn, List.countP_map, Function.comp_def] using hm
    rw [hn, Ledger.bind_slot]
    exact hL i
  | @settle b v live names bound =>
    intro i
    have hn : (L.restate b.id .settling).jobsOn i = L.jobsOn i := by
      have hm := congrArg (List.countP fun k => decide (k = i)) (L.restate_map b.id .settling Brief.slot fun _ => rfl)
      simpa [Ledger.jobsOn, List.countP_map, Function.comp_def] using hm
    rw [hn]
    exact hL i
  | finish live unbound =>
    rw [Ledger.finish_eq live]
    exact hL.remove ho (Ledger.job?_mem live)
  | @release b v live bound =>
    rw [Ledger.finish_eq (L := L.unbind v) live]
    exact Ledger.Counted.remove (L := L.unbind v) hL (ho.congr rfl rfl) (Ledger.job?_mem live)
  | restart =>
    intro i
    rw [Ledger.restart_slot]
    exact (hL i).afterRestart
  | reset =>
    intro i
    rw [Ledger.fresh_slot]
    exact rfl
  | disordered disorder table => exact absurd ho disorder

/-! ### Taken inputs -/

/-- An input that a mode, a saved mode and a verify record suit: a saved mode while it is taken, and a record while it is
in VERIFY (R125, R156). -/
structure Hold.Sound (h : Hold) : Prop where
  saved : h.saved.isSome = true ↔ h.mode.isTaken = true
  savedFree : ∀ m, h.saved = some m → m.isTaken = false
  bound : h.bound.isSome = true ↔ h.mode = .verify

/-- The inputs taken as `State.inputsTaken` says (R105, R125, R149, R156). -/
structure Ledger.Taken (L : Ledger) : Prop where
  holds : ∀ v, (L.holds v).Sound
  learns : ∀ v, (L.holds v).mode = .learn ↔ ∃ x, L.table.learn = some x ∧ x.input = v
  unnamed : ∀ b ∈ L.jobs, ∀ v, b.verifyInput = some v → (L.holds v).mode ≠ .learn
  binds : ∀ v id, (L.holds v).bound = some id →
    ∃ b ∈ L.jobs, b.id = id ∧ b.verifyInput = some v ∧ b.phase ≠ .waiting
  waits : ∀ b ∈ L.jobs, ∀ v, b.verifyInput = some v → (L.holds v).bound = none → b.phase = .waiting
  settles : ∀ b ∈ L.jobs, b.phase = .settling → b.verifyInput.isSome = true

theorem InputMode.isTaken_iff (m : InputMode) : m.isTaken = true ↔ m = .learn ∨ m = .verify := by
  cases m <;> simp [InputMode.isTaken]

theorem InputMode.not_isTaken_iff (m : InputMode) : m.isTaken = false ↔ m ≠ .learn ∧ m ≠ .verify := by
  cases m <;> simp [InputMode.isTaken]

/-- What `State.verifyBinds` and `State.modeSaved` say of one input, read from the ledger. -/
theorem State.hold_sound {s : State} {v : InputNo} (hv : s.verifyBinds v) (hm : s.modeSaved v) :
    (s.input v).hold.Sound := by
  obtain ⟨hsaved, hfree, -⟩ := hm
  refine ⟨?_, fun m h => (InputMode.not_isTaken_iff m).mpr (hfree m h), ?_⟩
  · rw [InputMode.isTaken_iff]
    exact hsaved
  · unfold State.verifyBinds at hv
    split at hv
    · rename_i r hr
      simp [RxInput.hold, hr, hv.1]
    · rename_i hr
      simp [RxInput.hold, hr, hv.1]

theorem Job.brief_phase_waiting_iff (j : Job) : j.brief.phase = .waiting ↔ j.state = .waiting := by
  unfold Job.brief JobState.phase
  cases j.state <;> simp

theorem Job.brief_phase_settling_iff (j : Job) : j.brief.phase = .settling ↔ j.state = .settling := by
  unfold Job.brief JobState.phase
  cases j.state <;> simp

theorem State.taken_of_inputsTaken {s : State} (h : s.inputsTaken) : s.ledger.Taken := by
  obtain ⟨-, hlearn, hinputs, hsettles⟩ := h
  have hlearns : ∀ v, (s.input v).mode = .learn ↔ ∃ x, s.table.learn = some x ∧ x.input = v := fun v => by
    obtain ⟨-, -, -, hback⟩ := hinputs v
    refine ⟨hback, ?_⟩
    rintro ⟨x, hx, rfl⟩
    exact (hlearn x hx).1
  refine ⟨fun v => State.hold_sound (hinputs v).1 (hinputs v).2, hlearns, ?_, fun v id hid => ?_, ?_, ?_⟩
  · refine List.forall_mem_map.mpr fun j hj v hv hmode => ?_
    obtain ⟨x, hx, rfl⟩ := (hlearns v).mp hmode
    exact (hlearn x hx).2 j hj hv
  · obtain ⟨r, hr, rfl⟩ := Option.map_eq_some_iff.mp hid
    have hbinds := (hinputs v).1
    unfold State.verifyBinds at hbinds
    rw [hr] at hbinds
    obtain ⟨-, j, hj, hid, hnames, hstate⟩ := hbinds
    exact ⟨j.brief, List.mem_map_of_mem hj, hid, hnames, mt j.brief_phase_waiting_iff.mp hstate⟩
  · refine List.forall_mem_map.mpr fun j hj v hv hnone => j.brief_phase_waiting_iff.mpr ?_
    have hbinds := (hinputs v).1
    unfold State.verifyBinds at hbinds
    rw [Option.map_eq_none_iff.mp hnone] at hbinds
    exact hbinds.2 j hj hv
  · exact List.forall_mem_map.mpr fun j hj hp => hsettles j hj (j.brief_phase_settling_iff.mp hp)

theorem State.inputsTaken_of_taken {s : State} (ho : s.ledger.Ordered) (h : s.ledger.Taken) : s.inputsTaken := by
  have hjob : ∀ {j}, j ∈ s.jobs → j.brief ∈ s.ledger.jobs := fun hj => List.mem_map_of_mem hj
  refine ⟨s.queueOrdered_iff.mpr ho, fun x hx => ?_, fun v => ⟨?_, ?_⟩, fun j hj hs => ?_⟩
  · have hmode : (s.input x.input).mode = .learn := (h.learns x.input).mpr ⟨x, hx, rfl⟩
    exact ⟨hmode, fun j hj hv => h.unnamed j.brief (hjob hj) x.input hv hmode⟩
  · have hbound := (h.holds v).bound
    unfold State.verifyBinds
    split
    · rename_i r hr
      have hid : (s.ledger.holds v).bound = some r.job := by simp [RxInput.hold, hr]
      obtain ⟨b, hb, hbid, hnames, hphase⟩ := h.binds v r.job hid
      obtain ⟨j, hj, rfl⟩ := List.mem_map.mp hb
      exact ⟨hbound.mp (hid ▸ rfl), j, hj, hbid, hnames, mt j.brief_phase_waiting_iff.mpr hphase⟩
    · rename_i hr
      have hnone : (s.ledger.holds v).bound = none := by simp [RxInput.hold, hr]
      refine ⟨fun hmode => ?_, fun j hj hv => ?_⟩
      · exact nomatch hnone ▸ hbound.mpr hmode
      · exact j.brief_phase_waiting_iff.mp (h.waits j.brief (hjob hj) v hv hnone)
  · refine ⟨?_, fun m hm => (InputMode.not_isTaken_iff m).mp ((h.holds v).savedFree m hm), (h.learns v).mp⟩
    rw [← InputMode.isTaken_iff]
    exact (h.holds v).saved
  · exact h.settles j.brief (hjob hj) (j.brief_phase_settling_iff.mpr hs)

theorem State.inputsTaken_iff (s : State) : s.inputsTaken ↔ s.ledger.Ordered ∧ s.ledger.Taken :=
  ⟨fun h => ⟨s.queueOrdered_iff.mp h.1, State.taken_of_inputsTaken h⟩, fun h => State.inputsTaken_of_taken h.1 h.2⟩

/-! ### One input's hold -/

section Holds

variable {h : Hold} (hs : h.Sound)
include hs

theorem Hold.Sound.saved_none (hfree : h.mode.isTaken = false) : h.saved = none := by
  rw [← Option.not_isSome_iff_eq_none, hs.saved, hfree]
  exact Bool.false_ne_true

theorem Hold.Sound.bound_none (hmode : h.mode ≠ .verify) : h.bound = none := by
  rwa [← Option.not_isSome_iff_eq_none, hs.bound]

/-- The mode of an input when it is given back is one that takes nothing (R125). -/
theorem Hold.Sound.back_free : (h.saved.getD h.mode).isTaken = false := by
  cases hsaved : h.saved with
  | some m => exact hs.savedFree m hsaved
  | none =>
    rw [Option.getD_none, ← Bool.not_eq_true, ← hs.saved, hsaved]
    exact Bool.false_ne_true

end Holds

/-- An input that is not taken may be taken (R125). -/
theorem Hold.sound_taken {h : Hold} (hfree : h.mode.isTaken = false) {m : InputMode} {bound : Option Nat} (hm : m.isTaken = true)
    (hbound : bound.isSome = true ↔ m = .verify) : ({ mode := m, saved := some h.mode, bound := bound } : Hold).Sound where
  saved := by simp [hm]
  savedFree k hk := by
    cases hk
    exact hfree
  bound := hbound

/-- An input that is not taken has no saved mode and no record. -/
theorem Hold.sound_free {m : InputMode} (hm : m.isTaken = false) :
    ({ mode := m, saved := none, bound := none } : Hold).Sound where
  saved := by simp [hm]
  savedFree _ hk := nomatch hk
  bound := by simp [((InputMode.not_isTaken_iff m).mp hm).2]

/-! ### What openings and moves do to the inputs taken -/

theorem Ledger.setHold_apply (L : Ledger) (v w : InputNo) (h : Hold) :
    (L.setHold v h).holds w = if w = v then h else L.holds w :=
  Function.update_apply ..

section Taken

variable {L : Ledger} (hL : L.Taken)
include hL

theorem Ledger.Taken.congr {L' : Ledger} (hj : L'.jobs = L.jobs) (hh : L'.holds = L.holds)
    (hx : L'.table.learn = L.table.learn) : L'.Taken := by
  obtain ⟨holds, learns, unnamed, binds, waits, settles⟩ := hL
  constructor <;> simpa only [hj, hh, hx]

/-- The learn in progress has taken its input. -/
theorem Ledger.Taken.learn_mode {x : LearnContext} (hx : L.table.learn = some x) : (L.holds x.input).mode = .learn :=
  (hL.learns x.input).mpr ⟨x, hx, rfl⟩

/-- An input that is in another mode than LEARN gets a hold that suits it, in a mode other than LEARN and with the record
that it had: what the ledger says of jobs and of the learn is not touched. -/
theorem Ledger.Taken.setHold {v : InputNo} {h : Hold} (hold : (L.holds v).mode ≠ .learn) (hnew : h.mode ≠ .learn)
    (hs : h.Sound) (hbound : h.bound = (L.holds v).bound) : (L.setHold v h).Taken where
  holds w := by
    rw [Ledger.setHold_apply]
    split
    · exact hs
    · exact hL.holds w
  learns w := by
    rw [Ledger.setHold_apply]
    split
    · rename_i hw
      subst hw
      exact iff_of_false hnew fun hx => hold ((hL.learns w).mpr hx)
    · exact hL.learns w
  unnamed b hb w hw := by
    rw [Ledger.setHold_apply]
    split
    · exact hnew
    · exact hL.unnamed b hb w hw
  binds w id hid := by
    rw [Ledger.setHold_apply] at hid
    split at hid
    · rename_i hw
      exact hw ▸ hL.binds v id (hbound ▸ hid)
    · exact hL.binds w id hid
  waits b hb w hw hnone := by
    rw [Ledger.setHold_apply] at hnone
    split at hnone
    · exact hL.waits b hb w hw (‹w = v› ▸ hbound ▸ hnone)
    · exact hL.waits b hb w hw hnone
  settles := hL.settles

/-- A learn takes an input that is not taken and that no job names (R149). -/
theorem Ledger.Taken.startLearn {t : CodeTable} {x : LearnContext} (ht : t.learn = some x)
    (hfree : (L.holds x.input).mode.isTaken = false) (hnone : L.table.learn = none)
    (hunnamed : ∀ b ∈ L.jobs, b.verifyInput ≠ some x.input) :
    (({ L with table := t } : Ledger).takeInput x.input .learn).Taken := by
  have hmode := (InputMode.not_isTaken_iff _).mp hfree
  have hbound := (hL.holds x.input).bound_none hmode.2
  have happly : ∀ w, (({ L with table := t } : Ledger).takeInput x.input .learn).holds w =
      if w = x.input then { mode := .learn, saved := some (L.holds x.input).mode, bound := (L.holds x.input).bound }
      else L.holds w := fun w => Ledger.setHold_apply ..
  refine ⟨fun w => ?_, fun w => ?_, fun b hb w hw => ?_, fun w id hid => ?_, fun b hb w hw hnone' => ?_, hL.settles⟩
  · rw [happly]
    split
    · exact Hold.sound_taken hfree rfl (by simp [hbound])
    · exact hL.holds w
  · rw [happly]
    split
    · exact iff_of_true rfl ⟨x, ht, (‹w = x.input›).symm⟩
    · rename_i hw
      refine iff_of_false (fun h => ?_) ?_
      · obtain ⟨y, hy, -⟩ := (hL.learns w).mp h
        exact nomatch hnone.symm.trans hy
      · rintro ⟨y, hy, rfl⟩
        obtain rfl : x = y := Option.some_injective _ (ht.symm.trans hy)
        exact hw rfl
  · rw [happly, if_neg]
    · exact hL.unnamed b hb w hw
    · rintro rfl
      exact hunnamed b hb hw
  · rw [happly] at hid
    split at hid
    · exact nomatch hbound.symm.trans hid
    · exact hL.binds w id hid
  · rw [happly, if_neg] at hnone'
    · exact hL.waits b hb w hw hnone'
    · rintro rfl
      exact hunnamed b hb hw

/-- A learn that ends gives its input back (R153). -/
theorem Ledger.Taken.endLearn {t : CodeTable} {x : LearnContext} (hx : L.table.learn = some x) (ht : t.learn = none) :
    (({ L with table := t } : Ledger).giveBack x.input).Taken := by
  have hs := hL.holds x.input
  have hmode := hL.learn_mode hx
  have hbound : (L.holds x.input).bound = none := hs.bound_none (by simp [hmode])
  have hback := (InputMode.not_isTaken_iff _).mp hs.back_free
  have happly : ∀ w, (({ L with table := t } : Ledger).giveBack x.input).holds w =
      if w = x.input then
        { mode := (L.holds x.input).saved.getD (L.holds x.input).mode, saved := none, bound := (L.holds x.input).bound }
      else L.holds w := fun w => Ledger.setHold_apply ..
  refine ⟨fun w => ?_, fun w => ?_, fun b hb w hw => ?_, fun w id hid => ?_, fun b hb w hw hnone => ?_, hL.settles⟩
  · rw [happly]
    split
    · rw [hbound]
      exact Hold.sound_free hs.back_free
    · exact hL.holds w
  · have hright : ¬∃ y, t.learn = some y ∧ y.input = w := by
      rintro ⟨y, hy, -⟩
      exact nomatch ht.symm.trans hy
    rw [happly]
    split
    · exact iff_of_false hback.1 hright
    · rename_i hw
      refine iff_of_false (fun h => ?_) hright
      obtain ⟨y, hy, rfl⟩ := (hL.learns w).mp h
      obtain rfl : x = y := Option.some_injective _ (hx.symm.trans hy)
      exact hw rfl
  · rw [happly]
    split
    · exact hback.1
    · exact hL.unnamed b hb w hw
  · rw [happly] at hid
    split at hid
    · exact nomatch hbound.symm.trans hid
    · exact hL.binds w id hid
  · rw [happly] at hnone
    split at hnone
    · exact hL.waits b hb w hw (‹w = x.input› ▸ hbound)
    · exact hL.waits b hb w hw hnone

theorem Ledger.Taken.noteLearn {x y : LearnContext} (hx : L.table.learn = some x) (hi : y.input = x.input) :
    (L.setLearn (some y)).Taken where
  holds := hL.holds
  learns w := by
    rw [show (L.setLearn (some y)).holds = L.holds from rfl, hL.learns w, hx]
    simp [Ledger.setLearn, hi]
  unnamed := hL.unnamed
  binds := hL.binds
  waits := hL.waits
  settles := hL.settles

/-- An admitted job waits, and names an input that is free (R39). -/
theorem Ledger.Taken.enqueue {b : Brief} (hwaits : b.phase = .waiting)
    (hinput : ∀ v, b.verifyInput = some v → (L.holds v).mode ≠ .learn) : (L.enqueue b).Taken where
  holds := hL.holds
  learns := hL.learns
  unnamed k hk v hv := by
    obtain rfl | hk := Ledger.mem_enqueue.mp hk
    · exact hinput v hv
    · exact hL.unnamed k hk v hv
  binds v id hid := by
    obtain ⟨k, hk, hrest⟩ := hL.binds v id hid
    exact ⟨k, Ledger.mem_enqueue.mpr (.inr hk), hrest⟩
  waits k hk v hv hnone := by
    obtain rfl | hk := Ledger.mem_enqueue.mp hk
    · exact hwaits
    · exact hL.waits k hk v hv hnone
  settles k hk hp := by
    obtain rfl | hk := Ledger.mem_enqueue.mp hk
    · exact nomatch hwaits.symm.trans hp
    · exact hL.settles k hk hp

end Taken

/-! ### Jobs told apart -/

section Ordered

variable {L : Ledger} (ho : L.Ordered)
include ho

theorem Ledger.Ordered.eq_of_id {b k : Brief} (hb : b ∈ L.jobs) (hk : k ∈ L.jobs) (h : k.id = b.id) : k = b :=
  List.inj_on_of_nodup_map ho.ids hk hb h

/-- No verify input is named twice (R39). -/
theorem Ledger.Ordered.eq_of_input {b k : Brief} {v : InputNo} (hb : b ∈ L.jobs) (hk : k ∈ L.jobs)
    (hbv : b.verifyInput = some v) (hkv : k.verifyInput = some v) : k = b := by
  have hapart := List.pairwise_filterMap.mp ho.inputs
  have hsymm : Std.Symm fun b k : Brief => ∀ v, b.verifyInput = some v → ∀ w, k.verifyInput = some w → v ≠ w :=
    ⟨fun _ _ h v hv w hw => (h w hw v hv).symm⟩
  by_contra hne
  exact hapart.forall hk hb hne v hkv v hbv rfl

/-- A restated job among the others. -/
theorem Ledger.Ordered.mem_restate {b k : Brief} {p : Phase} (hb : b ∈ L.jobs) :
    k ∈ (L.restate b.id p).jobs ↔ k = { b with phase := p } ∨ k ∈ L.jobs ∧ k.id ≠ b.id := by
  constructor
  · intro hk
    obtain ⟨m, hm, rfl⟩ := List.mem_map.mp hk
    split
    · rename_i hid
      exact .inl (ho.eq_of_id hb hm hid ▸ rfl)
    · exact .inr ⟨hm, ‹_›⟩
  · rintro (rfl | ⟨hk, hid⟩)
    · exact List.mem_map.mpr ⟨b, hb, if_pos rfl⟩
    · exact Ledger.mem_restate_of_ne hk hid

end Ordered

theorem Ledger.mem_remove {L : Ledger} {b k : Brief} : k ∈ (L.remove b).jobs ↔ k ∈ L.jobs ∧ k.id ≠ b.id := by
  simp [Ledger.remove]

section Ends

variable {L : Ledger} (ho : L.Ordered) (hL : L.Taken)
include ho hL

/-- A waiting job has no record on the input that it names. -/
theorem Ledger.Taken.bound_none_of_waiting {b : Brief} (hb : b ∈ L.jobs) (hwaits : b.phase = .waiting) {v : InputNo}
    (hv : b.verifyInput = some v) : (L.holds v).bound = none := by
  refine Option.eq_none_iff_forall_ne_some.mpr fun id hid => ?_
  obtain ⟨k, hk, -, hkv, hphase⟩ := hL.binds v id hid
  obtain rfl := ho.eq_of_input hb hk hv hkv
  exact hphase hwaits

/-- A record names a job that names its input. -/
theorem Ledger.Taken.verifyInput_of_bound {b : Brief} (hb : b ∈ L.jobs) {v : InputNo}
    (hbound : (L.holds v).bound = some b.id) : b.verifyInput = some v ∧ b.phase ≠ .waiting := by
  obtain ⟨k, hk, hid, hkv, hphase⟩ := hL.binds v b.id hbound
  obtain rfl := ho.eq_of_id hb hk hid
  exact ⟨hkv, hphase⟩

/-- A job to which no input is bound is removed (R106). -/
theorem Ledger.Taken.remove {b : Brief} (hb : b ∈ L.jobs)
    (hunbound : ∀ v, b.verifyInput = some v → (L.holds v).bound ≠ some b.id) : (L.remove b).Taken where
  holds := hL.holds
  learns := hL.learns
  unnamed k hk := hL.unnamed k (Ledger.mem_remove.mp hk).1
  binds v id hid := by
    obtain ⟨k, hk, rfl, hkv, hphase⟩ := hL.binds v id hid
    refine ⟨k, Ledger.mem_remove.mpr ⟨hk, fun he => ?_⟩, rfl, hkv, hphase⟩
    obtain rfl := ho.eq_of_id hb hk he
    exact hunbound v hkv hid
  waits k hk := hL.waits k (Ledger.mem_remove.mp hk).1
  settles k hk := hL.settles k (Ledger.mem_remove.mp hk).1

/-- A job's input is given back and the job is removed (R159, R160). -/
theorem Ledger.Taken.release {b : Brief} (hb : b ∈ L.jobs) {v : InputNo} (hbound : (L.holds v).bound = some b.id) :
    ((L.unbind v).remove b).Taken := by
  obtain ⟨hbv, -⟩ := hL.verifyInput_of_bound ho hb hbound
  have hs := hL.holds v
  have hmode : (L.holds v).mode = .verify := hs.bound.mp (hbound ▸ rfl)
  have hfree := hs.back_free
  have hback := (InputMode.not_isTaken_iff _).mp hfree
  have happly : ∀ w, ((L.unbind v).remove b).holds w =
      if w = v then { mode := (L.holds v).saved.getD (L.holds v).mode, saved := none, bound := none } else L.holds w :=
    fun w => Ledger.setHold_apply ..
  have hmem : ∀ {k}, k ∈ ((L.unbind v).remove b).jobs ↔ k ∈ L.jobs ∧ k.id ≠ b.id := Ledger.mem_remove
  refine ⟨fun w => ?_, fun w => ?_, fun k hk w hw => ?_, fun w id hid => ?_, fun k hk w hw hnone => ?_,
    fun k hk => hL.settles k (hmem.mp hk).1⟩
  · rw [happly]
    split
    · exact Hold.sound_free hfree
    · exact hL.holds w
  · rw [happly]
    split
    · rename_i hw
      subst hw
      refine iff_of_false hback.1 fun hx => ?_
      exact nomatch hmode.symm.trans ((hL.learns w).mpr hx)
    · exact hL.learns w
  · rw [happly]
    split
    · exact hback.1
    · exact hL.unnamed k (hmem.mp hk).1 w hw
  · rw [happly] at hid
    split at hid
    · exact nomatch hid
    · rename_i hw
      obtain ⟨k, hk, rfl, hkw, hphase⟩ := hL.binds w id hid
      refine ⟨k, hmem.mpr ⟨hk, fun he => ?_⟩, rfl, hkw, hphase⟩
      obtain rfl := ho.eq_of_id hb hk he
      exact hw (Option.some_injective _ (hkw.symm.trans hbv))
  · obtain ⟨hlive, hne⟩ := hmem.mp hk
    rw [happly] at hnone
    split at hnone
    · rename_i hwv
      subst hwv
      exact absurd (congrArg Brief.id (ho.eq_of_input hb hlive hbv hw)) hne
    · exact hL.waits k hlive w hw hnone

/-- A job with a bound verify input enters SETTLING (R105). -/
theorem Ledger.Taken.settle {b : Brief} (hb : b ∈ L.jobs) {v : InputNo} (hbv : b.verifyInput = some v)
    (hbound : (L.holds v).bound = some b.id) : (L.restate b.id .settling).Taken where
  holds := hL.holds
  learns := hL.learns
  unnamed := Ledger.restate_forall (fun _ hk => hk) hL.unnamed
  binds w id hid := by
    obtain ⟨k, hk, rfl, hkw, hphase⟩ := hL.binds w id hid
    by_cases he : k.id = b.id
    · obtain rfl := ho.eq_of_id hb hk he
      exact ⟨_, (ho.mem_restate hb).mpr (.inl rfl), rfl, hkw, fun h => nomatch h⟩
    · exact ⟨k, (ho.mem_restate hb).mpr (.inr ⟨hk, he⟩), rfl, hkw, hphase⟩
  waits k hk w hw hnone := by
    obtain rfl | ⟨hk, -⟩ := (ho.mem_restate hb).mp hk
    · obtain rfl : v = w := Option.some_injective _ (hbv.symm.trans hw)
      exact nomatch hbound.symm.trans hnone
    · exact hL.waits k hk w hw hnone
  settles k hk hp := by
    obtain rfl | ⟨hk, -⟩ := (ho.mem_restate hb).mp hk
    · exact hbv ▸ rfl
    · exact hL.settles k hk hp

/-- A waiting job that names no input starts (R71). -/
theorem Ledger.Taken.startUnbound {b : Brief} (hb : b ∈ L.jobs) (hbv : b.verifyInput = none) :
    (L.restate b.id .playing).Taken where
  holds := hL.holds
  learns := hL.learns
  unnamed := Ledger.restate_forall (fun _ hk => hk) hL.unnamed
  binds w id hid := by
    obtain ⟨k, hk, rfl, hkw, hphase⟩ := hL.binds w id hid
    refine ⟨k, (ho.mem_restate hb).mpr (.inr ⟨hk, fun he => ?_⟩), rfl, hkw, hphase⟩
    obtain rfl := ho.eq_of_id hb hk he
    exact nomatch hbv.symm.trans hkw
  waits k hk w hw hnone := by
    obtain rfl | ⟨hk, -⟩ := (ho.mem_restate hb).mp hk
    · exact nomatch hbv.symm.trans hw
    · exact hL.waits k hk w hw hnone
  settles k hk hp := by
    obtain rfl | ⟨hk, -⟩ := (ho.mem_restate hb).mp hk
    · exact nomatch hp
    · exact hL.settles k hk hp

/-- A waiting job starts and binds the input that it names (R71, R156). -/
theorem Ledger.Taken.startBound {b : Brief} (hb : b ∈ L.jobs) (hwaits : b.phase = .waiting) {v : InputNo}
    (hbv : b.verifyInput = some v) : ((L.restate b.id .playing).bind b.id (some v)).Taken := by
  have hnone := hL.bound_none_of_waiting ho hb hwaits hbv
  have hlearn : (L.holds v).mode ≠ .learn := hL.unnamed b hb v hbv
  have hverify : (L.holds v).mode ≠ .verify := fun h => nomatch hnone ▸ (hL.holds v).bound.mpr h
  have hfree : (L.holds v).mode.isTaken = false := (InputMode.not_isTaken_iff _).mpr ⟨hlearn, hverify⟩
  have happly : ∀ w, ((L.restate b.id .playing).bind b.id (some v)).holds w =
      if w = v then { mode := .verify, saved := some (L.holds v).mode, bound := some b.id } else L.holds w :=
    fun w => Ledger.setHold_apply ..
  have hmem : ∀ {k}, k ∈ ((L.restate b.id .playing).bind b.id (some v)).jobs ↔
      k = { b with phase := .playing } ∨ k ∈ L.jobs ∧ k.id ≠ b.id := ho.mem_restate hb
  refine ⟨fun w => ?_, fun w => ?_, fun k hk w hw => ?_, fun w id hid => ?_, fun k hk w hw hn => ?_, fun k hk hp => ?_⟩
  · rw [happly]
    split
    · exact Hold.sound_taken hfree rfl (by simp)
    · exact hL.holds w
  · rw [happly]
    split
    · rename_i hw
      subst hw
      exact iff_of_false (fun h => nomatch h) fun hx => hlearn ((hL.learns w).mpr hx)
    · exact hL.learns w
  · rw [happly]
    split
    · exact fun h => nomatch h
    · obtain rfl | ⟨hk, -⟩ := hmem.mp hk
      · exact hL.unnamed b hb w hw
      · exact hL.unnamed k hk w hw
  · rw [happly] at hid
    split at hid
    · rename_i hw
      cases hid
      exact ⟨_, hmem.mpr (.inl rfl), rfl, hw ▸ hbv, fun h => nomatch h⟩
    · rename_i hw
      obtain ⟨k, hk, rfl, hkw, hphase⟩ := hL.binds w id hid
      refine ⟨k, hmem.mpr (.inr ⟨hk, fun he => ?_⟩), rfl, hkw, hphase⟩
      obtain rfl := ho.eq_of_id hb hk he
      exact hw (Option.some_injective _ (hkw.symm.trans hbv))
  · rw [happly] at hn
    split at hn
    · exact nomatch hn
    · rename_i hwv
      obtain rfl | ⟨hk, -⟩ := hmem.mp hk
      · exact absurd (Option.some_injective _ (hw.symm.trans hbv)) hwv
      · exact hL.waits k hk w hw hn
  · obtain rfl | ⟨hk, -⟩ := hmem.mp hk
    · exact nomatch hp
    · exact hL.settles k hk hp

end Ends

/-- With no job, no learn and every input given back, nothing is taken. -/
theorem Ledger.taken_of_no_jobs {L : Ledger} (hj : L.jobs = []) (hx : L.table.learn = none)
    (hh : ∀ v, (L.holds v).Sound) (hfree : ∀ v, (L.holds v).mode.isTaken = false) : L.Taken where
  holds := hh
  learns v := by
    refine iff_of_false ((InputMode.not_isTaken_iff _).mp (hfree v)).1 ?_
    rintro ⟨x, h, -⟩
    exact nomatch hx.symm.trans h
  unnamed b hb := nomatch hj ▸ hb
  binds v id hid := by
    have hnone := (hh v).bound_none ((InputMode.not_isTaken_iff _).mp (hfree v)).2
    exact nomatch hnone.symm.trans hid
  waits b hb := nomatch hj ▸ hb
  settles b hb := nomatch hj ▸ hb

theorem Ledger.Opening.keeps_taken {L L' : Ledger} (h : L.Opening L') (hL : L.Taken) : L'.Taken := by
  cases h with
  | load empty free room offset sum => exact hL.congr rfl rfl rfl
  | learn empty free untaken unnamed => exact hL.startLearn rfl untaken free unnamed

theorem Ledger.Move.keeps_taken {L L' : Ledger} (h : L.Move L') (ho : L.Ordered) (hL : L.Taken) : L'.Taken := by
  cases h with
  | noteLearn inUse slot input => exact hL.noteLearn inUse input
  | endLearn inUse => exact hL.endLearn inUse rfl
  | storeLearned inUse room whole unused => exact hL.endLearn inUse rfl
  | @setMode v m untaken free =>
    have hold := (InputMode.not_isTaken_iff _).mp untaken
    have hsaved := (hL.holds v).saved_none untaken
    have hbound := (hL.holds v).bound_none hold.2
    refine hL.setHold hold.1 ((InputMode.not_isTaken_iff m).mp free).1 ?_ rfl
    change Hold.Sound { mode := m, saved := (L.holds v).saved, bound := (L.holds v).bound }
    rw [hsaved, hbound]
    exact Hold.sound_free free
  | enqueue ready room fresh waits input => exact hL.enqueue waits fun v hv => (input v hv).1
  | @start b live waits =>
    cases hv : b.verifyInput with
    | none => exact hL.startUnbound ho live hv
    | some v => exact hL.startBound ho live waits hv
  | settle live names bound => exact hL.settle ho (Ledger.job?_mem live) names bound
  | finish live unbound =>
    rw [Ledger.finish_eq live]
    exact hL.remove ho (Ledger.job?_mem live) unbound
  | @release b v live bound =>
    rw [Ledger.finish_eq (L := L.unbind v) live]
    exact hL.release ho (Ledger.job?_mem live) bound
  | restart =>
    have hfree := fun v => (hL.holds v).back_free
    exact Ledger.taken_of_no_jobs rfl rfl (fun v => Hold.sound_free (hfree v)) hfree
  | reset => exact Ledger.taken_of_no_jobs rfl rfl (fun _ => Hold.sound_free rfl) fun _ => rfl
  | disordered disorder table => exact absurd ho disorder
  | store | abandon | complete | amend | erase | defer | retire | clearLearning => exact hL.congr rfl rfl rfl

end Sys2Proof.Machine

/-! ### The statements -/

section

open Sys2Proof Sys2Proof.Machine

/-- Settles O56: the order of the queue, with the counts and with the inputs taken, is kept by every opening and move. -/
theorem stepKeepsReferencesCounted : Obligations.StepKeepsReferencesCounted := by
  refine ⟨fun s t hs h => t.referencesCounted_iff.mpr ?_, fun s t hs h => t.inputsTaken_iff.mpr ?_⟩
  · exact step_keeps (P := fun L => L.Ordered ∧ L.Counted)
      (fun _ _ ho hP => ⟨ho.keeps_ordered hP.1, ho.keeps_counted hP.2⟩)
      (fun _ _ hm hP => ⟨hm.keeps_ordered hP.1, hm.keeps_counted hP.1 hP.2⟩) h (s.referencesCounted_iff.mp hs)
  · exact step_keeps (P := fun L => L.Ordered ∧ L.Taken)
      (fun _ _ ho hP => ⟨ho.keeps_ordered hP.1, ho.keeps_taken hP.2⟩)
      (fun _ _ hm hP => ⟨hm.keeps_ordered hP.1, hm.keeps_taken hP.1 hP.2⟩) h (s.inputsTaken_iff.mp hs)

end
end

section
/-! PROOFS. Power-on, the restarts, and the commands that read, amend and erase codes (R10 to R17, R177). -/

namespace Sys2Proof.Machine

/-! ### Power-on -/

theorem State.powered_zone (straps : BitVec 2) (a b : Level) (cause : Byte) (draw : Nat) (pending : List Instr)
    (z : ZoneNo) : (State.powered straps a b cause draw pending).zone z = resetZone z draw := by
  fin_cases z <;> rfl

theorem State.powered_input (straps : BitVec 2) (a b : Level) (cause : Byte) (draw : Nat) (pending : List Instr)
    (v : InputNo) : (State.powered straps a b cause draw pending).input v = resetInput (if v = 0 then a else b) 15000 :=
  match v with
  | 0 => rfl
  | 1 => rfl

/-- The engine of an input after power-on: it discards while the line is at mark (R132). -/
theorem resetInput_eq (line : Level) (endGap : Nat) :
    resetInput line endGap =
      { raw := line, accepted := line, levelSince := 0, trial := none, lastMarkEnd := none, mode := .off
        savedMode := none, mask := 0#8, engine := if line = .space then .quiet else .discarding endGap, frameNext := 0
        drops := 0, suppressed := 0, episodeOpen := false, run := none, verify := none } := by
  cases line <;> rfl

/-- The first decay step comes 1 to 10 ms after power-on (R112; log entry 5). -/
theorem resetZone_nextDecay (z : ZoneNo) (draw : Nat) :
    1000 ≤ (resetZone z draw).nextDecay ∧ (resetZone z draw).nextDecay ≤ 10000 := by
  have h := (Config.decayOffset draw z).isLt
  have hd : (resetZone z draw).nextDecay = 1000 + (Config.decayOffset draw z).val := rfl
  omega

theorem State.reset_ledger : State.reset.ledger = .fresh :=
  State.powered_ledger ..

theorem Ledger.fresh_ordered : Ledger.fresh.Ordered :=
  Ledger.ordered_of_no_jobs rfl rfl

theorem Ledger.fresh_counted : Ledger.fresh.Counted := fun i =>
  (Ledger.fresh_slot i).symm ▸ rfl

theorem Ledger.fresh_taken : Ledger.fresh.Taken :=
  Ledger.taken_of_no_jobs rfl rfl (fun _ => Hold.sound_free rfl) fun _ => rfl

theorem State.reset_queueOrdered : State.reset.queueOrdered :=
  State.reset.queueOrdered_iff.mpr (State.reset_ledger ▸ Ledger.fresh_ordered)

theorem State.reset_zonesOwned : State.reset.zonesOwned := by
  refine ⟨State.reset_queueOrdered, fun z => ?_, fun j hj => (nomatch hj), fun j hj => (nomatch hj)⟩
  unfold State.ownerPlays State.reset
  rw [State.powered_zone]
  trivial

theorem State.reset_generatorsCounted : State.reset.generatorsCounted := by
  refine ⟨State.reset_queueOrdered, fun g => ?_, fun j hj => (nomatch hj)⟩
  have hg : State.reset.generators[g] = none := Vector.getElem_replicate g.isLt
  unfold State.generatorCounted
  rw [hg]
  rfl

theorem State.reset_captureBounded : State.reset.captureBounded := by
  have hengine : ∀ v, (State.reset.input v).engine = .quiet := fun v => by
    unfold State.reset
    rw [State.powered_input]
    split <;> rfl
  refine ⟨by decide, by decide, fun v => ?_, fun f hf => (nomatch hf)⟩
  unfold RxInput.frameShaped
  rw [hengine]
  trivial

theorem State.reset_line_bounded : State.reset.line.bounded := by
  refine ⟨by decide, by decide, by decide, fun _ => rfl, by decide, by decide, by decide, ?_, fun r hr => (nomatch hr)⟩
  unfold HostLine.sequencesRun
  decide

/-! ### What the cuts at a restart may change -/

/-- What the ends of marks may change: the load, the drive and the group in force of zones, and reports (R80, R111). -/
structure State.MarksEnd (s u : State) : Prop where
  clock : u.clock = s.clock
  table : u.table = s.table
  inputs : u.inputs = s.inputs
  groups : u.groups = s.groups
  params : u.params = s.params
  zoneState : ∀ z, (u.zone z).state = (s.zone z).state
  nextDecay : ∀ z, (u.zone z).nextDecay = (s.zone z).nextDecay
  line : u.line = { s.line with reports := u.line.reports, nextSequence := u.line.nextSequence, lost := u.line.lost }

theorem State.MarksEnd.refl (s : State) : s.MarksEnd s :=
  ⟨rfl, rfl, rfl, rfl, rfl, fun _ => rfl, fun _ => rfl, rfl⟩

theorem State.MarksEnd.trans {s t u : State} (hst : s.MarksEnd t) (htu : t.MarksEnd u) : s.MarksEnd u where
  clock := htu.clock.trans hst.clock
  table := htu.table.trans hst.table
  inputs := htu.inputs.trans hst.inputs
  groups := htu.groups.trans hst.groups
  params := htu.params.trans hst.params
  zoneState z := (htu.zoneState z).trans (hst.zoneState z)
  nextDecay z := (htu.nextDecay z).trans (hst.nextDecay z)
  line := by
    rw [htu.line, hst.line]

/-- A report changes nothing of the host line but the report queue (R170). -/
theorem HostLine.produce_eq (l : HostLine) (r : Report) :
    l.produce r =
      { l with
        reports := (l.produce r).reports, nextSequence := (l.produce r).nextSequence, lost := (l.produce r).lost } := by
  obtain ⟨-, h⟩ | ⟨-, -, h⟩ | ⟨-, -, h⟩ := l.produce_cases r
  · rw [h]
  · rw [h]
    rfl
  · rw [h]

theorem State.MarksEnd.produce (s : State) (r : Report) : s.MarksEnd (s.produce r) :=
  ⟨rfl, rfl, rfl, rfl, rfl, fun _ => rfl, fun _ => rfl, s.line.produce_eq r⟩

theorem State.MarksEnd.setZone {s : State} {z : ZoneNo} {x : Zone} (hs : x.state = (s.zone z).state)
    (hd : x.nextDecay = (s.zone z).nextDecay) : s.MarksEnd (s.setZone z x) where
  clock := rfl
  table := rfl
  inputs := rfl
  groups := rfl
  params := rfl
  zoneState w := by
    rw [State.zone_setZone]
    split
    · exact ‹w = z› ▸ hs
    · rfl
  nextDecay w := by
    rw [State.zone_setZone]
    split
    · exact ‹w = z› ▸ hd
    · rfl
  line := rfl

theorem State.MarksEnd.evaluate (s : State) (z : ZoneNo) : s.MarksEnd (s.evaluate z) := by
  unfold State.evaluate
  simp only []
  split
  · exact .setZone rfl rfl
  · refine .trans ?_ (.produce _ _)
    exact .setZone rfl rfl

theorem State.MarksEnd.markEnd (s : State) (z : ZoneNo) (d v : Nat) : s.MarksEnd (s.markEnd z d v) := by
  refine .trans ?_ (.evaluate _ z)
  exact .setZone rfl rfl

theorem State.MarksEnd.foldl {α : Type} {f : State → α → State} (h : ∀ (s : State) (a : α), s.MarksEnd (f s a))
    (l : List α) (s : State) : s.MarksEnd (l.foldl f s) := by
  induction l generalizing s with
  | nil => exact .refl s
  | cons a l ih => exact (h s a).trans (ih _)

theorem State.MarksEnd.markEnds (s : State) (d : Nat) (ps : List (ZoneNo × Nat)) : s.MarksEnd (s.markEnds d ps) := by
  unfold State.markEnds
  refine State.MarksEnd.foldl ?_ ps s
  intro u p
  exact State.MarksEnd.markEnd u p.1 d p.2

theorem State.MarksEnd.cutRunning (s : State) (j : Job) : s.MarksEnd (s.cutRunning j) := by
  have hcut : s.MarksEnd (s.cutFrame j) := by
    unfold State.cutFrame
    split
    · exact .markEnds s _ _
    · exact .refl s
  unfold State.cutRunning
  split
  · exact hcut
  · exact hcut
  · exact .refl s
  · exact .refl s

/-- The state in which the frames in progress have been cut (R87, R89). -/
def State.cutAll (s : State) : State :=
  s.jobs.foldl State.cutRunning s

theorem State.cutAll_marksEnd (s : State) : s.MarksEnd s.cutAll :=
  .foldl .cutRunning _ s

/-- With no mark in progress a cut changes nothing. -/
theorem State.cutRunning_eq {s : State} {j : Job} (h : ∀ p, j.play = some p → p.sampled = []) : s.cutRunning j = s := by
  have hcut : s.cutFrame j = s := by
    unfold State.cutFrame
    split
    · rename_i p hp
      rw [h p hp]
      rfl
    · rfl
  unfold State.cutRunning
  split
  · exact hcut
  · exact hcut
  · rfl
  · rfl

theorem State.cutAll_eq {s : State} (h : ∀ j ∈ s.jobs, ∀ p, j.play = some p → p.sampled = []) : s.cutAll = s := by
  unfold State.cutAll
  revert h
  induction s.jobs with
  | nil => exact fun _ => rfl
  | cons j js ih =>
    intro h
    obtain ⟨hj, hjs⟩ := List.forall_mem_cons.mp h
    rw [List.foldl_cons, State.cutRunning_eq hj]
    exact ih hjs

section Cut

variable (s : State)

theorem State.cutAll_clock : s.cutAll.clock = s.clock := s.cutAll_marksEnd.clock
theorem State.cutAll_table : s.cutAll.table = s.table := s.cutAll_marksEnd.table
theorem State.cutAll_inputs : s.cutAll.inputs = s.inputs := s.cutAll_marksEnd.inputs
theorem State.cutAll_groups : s.cutAll.groups = s.groups := s.cutAll_marksEnd.groups
theorem State.cutAll_params : s.cutAll.params = s.params := s.cutAll_marksEnd.params

/-! ### RESTART ACTIVITY -/

theorem State.restartActivity_jobs : s.restartActivity.jobs = [] := rfl
theorem State.restartActivity_nextId : s.restartActivity.nextId = 1 := rfl
theorem State.restartActivity_captures : s.restartActivity.captures = [] := rfl
theorem State.restartActivity_generators : s.restartActivity.generators = Vector.replicate 4 none := rfl

theorem State.restartActivity_keeps :
    s.restartActivity.line = s.cutAll.line ∧ s.restartActivity.clock = s.cutAll.clock ∧
      s.restartActivity.groups = s.cutAll.groups ∧ s.restartActivity.params = s.cutAll.params := by
  simp [State.restartActivity, State.resetCapture, State.removeJobs, State.cutAll]

theorem State.restartActivity_line : s.restartActivity.line = s.cutAll.line := by
  rw [s.restartActivity_keeps.left]

theorem State.restartActivity_clock : s.restartActivity.clock = s.clock := by
  obtain ⟨-, h, -, -⟩ := s.restartActivity_keeps
  rw [h, s.cutAll_clock]

theorem State.restartActivity_groups : s.restartActivity.groups = s.groups := by
  obtain ⟨-, -, h, -⟩ := s.restartActivity_keeps
  rw [h, s.cutAll_groups]

theorem State.restartActivity_params : s.restartActivity.params = s.params := by
  obtain ⟨-, -, -, h⟩ := s.restartActivity_keeps
  rw [h, s.cutAll_params]

theorem State.restartActivity_table : s.restartActivity.table = s.table.afterRestart :=
  congrArg CodeTable.afterRestart s.cutAll_table

theorem State.restartActivity_zone (z : ZoneNo) :
    s.restartActivity.zone z = { s.cutAll.zone z with state := (s.cutAll.zone z).state.afterRestart } :=
  mapVector_getElem _ _ z.val z.isLt

theorem State.removeJobs_input (v : InputNo) : s.removeJobs.input v = s.input v :=
  congrArg (fun is : Vector RxInput 2 => is[v]) s.cutAll_inputs

theorem State.removeJobs_endGap (v : InputNo) : s.removeJobs.endGap v = s.endGap v :=
  congrArg (fun ps : Params => (if v = 0 then ps.endGapRx0 else ps.endGapRx1) * 1000) s.cutAll_params

theorem State.resetCapture_input (v : InputNo) :
    s.resetCapture.input v = (s.input v).afterRestart (s.endGap v) :=
  match v with
  | 0 => rfl
  | 1 => rfl

theorem State.restartActivity_input (v : InputNo) :
    s.restartActivity.input v = (s.input v).afterRestart (s.endGap v) := by
  have hreset : s.restartActivity.input v = s.removeJobs.resetCapture.input v := rfl
  rw [hreset, State.resetCapture_input, State.removeJobs_input, State.removeJobs_endGap]

end Cut

/-- A zone in OFF stays OFF, and every other becomes IDLE (R65). -/
theorem ZoneState.afterRestart_eq (x : ZoneState) : x.afterRestart = if x = .off then .off else .idle := by
  cases x <;> rfl

/-- The state of an engine emptied (R132). -/
theorem emptiedEngine_eq (level : Level) (endGap : Nat) :
    emptiedEngine level endGap = if level = .space then .quiet else .discarding endGap := by
  cases level <;> rfl

/-! ### RESTART FULL -/

/-- With an empty capture queue and no run, freed entries let nothing go on. -/
theorem State.retryProducers_eq {s : State} (hc : s.captures = []) (hr : ∀ v, (s.input v).run = none) :
    s.retryProducers = s := by
  have hdispatch : s.dispatch = s := by
    simp [State.dispatch, hc, tryHeads, State.arbiterAfter]
  simp [State.retryProducers, hdispatch, State.retryRunEnd, hr]

/-- With nothing waiting for report space, RESTART LINK resets the host line and nothing else (R177). -/
theorem State.restartLink_eq {s : State} (hc : s.captures = []) (hr : ∀ v, (s.input v).run = none) (cause : StartCause) :
    s.restartLink cause = s.setLine (s.line.restarted cause s.now) :=
  State.retryProducers_eq (s := s.setLine (s.line.restarted cause s.now)) hc hr

section Defaults

variable (s : State)

theorem State.takeDefaults_table : s.takeDefaults.table = emptyTable := rfl
theorem State.takeDefaults_jobs : s.takeDefaults.jobs = s.jobs := rfl
theorem State.takeDefaults_nextId : s.takeDefaults.nextId = s.nextId := rfl
theorem State.takeDefaults_captures : s.takeDefaults.captures = s.captures := rfl
theorem State.takeDefaults_generators : s.takeDefaults.generators = s.generators := rfl
theorem State.takeDefaults_groups : s.takeDefaults.groups = defaultGroups := rfl
theorem State.takeDefaults_params : s.takeDefaults.params = defaultParams := rfl
theorem State.takeDefaults_clock : s.takeDefaults.clock = s.clock := rfl
theorem State.takeDefaults_line : s.takeDefaults.line = s.line := rfl

theorem State.takeDefaults_zone (z : ZoneNo) : s.takeDefaults.zone z = (s.zone z).afterFull :=
  mapVector_getElem _ _ z.val z.isLt

theorem State.takeDefaults_input (v : InputNo) : s.takeDefaults.input v = (s.input v).afterFull :=
  mapVector_getElem _ _ v.val v.isLt

end Defaults

theorem State.zone_setLine (s : State) (l : HostLine) (z : ZoneNo) : (s.setLine l).zone z = s.zone z := rfl
theorem State.input_setLine (s : State) (l : HostLine) (v : InputNo) : (s.setLine l).input v = s.input v := rfl

/-- The state after the effects of RESTART FULL (R177). -/
theorem State.restartFull_eq (s : State) :
    s.restartFull = s.restartActivity.takeDefaults.setLine (s.cutAll.line.restarted .full s.now) := by
  have hrun : ∀ v, (s.restartActivity.takeDefaults.input v).run = none := fun v => by
    rw [State.takeDefaults_input, State.restartActivity_input]
    rfl
  have hnow : s.restartActivity.takeDefaults.now = s.now := by
    simp only [State.now, State.takeDefaults_clock, State.restartActivity_clock]
  unfold State.restartFull
  rw [State.restartLink_eq ((State.takeDefaults_captures _).trans s.restartActivity_captures) hrun, hnow,
    State.takeDefaults_line, State.restartActivity_line]

section Full

variable (s : State)

theorem State.restartFull_table : s.restartFull.table = emptyTable := by
  rw [s.restartFull_eq, State.setLine_table, State.takeDefaults_table]

theorem State.restartFull_jobs : s.restartFull.jobs = [] := by
  rw [s.restartFull_eq, State.setLine_jobs, State.takeDefaults_jobs, State.restartActivity_jobs]

theorem State.restartFull_nextId : s.restartFull.nextId = 1 := by
  rw [s.restartFull_eq, State.setLine_nextId, State.takeDefaults_nextId, State.restartActivity_nextId]

theorem State.restartFull_captures : s.restartFull.captures = [] := by
  rw [s.restartFull_eq, State.setLine_captures, State.takeDefaults_captures, State.restartActivity_captures]

theorem State.restartFull_groups : s.restartFull.groups = defaultGroups := by
  rw [s.restartFull_eq, State.setLine_groups, State.takeDefaults_groups]

theorem State.restartFull_params : s.restartFull.params = defaultParams := by
  rw [s.restartFull_eq, State.setLine_params, State.takeDefaults_params]

theorem State.restartFull_clock : s.restartFull.clock = s.clock := by
  rw [s.restartFull_eq, State.setLine_clock, State.takeDefaults_clock, State.restartActivity_clock]

theorem State.restartFull_generators : s.restartFull.generators = Vector.replicate 4 none := by
  rw [s.restartFull_eq, State.setLine_generators, State.takeDefaults_generators, State.restartActivity_generators]

theorem State.restartFull_zone (z : ZoneNo) :
    s.restartFull.zone z = { s.cutAll.zone z with state := .idle, drive := 8 } := by
  rw [s.restartFull_eq, State.zone_setLine, State.takeDefaults_zone, State.restartActivity_zone]
  rfl

theorem State.restartFull_input (v : InputNo) :
    s.restartFull.input v = ((s.input v).afterRestart (s.endGap v)).afterFull := by
  rw [s.restartFull_eq, State.input_setLine, State.takeDefaults_input, State.restartActivity_input]

/-- STARTED(FULL) stands alone in the report queue, and the rest of the line stays (R177). -/
theorem State.restartFull_line :
    s.restartFull.line =
      { s.line with
        replay := none, nextSequence := 1, ackTimer := none, rounds := 0, held := false, lost := 0
        reports := [{ sequence := 0, type := 0x80#8, payload := 3#8 :: u32 s.now, timesSent := 0, sent := false }] } := by
  rw [s.restartFull_eq, State.setLine_line, s.cutAll_marksEnd.line]
  rfl

end Full

/-! ### Taken commands -/

/-- A frame that is taken and of proper form is executed and answered (R166). -/
theorem State.takeCommand_executes {s : State} {c : CommandFrame} {i : Instr} (h : s.takes c i) {form : List Byte → Bool}
    {act : List Byte → State → Answer} {p : List Byte} (hp : c.payload = p) (hf : form p = true) :
    s.takeCommand i form act = State.finish (act p s.popCommand) c := by
  subst hp
  rw [State.takeCommand_takes h, if_pos hf]

/-- RESTART ACTIVITY is answered and its reply recorded (R177). -/
theorem exec_restartActivity {s : State} {c : CommandFrame} (h : s.takes c .restartActivity) (hp : c.payload = [1#8]) :
    exec .restartActivity s = .next (s.popCommand.restartActivity.replied c [0x00#8, 1#8]) :=
  congrArg Host.Outcome.next (State.takeCommand_executes h hp rfl)

/-- RESTART FULL is answered and its reply is not recorded (R177). -/
theorem exec_restartFull {s : State} {c : CommandFrame} (h : s.takes c .restartFull) (hp : c.payload = [2#8]) :
    exec .restartFull s = .next { s.popCommand.restartFull with
      line := s.popCommand.restartFull.line.send s.clock (c.replyFrame [0x00#8, 2#8]) } := by
  have hclock : s.popCommand.restartFull.clock = s.clock := State.restartFull_clock _
  rw [← hclock]
  exact congrArg Host.Outcome.next (State.takeCommand_executes h hp rfl)

end Sys2Proof.Machine

/-! ### The statements about resets -/

section

open Sys2Proof Sys2Proof.Machine

/-- Settles O53: the state after reset has the ledger after power-on, and nothing plays, is captured or waits in it. -/
theorem resetIsSound : Obligations.ResetIsSound :=
  ⟨State.reset.poolAccounted_iff.mpr (State.reset_ledger ▸ Ledger.fresh_poolAccounted),
    State.reset.tableSound_iff.mpr emptyTable_sound,
    State.reset.referencesCounted_iff.mpr (State.reset_ledger ▸ ⟨Ledger.fresh_ordered, Ledger.fresh_counted⟩),
    State.reset.inputsTaken_iff.mpr (State.reset_ledger ▸ ⟨Ledger.fresh_ordered, Ledger.fresh_taken⟩),
    State.reset_zonesOwned, State.reset_generatorsCounted, State.reset_captureBounded, State.reset_line_bounded⟩

/-- Settles O6: both rows answer `State.powered`, whose zones and inputs are read one by one. -/
theorem powerUpState : Obligations.PowerUpState := by
  intro straps a b s i cause hi
  have hexec : exec i s = .next (State.powered straps a b cause s.draws s.pending) := by
    obtain ⟨rfl, rfl⟩ | ⟨rfl, rfl⟩ := hi <;> rfl
  refine ⟨_, hexec, rfl, rfl, rfl, rfl, rfl, rfl, rfl, rfl, fun z => ?_, fun v => ?_, rfl⟩
  · rw [State.powered_zone]
    exact ⟨rfl, rfl, rfl, rfl, resetZone_nextDecay z s.draws⟩
  · rw [State.powered_input, resetInput_eq]

/-- Settles O7: power-on and RESET_PIN answer `State.powered`, and RESTART FULL leaves the empty table and STARTED alone. -/
theorem resetsEmptyTheTable : Obligations.ResetsEmptyTheTable := by
  refine fun s => ⟨fun _ _ _ => ⟨_, rfl, rfl, rfl, rfl⟩, fun _ _ _ => ⟨_, rfl, rfl, rfl, rfl⟩, fun c h hp => ?_⟩
  refine ⟨_, exec_restartFull h hp, State.restartFull_table _, State.restartFull_jobs _, ?_⟩
  rw [State.restartFull_line]
  rfl

/-- Settles O9: the frames in progress are cut, which touches zones and reports only, and then every piece of state takes
its value. -/
theorem restartActivityEffects : Obligations.RestartActivityEffects := by
  intro s c h hp
  have hzone := s.popCommand.restartActivity_zone
  have hcut := s.popCommand.cutAll_marksEnd
  have hpool : s.poolAccounted → (s.popCommand.restartActivity.replied c [0x00#8, 1#8]).poolAccounted := fun hs => by
    have hl : (s.popCommand.restartActivity.replied c [0x00#8, 1#8]).ledger = s.ledger.restart :=
      s.popCommand.restartActivity_ledger
    exact (State.poolAccounted_iff _).mpr (hl ▸ Ledger.PoolAccounted.restart hs)
  refine ⟨_, exec_restartActivity h hp, rfl, rfl, rfl, rfl, rfl, rfl, fun i => ?_, hpool, fun z => ?_, fun v => ?_,
    s.popCommand.restartActivity_params, s.popCommand.restartActivity_groups, fun hmarks => ?_⟩
  · have hslot : (s.popCommand.restartActivity.replied c [0x00#8, 1#8]).slot i = (s.slot i).afterRestart :=
      (congrArg (CodeTable.slot · i) s.popCommand.restartActivity_table).trans (mapVector_getElem _ _ i.val i.isLt)
    rw [hslot]
    cases s.slot i <;> rfl
  · change (s.popCommand.restartActivity.zone z).state = _
    rw [hzone, ZoneState.afterRestart_eq, hcut.zoneState]
    rfl
  · change s.popCommand.restartActivity.input v = _
    rw [State.restartActivity_input, RxInput.afterRestart, emptiedEngine_eq]
    rfl
  · have heq : s.popCommand.cutAll = s.popCommand := State.cutAll_eq hmarks
    refine ⟨?_, fun z => ?_⟩
    · have hline : s.popCommand.restartActivity.line = s.popCommand.line :=
        (State.restartActivity_line _).trans (congrArg State.line heq)
      have hclock : s.popCommand.restartActivity.clock = s.popCommand.clock := State.restartActivity_clock _
      simp only [State.replied, State.answered, hline, hclock]
    · change s.popCommand.restartActivity.zone z = _
      rw [hzone, heq, ZoneState.afterRestart_eq]
      rfl

/-- Settles O10: RESTART FULL is RESTART ACTIVITY, the defaults, and a report queue with STARTED alone. -/
theorem restartFullEffects : Obligations.RestartFullEffects := by
  intro s c h hp
  have hexec := exec_restartFull h hp
  have htable := s.popCommand.restartFull_table
  have hjobs := s.popCommand.restartFull_jobs
  have hnextId := s.popCommand.restartFull_nextId
  have hcaptures := s.popCommand.restartFull_captures
  have hgenerators := s.popCommand.restartFull_generators
  have hgroups := s.popCommand.restartFull_groups
  have hparams := s.popCommand.restartFull_params
  have hclock := s.popCommand.restartFull_clock
  have hzone := s.popCommand.restartFull_zone
  have hinput := s.popCommand.restartFull_input
  have hline := s.popCommand.restartFull_line
  have hdecay := s.popCommand.cutAll_marksEnd.nextDecay
  generalize s.popCommand.restartFull = u at *
  refine ⟨_, hexec, htable, hjobs, hnextId, hcaptures, hgenerators, hgroups, hparams, hclock, fun z => ?_, fun v => ?_,
    congrArg (HostLine.send · s.clock (c.replyFrame [0x00#8, 2#8])) hline, fun hmarks z => ?_⟩
  · change (u.zone z).state = _ ∧ (u.zone z).drive = _ ∧ (u.zone z).nextDecay = _
    rw [hzone]
    exact ⟨rfl, rfl, hdecay z⟩
  · change u.input v = _
    rw [hinput, RxInput.afterRestart, emptiedEngine_eq]
    rfl
  · change (u.zone z).load = _ ∧ (u.zone z).inForce = _
    rw [hzone, State.cutAll_eq (s := s.popCommand) hmarks]
    exact ⟨rfl, rfl⟩

end
end

section
/-! PROOFS. The commands that erase, amend and read codes, and the one that reads the pool (R10 to R15). -/

namespace Sys2Proof.Machine

/-! ### Fields of payloads and of replies -/

theorem slotOf_eq_none {n : Nat} (h : 127 < n) : slotOf n = none :=
  dif_neg (Nat.not_lt.mpr h)

theorem slotOf_eq_some {n : Nat} {i : SlotNo} (h : i.val = n) : slotOf n = some i := by
  subst h
  exact dif_pos i.isLt

theorem u8_toNat (b : Byte) : u8 b.toNat = [b] := by
  simp [u8]

theorem u16_word (h l : Byte) : u16 (h.toNat * 256 + l.toNat) = [h, l] := by
  unfold u16
  congr 1
  · bv_omega
  · congr 1
    bv_omega

theorem toNat_append_byte {n : Nat} (x : BitVec n) (b : Byte) : (x ++ b).toNat = x.toNat * 256 + b.toNat := by
  rw [BitVec.toNat_append, ← Nat.shiftLeft_add_eq_or_of_lt b.isLt, Nat.shiftLeft_eq]

/-- The four bytes of a label, most significant first (Conventions, Byte order). -/
theorem ofNat_longAt (b b3 b2 b1 b0 : Byte) (p : List Byte) :
    BitVec.ofNat 32 (longAt (b :: b3 :: b2 :: b1 :: b0 :: p) 1) = b3 ++ b2 ++ b1 ++ b0 := by
  have hbytes : longAt (b :: b3 :: b2 :: b1 :: b0 :: p) 1 =
      (b3.toNat * 256 + b2.toNat) * 65536 + (b1.toNat * 256 + b0.toNat) := rfl
  apply BitVec.eq_of_toNat_eq
  rw [hbytes, BitVec.toNat_ofNat, Nat.mod_eq_of_lt (by omega)]
  simp only [toNat_append_byte]
  omega

theorem yesNoOf_eq_none {n : Nat} (h : 1 < n) : yesNoOf n = none := by
  match n, h with
  | n + 2, _ => rfl

theorem yesNoOf_toNat {m : Byte} (h : m.toNat ≤ 1) : yesNoOf m.toNat = some (decide (m = 1#8)) := by
  obtain h0 | h1 : m = 0#8 ∨ m = 1#8 := by bv_omega
  · subst h0
    rfl
  · subst h1
    rfl

theorem toleranceInRange_iff (t : Byte) : toleranceInRange t.toNat = true ↔ t = 0#8 ∨ (5 ≤ t.toNat ∧ t.toNat ≤ 50) := by
  have hzero : t.toNat = 0 ↔ t = 0#8 := by bv_omega
  simp [toleranceInRange, hzero]

/-! ### Slots written -/

theorem Slot.code?_eq_some {x : Slot} {k : Code} : x.code? = some k ↔ x = .ready k ∨ x = .retiring k := by
  cases x <;> simp [Slot.code?]

/-- A slot becomes EMPTY and its blocks return to the pool (R8). -/
theorem State.putSlot_empty {s : State} {i : SlotNo} {x : Slot} (h : s.slot i = x) :
    s.putSlot i .empty =
      { s with
        table :=
          { s.table with
            slots := s.table.slots.set i.val .empty i.isLt, freeBlocks := s.table.freeBlocks + x.blocks } } := by
  subst h
  rfl

/-- A slot written with as many blocks as it held leaves the pool as it was (R8). -/
theorem State.putSlot_of_blocks_eq {s : State} {i : SlotNo} {x : Slot} (h : x.blocks = (s.slot i).blocks) :
    s.putSlot i x = { s with table := { s.table with slots := s.table.slots.set i.val x i.isLt } } := by
  unfold State.putSlot
  rw [h, Nat.add_sub_cancel]
  rfl

/-! ### A command that is answered -/

/-- A frame that is taken, of proper form, whose effect answers `fields` in the state `u`. -/
theorem State.takeCommand_answers {s u : State} {c : CommandFrame} {i : Instr} (h : s.takes c i)
    {form : List Byte → Bool} {act : List Byte → State → Answer} {p fields : List Byte} (hp : c.payload = p)
    (hf : form p = true) (ha : act p s.popCommand = u.answer fields) :
    s.takeCommand i form act = u.replied c fields := by
  rw [State.takeCommand_executes h hp hf, ha, State.finish_answer]

/-! ### CODE_RETIRED and CODE_ERASE -/

/-- CODE_RETIRED acts on a RETIRING slot whose count is 0, and on no other (R11). -/
theorem exec_codeRetired_of_not_due {s : State} {i : SlotNo} (h : ∀ k, s.slot i = .retiring k → k.refs ≠ 0) :
    exec (.codeRetired i) s = .next s := by
  change execCodeRetired i s = _
  unfold execCodeRetired
  congr 1
  split
  · next k hk => exact if_neg (h k hk)
  all_goals rfl

theorem exec_codeRetired_of_due {s : State} {i : SlotNo} {k : Code} (h : s.slot i = .retiring k) (hk : k.refs = 0) :
    exec (.codeRetired i) s = .next (s.retire i k) := by
  change execCodeRetired i s = _
  unfold execCodeRetired
  simp only [h, if_pos hk]

section Erase

variable {s : State} {i : SlotNo}

theorem State.eraseSlot_empty (h : s.slot i = .empty) : s.eraseSlot i = s := by
  simp only [State.eraseSlot, h]

theorem State.eraseSlot_loading {x : Header} {got : List Nat} (h : s.slot i = .loading x got) :
    s.eraseSlot i = (s.putSlot i .empty).setLoad none := by
  simp only [State.eraseSlot, State.abandonLoad, h]

theorem State.eraseSlot_learning {l : LearnContext} (h : s.slot i = .learning) (hl : s.table.learn = some l)
    (hi : l.slot = i) : s.eraseSlot i = s.endLearn l .cancelled 0 0 := by
  simp only [State.eraseSlot, State.eraseLearning, h, hl, if_pos hi]

theorem State.eraseSlot_ready_unused {k : Code} (h : s.slot i = .ready k) (hk : k.refs = 0) :
    s.eraseSlot i = s.putSlot i .empty := by
  simp only [State.eraseSlot, h, if_pos hk]

theorem State.eraseSlot_ready_used {k : Code} (h : s.slot i = .ready k) (hk : k.refs ≠ 0) :
    s.eraseSlot i = s.putSlot i (.retiring k) := by
  simp only [State.eraseSlot, h, if_neg hk]

theorem State.eraseSlot_retiring {k : Code} (h : s.slot i = .retiring k) : s.eraseSlot i = s := by
  simp only [State.eraseSlot, h]

end Erase

section Commands

variable {s : State} {c : CommandFrame} {b : Byte}

theorem exec_codeErase_range (h : s.takes c .codeErase) (hp : c.payload = [b]) (hb : 127 < b.toNat) :
    exec .codeErase s = .next (s.answered c [0x02#8]) := by
  refine congrArg Host.Outcome.next (State.takeCommand_answers h hp rfl ?_)
  unfold actCodeErase
  rw [show slotOf (byteAt [b] 0) = none from slotOf_eq_none hb]
  rfl

/-- CODE_ERASE answers the slot's state before it and whether the erase is deferred (R10). -/
theorem exec_codeErase_slot (h : s.takes c .codeErase) (hp : c.payload = [b]) {i : SlotNo} (hi : i.val = b.toNat) :
    exec .codeErase s =
      .next ((s.popCommand.eraseSlot i).replied c
        ([0x00#8, b] ++ u8 (s.slot i).code ++ flag (s.slot i).defersErase)) := by
  refine congrArg Host.Outcome.next (State.takeCommand_answers h hp rfl ?_)
  unfold actCodeErase
  rw [show slotOf (byteAt [b] 0) = some i from slotOf_eq_some hi]
  simp only [hi, u8_toNat]
  rfl

/-! ### CODE_AMEND -/

section Amend

variable {l3 l2 l1 l0 m t : Byte} {i : SlotNo}

theorem exec_codeAmend_range (h : s.takes c .codeAmend) (hp : c.payload = [b, l3, l2, l1, l0, m, t])
    (hb : 127 < b.toNat) : exec .codeAmend s = .next (s.answered c [0x02#8]) := by
  refine congrArg Host.Outcome.next (State.takeCommand_answers h hp rfl ?_)
  unfold actCodeAmend
  rw [show slotOf (byteAt [b, l3, l2, l1, l0, m, t] 0) = none from slotOf_eq_none hb]
  rfl

theorem exec_codeAmend_slotState (h : s.takes c .codeAmend) (hp : c.payload = [b, l3, l2, l1, l0, m, t])
    (hi : i.val = b.toNat) (hs : (s.slot i).isReady = false) :
    exec .codeAmend s = .next (s.answered c [0x03#8]) := by
  refine congrArg Host.Outcome.next (State.takeCommand_answers h hp rfl ?_)
  have hslot : s.popCommand.slot i = s.slot i := rfl
  unfold actCodeAmend
  rw [show slotOf (byteAt [b, l3, l2, l1, l0, m, t] 0) = some i from slotOf_eq_some hi]
  simp only [hslot]
  cases hx : s.slot i with
  | ready k => simp [hx, Slot.isReady] at hs
  | empty | loading | learning | retiring => rfl

/-- The fields of an amendment are refused with RANGE (R12). -/
theorem exec_codeAmend_badField (h : s.takes c .codeAmend) (hp : c.payload = [b, l3, l2, l1, l0, m, t])
    (hi : i.val = b.toNat) {k : Code} (hs : s.slot i = .ready k)
    (hf : 1 < m.toNat ∨ toleranceInRange t.toNat = false) : exec .codeAmend s = .next (s.answered c [0x02#8]) := by
  refine congrArg Host.Outcome.next (State.takeCommand_answers h hp rfl ?_)
  have hslot : s.popCommand.slot i = .ready k := hs
  have hm : byteAt [b, l3, l2, l1, l0, m, t] 5 = m.toNat := rfl
  have ht : byteAt [b, l3, l2, l1, l0, m, t] 6 = t.toNat := rfl
  unfold actCodeAmend
  rw [show slotOf (byteAt [b, l3, l2, l1, l0, m, t] 0) = some i from slotOf_eq_some hi]
  simp only [hslot, hm, ht]
  obtain hm | ht := hf
  · rw [yesNoOf_eq_none hm]
    rfl
  · rw [ht]
    split <;> rfl

/-- An amendment is accepted (R12). -/
theorem exec_codeAmend_accepted (h : s.takes c .codeAmend) (hp : c.payload = [b, l3, l2, l1, l0, m, t])
    (hi : i.val = b.toNat) {k : Code} (hs : s.slot i = .ready k) (hm : m.toNat ≤ 1)
    (ht : toleranceInRange t.toNat = true) :
    exec .codeAmend s =
      .next ((s.popCommand.putSlot i
        (.ready (k.amend (l3 ++ l2 ++ l1 ++ l0) (decide (m = 1#8)) t.toNat))).replied c [0x00#8, b]) := by
  refine congrArg Host.Outcome.next (State.takeCommand_answers h hp rfl ?_)
  have hslot : s.popCommand.slot i = .ready k := hs
  have hm' : byteAt [b, l3, l2, l1, l0, m, t] 5 = m.toNat := rfl
  have ht' : byteAt [b, l3, l2, l1, l0, m, t] 6 = t.toNat := rfl
  unfold actCodeAmend
  rw [show slotOf (byteAt [b, l3, l2, l1, l0, m, t] 0) = some i from slotOf_eq_some hi]
  simp only [hslot, hm', ht', yesNoOf_toNat hm, if_pos ht, ofNat_longAt, hi, u8_toNat]
  rfl

end Amend

/-! ### CODE_INFO -/

theorem exec_codeInfo_range (h : s.takes c .codeInfo) (hp : c.payload = [b]) (hb : 127 < b.toNat) :
    exec .codeInfo s = .next (s.answered c [0x02#8]) := by
  refine congrArg Host.Outcome.next (State.takeCommand_answers h hp rfl ?_)
  unfold actCodeInfo
  rw [show slotOf (byteAt [b] 0) = none from slotOf_eq_none hb]
  rfl

theorem exec_codeInfo_slot (h : s.takes c .codeInfo) (hp : c.payload = [b]) {i : SlotNo} (hi : i.val = b.toNat) :
    exec .codeInfo s = .next (s.answered c ([0x00#8, b] ++ u8 (s.slot i).code ++ s.slotFields i)) := by
  refine congrArg Host.Outcome.next (State.takeCommand_answers h hp rfl ?_)
  unfold actCodeInfo
  rw [show slotOf (byteAt [b] 0) = some i from slotOf_eq_some hi]
  simp only [hi, u8_toNat]
  rfl

/-! ### CODE_READ -/

section Read

variable {oh ol n : Byte} {i : SlotNo}

theorem exec_codeRead_range (h : s.takes c .codeRead) (hp : c.payload = [b, oh, ol, n]) (hb : 127 < b.toNat) :
    exec .codeRead s = .next (s.answered c [0x02#8]) := by
  refine congrArg Host.Outcome.next (State.takeCommand_answers h hp rfl ?_)
  unfold actCodeRead
  rw [show slotOf (byteAt [b, oh, ol, n] 0) = none from slotOf_eq_none hb]
  rfl

theorem exec_codeRead_slotState (h : s.takes c .codeRead) (hp : c.payload = [b, oh, ol, n]) (hi : i.val = b.toNat)
    (hs : s.code? i = none) : exec .codeRead s = .next (s.answered c [0x03#8]) := by
  refine congrArg Host.Outcome.next (State.takeCommand_answers h hp rfl ?_)
  have hcode : s.popCommand.code? i = none := hs
  unfold actCodeRead
  rw [show slotOf (byteAt [b, oh, ol, n] 0) = some i from slotOf_eq_some hi]
  simp only [hcode]
  rfl

/-- CODE_READ of a slot that holds a code: the run is checked and its cells answered (R14). -/
theorem exec_codeRead_code (h : s.takes c .codeRead) (hp : c.payload = [b, oh, ol, n]) (hi : i.val = b.toNat) {k : Code}
    (hs : s.code? i = some k) {offset : Nat} (ho : offset = oh.toNat * 256 + ol.toNat) :
    exec .codeRead s =
      .next (s.answered c
        (if n.toNat < 1 ∨ 112 < n.toNat then [0x02#8]
          else if k.header.total < offset + n.toNat then [0x02#8]
          else [0x00#8, b, oh, ol, n] ++ cellBytes ((k.cells.drop offset).take n.toNat))) := by
  refine congrArg Host.Outcome.next (State.takeCommand_answers h hp rfl ?_)
  have hcode : s.popCommand.code? i = some k := hs
  have hoffset : wordAt [b, oh, ol, n] 1 = offset := ho.symm
  have hcount : byteAt [b, oh, ol, n] 3 = n.toNat := rfl
  have hfield : u16 offset = [oh, ol] := ho ▸ u16_word oh ol
  unfold actCodeRead
  rw [show slotOf (byteAt [b, oh, ol, n] 0) = some i from slotOf_eq_some hi]
  have hlimit : Config.segmentCells = 112 := rfl
  simp only [hcode, hoffset, hcount, hfield, hi, u8_toNat, hlimit]
  split
  · rfl
  · split <;> rfl

end Read

end Commands

end Sys2Proof.Machine

/-! ### The statements about the commands of the code table -/

section

open Sys2Proof Sys2Proof.Machine

/-- Settles O17: one equation for CODE_RETIRED by whether it is due, and one for CODE_ERASE with the effect by the slot's
state. -/
theorem codeErasedAndRetired : Obligations.CodeErasedAndRetired := by
  refine ⟨fun s i => ⟨exec_codeRetired_of_not_due, fun k hs hk => ?_⟩, fun s c b h hp => ⟨exec_codeErase_range h hp, ?_⟩⟩
  · rw [exec_codeRetired_of_due hs hk, State.retire, State.putSlot_empty hs]
    rfl
  intro i hi
  have hexec := exec_codeErase_slot h hp hi
  refine ⟨fun hs => ?_, fun x got hs => ?_, fun l hs hl hli => ?_, fun k hs hk => ?_, fun k hs hk => ?_, fun k hs => ?_⟩
  · rw [hexec, State.eraseSlot_empty (s := s.popCommand) hs, hs]
    rfl
  · rw [hexec, State.eraseSlot_loading (s := s.popCommand) hs, State.putSlot_empty (s := s.popCommand) hs, hs]
    rfl
  · rw [hexec, State.eraseSlot_learning (s := s.popCommand) hs hl hli, hs]
    rfl
  · rw [hexec, State.eraseSlot_ready_unused (s := s.popCommand) hs hk, State.putSlot_empty (s := s.popCommand) hs, hs]
    simp only [Slot.defersErase, hk]
    rfl
  · have hblocks : (Slot.retiring k).blocks = (s.popCommand.slot i).blocks := (congrArg Slot.blocks hs).symm
    rw [hexec, State.eraseSlot_ready_used (s := s.popCommand) hs hk, State.putSlot_of_blocks_eq hblocks, hs]
    simp only [Slot.defersErase, decide_eq_true hk]
    rfl
  · rw [hexec, State.eraseSlot_retiring (s := s.popCommand) hs, hs]
    rfl

/-- Settles O18: one equation for each of the checks, in their order. -/
theorem codeAmendAnswers : Obligations.CodeAmendAnswers := by
  intro s c b l3 l2 l1 l0 m t h hp
  refine ⟨exec_codeAmend_range h hp, fun i hi => ⟨exec_codeAmend_slotState h hp hi, fun k hs => ⟨fun hf => ?_, ?_⟩⟩⟩
  · refine exec_codeAmend_badField h hp hi hs (hf.imp_right fun ⟨hzero, hrange⟩ => ?_)
    rw [← Bool.not_eq_true, toleranceInRange_iff]
    rintro (ht | ⟨hlow, hhigh⟩)
    · exact hzero ht
    · omega
  · intro hm ht
    have hblocks : (Slot.ready (k.amend (l3 ++ l2 ++ l1 ++ l0) (decide (m = 1#8)) t.toNat)).blocks =
        (s.popCommand.slot i).blocks := (congrArg Slot.blocks hs).symm
    rw [exec_codeAmend_accepted h hp hi hs hm ((toleranceInRange_iff t).mpr ht), State.putSlot_of_blocks_eq hblocks]
    rfl

/-- Settles O19: the reply's fields are read off for each state of the slot. -/
theorem codeInfoAnswers : Obligations.CodeInfoAnswers := by
  refine fun s c b h hp => ⟨exec_codeInfo_range h hp, fun i hi => ?_⟩
  rw [exec_codeInfo_slot h hp hi]
  refine ⟨fun hs => ?_, fun x got l hs hl => ?_, fun l hs hl => ?_, fun k hk => ?_⟩
  · simp only [State.slotFields, hs]
    rfl
  · simp only [State.slotFields, hs, hl, List.append_assoc]
    rfl
  · simp only [State.slotFields, hs, hl]
    rfl
  · obtain hs | hs := Slot.code?_eq_some.mp hk
    all_goals
      simp only [State.slotFields, hs, List.append_assoc]
      rfl

/-- Settles O20: a slot without a code is refused, and a code's run is checked by its length and its end. -/
theorem codeReadAnswers : Obligations.CodeReadAnswers := by
  intro s c b oh ol n offset h hp ho
  refine ⟨exec_codeRead_range h hp, fun i hi => ⟨fun hready hretiring => ?_, fun k hs => ?_⟩⟩
  · refine exec_codeRead_slotState h hp hi ?_
    unfold State.code?
    cases hx : s.slot i with
    | ready | retiring => simp_all [Slot.isReady, Slot.isRetiring]
    | empty | loading | learning => rfl
  · rw [exec_codeRead_code h hp hi (Slot.code?_eq_some.mpr hs) ho]
    refine ⟨fun hcount => ?_, fun hlow hhigh hend => ?_, fun hlow hhigh hend => ?_⟩
    · rw [if_pos (by omega)]
    · rw [if_neg (by omega), if_pos hend]
    · rw [if_neg (by omega), if_neg (by omega)]

/-- Settles O21: the reply's two context fields are read off by whether each context is free. -/
theorem poolInfoAnswers : Obligations.PoolInfoAnswers := by
  intro s c h hp
  have hexec : exec .poolInfo s = .next (State.finish (actPoolInfo [] s.popCommand) c) :=
    congrArg Host.Outcome.next (State.takeCommand_executes h hp rfl)
  rw [hexec, actPoolInfo, State.finish_answer]
  refine congrArg (fun fields => Host.Outcome.next (s.answered c fields)) ?_
  have htable : s.popCommand.table = s.table := rfl
  rw [htable]
  cases s.table.load with
  | none => cases s.table.learn with
    | none | some => rfl
  | some => cases s.table.learn with
    | none | some => rfl

end
end

section
/-! PROOFS. The commands that load a code, and the idle timer of a load (R2, R3, R18 to R30). -/

namespace Sys2Proof.Machine

/-! ### The header that a payload spells -/

/-- A four-byte field, most significant byte first (Conventions, Byte order). -/
theorem longAt_eq (p : List Byte) (i : Nat) :
    longAt p i = ((byteAt p i * 256 + byteAt p (i + 1)) * 256 + byteAt p (i + 2)) * 256 + byteAt p (i + 3) := by
  have hlast : i + 2 + 1 = i + 3 := rfl
  unfold longAt wordAt
  rw [hlast]
  omega

/-- The label of a payload is its four bytes joined (Conventions, Byte order). -/
theorem ofNat_longAt_eq_append (p : List Byte) (i : Nat) :
    BitVec.ofNat 32 (longAt p i) = p.getD i 0#8 ++ p.getD (i + 1) 0#8 ++ p.getD (i + 2) 0#8 ++ p.getD (i + 3) 0#8 := by
  apply BitVec.eq_of_toNat_eq
  simp only [toNat_append_byte, longAt_eq, byteAt, BitVec.toNat_ofNat]
  omega

/-- The header that a payload spells, valid or not (chapter 11, Code header layout). -/
def Header.spelled (p : List Byte) : Header where
  label := p.getD 1 0#8 ++ p.getD 2 0#8 ++ p.getD 3 0#8 ++ p.getD 4 0#8
  frequency := ((byteAt p 5 * 256 + byteAt p 6) * 256 + byteAt p 7) * 256 + byteAt p 8
  duty := byteAt p 9
  mode := if byteAt p 10 = 0 then .count else .hold
  repeatFigure := byteAt p 11
  leadCells := byteAt p 12 * 256 + byteAt p 13
  repeatCells := byteAt p 14 * 256 + byteAt p 15
  trailGap := ((byteAt p 16 * 256 + byteAt p 17) * 256 + byteAt p 18) * 256 + byteAt p 19
  matchable := decide (byteAt p 20 = 1)
  tolerance := byteAt p 21

theorem codeModeOf_eq (n : Nat) :
    codeModeOf n = if n ≤ 1 then some (if n = 0 then .count else .hold) else none := by
  match n with
  | 0 | 1 => rfl
  | n + 2 => simp [codeModeOf]

theorem yesNoOf_eq (n : Nat) : yesNoOf n = if n ≤ 1 then some (decide (n = 1)) else none := by
  match n with
  | 0 | 1 => rfl
  | n + 2 => simp [yesNoOf]

/-- A payload gives the header it spells when its mode and its yes/no field have values of theirs and the header is valid. -/
theorem headerOf_eq (p : List Byte) :
    headerOf p =
      if byteAt p 10 ≤ 1 ∧ byteAt p 20 ≤ 1 ∧ (Header.spelled p).valid = true then some (Header.spelled p) else none := by
  unfold headerOf
  rw [codeModeOf_eq, yesNoOf_eq, ofNat_longAt_eq_append, longAt_eq p 5, longAt_eq p 16]
  by_cases hmode : byteAt p 10 ≤ 1
  · by_cases hmatch : byteAt p 20 ≤ 1
    · rw [if_pos hmode, if_pos hmatch]
      simp only [hmode, hmatch, true_and]
      rfl
    · simp [hmode, hmatch]
  · simp [hmode]

/-! ### Valid headers -/

theorem sectionInRange_iff (n : Nat) : sectionInRange n = true ↔ (n = 0 ∨ n % 2 = 1) ∧ n ≤ 1023 := by
  simp only [sectionInRange, Bool.or_eq_true, Bool.and_eq_true, decide_eq_true_eq]
  omega

/-- The sections suit the mode (R3, conditions 4 to 6). -/
theorem Header.sectionsSuitMode_iff (h : Header) :
    h.sectionsSuitMode = true ↔
      (h.mode = .hold → h.repeatCells ≠ 0) ∧ (h.mode = .count → h.leadCells = 0 → 1 ≤ h.repeatFigure) ∧
        (h.mode = .count → h.repeatCells = 0 → h.repeatFigure = 0) := by
  unfold Header.sectionsSuitMode
  cases h.mode with
  | hold => simp
  | count => simp [imp_iff_not_or]

/-- The ranges of a header whose repeat figure is a byte (R2, R3). -/
theorem Header.valid_iff {h : Header} (hbyte : h.repeatFigure ≤ 255) :
    h.valid = true ↔
      (h.frequency = 0 ∨ (15000 ≤ h.frequency ∧ h.frequency ≤ 500000)) ∧ (h.duty = 25 ∨ h.duty = 33 ∨ h.duty = 50) ∧
        (h.leadCells = 0 ∨ h.leadCells % 2 = 1) ∧ h.leadCells ≤ 1023 ∧
        (h.repeatCells = 0 ∨ h.repeatCells % 2 = 1) ∧ h.repeatCells ≤ 1023 ∧
        1 ≤ h.leadCells + h.repeatCells ∧ h.leadCells + h.repeatCells ≤ 1024 ∧
        (h.mode = .hold → h.repeatCells ≠ 0) ∧ (h.mode = .count → h.leadCells = 0 → 1 ≤ h.repeatFigure) ∧
        (h.mode = .count → h.repeatCells = 0 → h.repeatFigure = 0) ∧
        1000 ≤ h.trailGap ∧ h.trailGap ≤ 500000 ∧ (h.tolerance = 0 ∨ (5 ≤ h.tolerance ∧ h.tolerance ≤ 50)) := by
  simp only [Header.valid, frequencyInRange, dutyInRange, toleranceInRange, Bool.and_eq_true, Bool.or_eq_true,
    decide_eq_true_eq, sectionInRange_iff, Header.sectionsSuitMode_iff, hbyte, and_true, and_assoc, or_assoc]
  rfl

/-! ### The load context -/

theorem State.loadOf_eq_none {s : State} {n : Nat} (h : ∀ l, s.table.load = some l → l.slot.val ≠ n) :
    s.loadOf n = none := by
  unfold State.loadOf
  cases hl : s.table.load with
  | none => rfl
  | some l => exact if_neg (h l hl)

theorem State.loadOf_slot {s : State} {l : LoadContext} (h : s.table.load = some l) : s.loadOf l.slot.val = some l := by
  simp [State.loadOf, h]

/-- Opening a load on an EMPTY slot takes the header's blocks from the pool (R20). -/
theorem State.openLoad_of_empty {s : State} {i : SlotNo} (h : s.slot i = .empty) (x : Header) :
    s.openLoad i x =
      { s with
        table :=
          { slots := s.table.slots.set i.val (.loading x []) i.isLt
            freeBlocks := s.table.freeBlocks - x.blocks
            load := some { slot := i, header := x, nextOffset := 0, checksum := crcStart, idle := s.idleTimer }
            learn := s.table.learn } } := by
  unfold State.openLoad State.putSlot
  rw [h]
  rfl

section Loading

variable {s : State} {l : LoadContext} {x : Header} {got : List Nat}

/-- A segment stored in a LOADING slot leaves the pool (R24). -/
theorem State.storeSegment_of_loading (h : s.slot l.slot = .loading x got) (cells : List Nat) :
    s.storeSegment l cells =
      { s with
        table :=
          { s.table with
            slots := s.table.slots.set l.slot.val (.loading x (got ++ cells)) l.slot.isLt
            load := some
              { l with
                nextOffset := l.nextOffset + cells.length
                checksum := crcCells l.checksum cells
                idle := s.idleTimer } } } := by
  have hblocks : (Slot.loading x (got ++ cells)).blocks = (s.slot l.slot).blocks := (congrArg Slot.blocks h).symm
  simp only [State.storeSegment, State.extendSlot, h]
  rw [State.putSlot_of_blocks_eq hblocks]
  rfl

/-- A load abandoned gives its slot's blocks back to the pool (R27, R30). -/
theorem State.abandonLoad_of_loading {i : SlotNo} (h : s.slot i = .loading x got) :
    s.abandonLoad i =
      { s with
        table :=
          { s.table with
            slots := s.table.slots.set i.val .empty i.isLt
            freeBlocks := s.table.freeBlocks + x.blocks
            load := none } } := by
  simp only [State.abandonLoad, h]
  rw [State.putSlot_empty h]
  rfl

/-- A load completed turns its slot READY with the blocks it holds (R28). -/
theorem State.completeLoad_of_loading (h : s.slot l.slot = .loading x got) :
    s.completeLoad l =
      { s with
        table :=
          { s.table with
            slots :=
              s.table.slots.set l.slot.val (.ready { header := x, cells := got, checksum := l.checksum, refs := 0 })
                l.slot.isLt
            load := none } } := by
  have hblocks : (Slot.ready { header := x, cells := got, checksum := l.checksum, refs := 0 }).blocks =
      (s.slot l.slot).blocks := (congrArg Slot.blocks h).symm
  simp only [State.completeLoad, h]
  rw [State.putSlot_of_blocks_eq hblocks]
  rfl

end Loading

/-! ### CODE_OPEN, check by check (R19) -/

section Open

variable {s : State} {p : List Byte} {i : SlotNo}

theorem actCodeOpen_badSlot (hb : 127 < byteAt p 0) : actCodeOpen p s = s.refuse .range (u8 (byteAt p 0)) := by
  simp only [actCodeOpen, slotOf_eq_none hb]

theorem actCodeOpen_slotState (hi : i.val = byteAt p 0) (hs : s.slot i ≠ .empty) :
    actCodeOpen p s = s.refuse .slotState (u8 i.val ++ u8 (s.slot i).code) := by
  simp only [actCodeOpen, slotOf_eq_some hi, if_pos hs]

theorem actCodeOpen_busy (hi : i.val = byteAt p 0) (hs : s.slot i = .empty) {l : LoadContext}
    (hl : s.table.load = some l) : actCodeOpen p s = s.refuse .busy (u8 i.val ++ u8 l.slot.val) := by
  simp only [actCodeOpen, slotOf_eq_some hi, if_neg (not_not.mpr hs), hl]

theorem actCodeOpen_badHeader (hi : i.val = byteAt p 0) (hs : s.slot i = .empty) (hl : s.table.load = none)
    (hh : headerOf p = none) : actCodeOpen p s = s.refuse .range (u8 i.val) := by
  simp only [actCodeOpen, slotOf_eq_some hi, if_neg (not_not.mpr hs), hl, hh]

theorem actCodeOpen_poolFull (hi : i.val = byteAt p 0) (hs : s.slot i = .empty) (hl : s.table.load = none) {x : Header}
    (hh : headerOf p = some x) (hn : s.table.freeBlocks < x.blocks) :
    actCodeOpen p s = s.refuse .poolFull (u8 i.val ++ u16 x.blocks ++ u16 s.table.freeBlocks) := by
  simp only [actCodeOpen, slotOf_eq_some hi, if_neg (not_not.mpr hs), hl, hh, if_pos hn]

theorem actCodeOpen_opens (hi : i.val = byteAt p 0) (hs : s.slot i = .empty) (hl : s.table.load = none) {x : Header}
    (hh : headerOf p = some x) (hn : x.blocks ≤ s.table.freeBlocks) :
    actCodeOpen p s =
      (s.openLoad i x).answer (reply .ok (u8 i.val ++ u8 x.blocks ++ u16 (s.table.freeBlocks - x.blocks))) := by
  have hpool : (s.openLoad i x).table.freeBlocks = s.table.freeBlocks - x.blocks := by
    rw [State.openLoad_of_empty hs]
  simp only [actCodeOpen, slotOf_eq_some hi, if_neg (not_not.mpr hs), hl, hh, if_neg (not_lt.mpr hn), hpool]

end Open

/-! ### CODE_DATA, check by check (R23) -/

/-- The first cell shorter than 8 µs (R23, check 4). -/
theorem findIdx?_shortCell {cells : List Nat} {k d : Nat} (hd : cells[k]? = some d) (hshort : d < 8)
    (hbefore : ∀ m e, m < k → cells[m]? = some e → 8 ≤ e) : cells.findIdx? (fun c => decide (c < 8)) = some k := by
  obtain ⟨hk, rfl⟩ := List.getElem?_eq_some_iff.mp hd
  refine List.findIdx?_eq_some_iff_getElem.mpr ⟨hk, decide_eq_true hshort, fun m hm => ?_⟩
  have hlong := hbefore m _ hm (List.getElem?_eq_getElem (hm.trans hk))
  simpa using hlong

section Data

variable {s : State} {p : List Byte} {cells : List Nat} {l : LoadContext}

theorem actCodeData_notLoading (hl : s.loadOf (byteAt p 0) = none) :
    actCodeData p s = s.refuse .notLoading (u8 (byteAt p 0)) := by
  simp only [actCodeData, hl]

theorem actCodeData_sequence (hl : s.loadOf (byteAt p 0) = some l) (ho : wordAt p 1 ≠ l.nextOffset) :
    actCodeData p s = s.refuse .sequence (u8 l.slot.val ++ u16 l.nextOffset) := by
  simp only [actCodeData, hl, if_pos ho]

theorem actCodeData_tooLong (hl : s.loadOf (byteAt p 0) = some l) (hc : cells = cellsAt p 4 (byteAt p 3))
    (ho : wordAt p 1 = l.nextOffset) (hend : l.header.total < l.nextOffset + cells.length) :
    actCodeData p s = s.refuse .range (u8 l.slot.val ++ u16 l.nextOffset ++ u16 0xFFFF) := by
  simp only [actCodeData, hl, ← hc, ho, ne_eq, not_true_eq_false, if_false, if_pos hend]

theorem actCodeData_shortCell (hl : s.loadOf (byteAt p 0) = some l) (hc : cells = cellsAt p 4 (byteAt p 3))
    (ho : wordAt p 1 = l.nextOffset) (hend : l.nextOffset + cells.length ≤ l.header.total) {k : Nat}
    (hk : cells.findIdx? (fun c => decide (c < 8)) = some k) :
    actCodeData p s = s.refuse .range (u8 l.slot.val ++ u16 l.nextOffset ++ u16 (l.nextOffset + k)) := by
  simp only [actCodeData, hl, ← hc, ho, ne_eq, not_true_eq_false, if_false, if_neg (not_lt.mpr hend), hk]

theorem actCodeData_stores (hl : s.loadOf (byteAt p 0) = some l) (hc : cells = cellsAt p 4 (byteAt p 3))
    (ho : wordAt p 1 = l.nextOffset) (hend : l.nextOffset + cells.length ≤ l.header.total)
    (hlong : ∀ d ∈ cells, 8 ≤ d) :
    actCodeData p s =
      (s.storeSegment l cells).answer (reply .ok (u8 l.slot.val ++ u16 (l.nextOffset + cells.length))) := by
  have hnone : cells.findIdx? (fun c => decide (c < 8)) = none :=
    List.findIdx?_eq_none_iff.mpr fun d hd => decide_eq_false (not_lt.mpr (hlong d hd))
  simp only [actCodeData, hl, ← hc, ho, ne_eq, not_true_eq_false, if_false, if_neg (not_lt.mpr hend), hnone]

end Data

/-! ### CODE_CLOSE, check by check (R26) -/

section Close

variable {s : State} {p : List Byte} {l : LoadContext}

theorem actCodeClose_notLoading (hl : s.loadOf (byteAt p 0) = none) :
    actCodeClose p s = s.refuse .notLoading (u8 (byteAt p 0)) := by
  simp only [actCodeClose, hl]

theorem actCodeClose_incomplete (hl : s.loadOf (byteAt p 0) = some l) (ho : l.nextOffset ≠ l.header.total) :
    actCodeClose p s = s.refuse .incomplete (u8 l.slot.val ++ u16 l.nextOffset) := by
  simp only [actCodeClose, hl, if_pos ho]

theorem actCodeClose_differs (hl : s.loadOf (byteAt p 0) = some l) (ho : l.nextOffset = l.header.total)
    (hsum : wordAt p 1 ≠ l.checksum.toNat) :
    actCodeClose p s =
      (s.abandonLoad l.slot).answer (reply .checksum (u8 l.slot.val ++ u16 l.checksum.toNat)) := by
  simp only [actCodeClose, hl, if_neg (not_not.mpr ho), if_pos hsum]

theorem actCodeClose_agrees (hl : s.loadOf (byteAt p 0) = some l) (ho : l.nextOffset = l.header.total)
    (hsum : wordAt p 1 = l.checksum.toNat) :
    actCodeClose p s = (s.completeLoad l).answer (reply .ok (u8 l.slot.val ++ u16 l.checksum.toNat)) := by
  simp only [actCodeClose, hl, if_neg (not_not.mpr ho), if_neg (not_not.mpr hsum)]

end Close

/-! ### The idle timer (R30) -/

/-- A report that is not capture-derived, by whether its category is selected and an entry is free (R170, R173). -/
theorem HostLine.produce_eq_ite (l : HostLine) (r : Report) :
    l.produce r =
      if l.selects r.category = false then l
      else if l.reports.length < 32 then l.join r
      else { l with lost := if l.lost < 65535 then l.lost + 1 else l.lost } := by
  obtain ⟨hsel, h⟩ | ⟨hsel, hfree, h⟩ | ⟨hsel, hfull, h⟩ := l.produce_cases r
  · rw [h, if_pos hsel]
  · rw [h, if_neg (by simp [hsel]), if_pos hfree]
  · rw [h, if_neg (by simp [hsel]), if_neg (not_lt.mpr hfull)]
    rfl

theorem exec_loadIdleTimerExpiry_no_load {s : State} (h : s.table.load = none) :
    exec .loadIdleTimerExpiry s = .next s := by
  change execLoadIdleTimerExpiry s = _
  simp only [execLoadIdleTimerExpiry, h]

theorem exec_loadIdleTimerExpiry_of_load {s : State} {l : LoadContext} (h : s.table.load = some l) :
    exec .loadIdleTimerExpiry s =
      .next
        (if l.idle.length ≤ (s.now - l.idle.start).toNat then
          (s.abandonLoad l.slot).produce (.loadAbandoned l.slot l.nextOffset)
        else s) := by
  change execLoadIdleTimerExpiry s = _
  simp only [execLoadIdleTimerExpiry, h, Timer.reached, decide_eq_true_eq]

end Sys2Proof.Machine

/-! ### The statements about loads -/

section

open Sys2Proof Sys2Proof.Machine

/-- Settles O14: the payload's header is the one it spells when that is valid, and each check is one equation of the
command's effect. -/
theorem codeOpenAnswers : Obligations.CodeOpenAnswers := by
  intro s c p h hp hlen
  have hexec : exec .codeOpen s = .next (State.finish (actCodeOpen p s.popCommand) c) :=
    congrArg Host.Outcome.next (State.takeCommand_executes h hp (decide_eq_true hlen))
  refine ⟨fun hb => ?_, fun i hi => ⟨fun hs => ?_, fun l hs hl => ?_, ?_⟩⟩
  · rw [hexec, actCodeOpen_badSlot hb, State.finish_refuse]
    rfl
  · rw [hexec, actCodeOpen_slotState hi (s := s.popCommand) hs, State.finish_refuse]
    rfl
  · rw [hexec, actCodeOpen_busy hi (s := s.popCommand) hs hl, State.finish_refuse]
    rfl
  rintro x valid n rfl hvalid rfl hs hl
  have hbyte : (Header.spelled p).repeatFigure ≤ 255 := Nat.le_of_lt_succ (p.getD 11 0#8).isLt
  have hfields : valid ↔ byteAt p 10 ≤ 1 ∧ byteAt p 20 ≤ 1 ∧ (Header.spelled p).valid = true :=
    hvalid.trans
      ⟨fun ⟨hfrequency, hduty, hmode, hmatch, hrest⟩ =>
        ⟨hmode, hmatch, (Header.valid_iff hbyte).mpr ⟨hfrequency, hduty, hrest⟩⟩,
      fun ⟨hmode, hmatch, hheader⟩ =>
        have ⟨hfrequency, hduty, hrest⟩ := (Header.valid_iff hbyte).mp hheader
        ⟨hfrequency, hduty, hmode, hmatch, hrest⟩⟩
  have hspelled (hgood : valid) : headerOf p = some (Header.spelled p) :=
    (headerOf_eq p).trans (if_pos (hfields.mp hgood))
  refine ⟨fun hbad => ?_, fun hgood hpool => ?_, fun hgood hpool => ?_⟩
  · have hheader : headerOf p = none := (headerOf_eq p).trans (if_neg fun hok => hbad (hfields.mpr hok))
    rw [hexec, actCodeOpen_badHeader hi (s := s.popCommand) hs hl hheader, State.finish_refuse]
    rfl
  · rw [hexec, actCodeOpen_poolFull hi (s := s.popCommand) hs hl (hspelled hgood) hpool, State.finish_refuse]
    rfl
  · rw [hexec, actCodeOpen_opens hi (s := s.popCommand) hs hl (hspelled hgood) hpool, State.finish_answer,
      State.openLoad_of_empty (s := s.popCommand) hs]
    rfl

/-- Settles O15: each check is one equation of the command's effect, and a segment that passes them extends the slot. -/
theorem codeDataAnswers : Obligations.CodeDataAnswers := by
  rintro s c _ cells h hcount hlimit hlen rfl hcells
  have hform : formCodeData c.payload = true := by
    have hmax : byteAt c.payload 3 ≤ Config.segmentCells := hlimit
    simp [formCodeData, hcount, hmax, hlen]
  have hexec : exec .codeData s = .next (State.finish (actCodeData c.payload s.popCommand) c) :=
    congrArg Host.Outcome.next (State.takeCommand_executes h rfl hform)
  rw [hexec]
  refine ⟨fun hnot => ?_, fun l hinUse hslot => ?_⟩
  · rw [actCodeData_notLoading (State.loadOf_eq_none (s := s.popCommand) hnot), State.finish_refuse]
    rfl
  have hl : s.popCommand.loadOf (byteAt c.payload 0) = some l :=
    hslot ▸ State.loadOf_slot (s := s.popCommand) hinUse
  refine ⟨fun ho => ?_, fun ho hend => ?_, fun k d ho hend hd hshort hbefore => ?_, fun x got ho hend hlong hs => ?_⟩
  · rw [actCodeData_sequence hl ho, State.finish_refuse]
    rfl
  · rw [ho] at hend
    rw [actCodeData_tooLong hl hcells ho hend, State.finish_refuse]
    rfl
  · rw [ho] at hend ⊢
    rw [actCodeData_shortCell hl hcells ho hend (findIdx?_shortCell hd hshort hbefore), State.finish_refuse]
    rfl
  · rw [ho] at hend ⊢
    rw [actCodeData_stores hl hcells ho hend hlong, State.finish_answer,
      State.storeSegment_of_loading (s := s.popCommand) hs]
    rfl

/-- Settles O16: each check is one equation of the command's effect, which abandons or completes the load. -/
theorem codeCloseAnswers : Obligations.CodeCloseAnswers := by
  intro s c h hlen
  have hexec : exec .codeClose s = .next (State.finish (actCodeClose c.payload s.popCommand) c) :=
    congrArg Host.Outcome.next (State.takeCommand_executes h rfl (decide_eq_true hlen))
  rw [hexec]
  refine ⟨fun hnot => ?_, fun l hinUse hslot => ?_⟩
  · rw [actCodeClose_notLoading (State.loadOf_eq_none (s := s.popCommand) hnot), State.finish_refuse]
    rfl
  have hl : s.popCommand.loadOf (byteAt c.payload 0) = some l :=
    hslot ▸ State.loadOf_slot (s := s.popCommand) hinUse
  refine ⟨fun ho => ?_, fun x got ho hs => ⟨fun hsum => ?_, fun hsum => ?_⟩⟩
  · rw [actCodeClose_incomplete hl ho, State.finish_refuse]
    rfl
  · rw [actCodeClose_differs hl ho hsum, State.finish_answer, State.abandonLoad_of_loading (s := s.popCommand) hs]
    rfl
  · rw [actCodeClose_agrees hl ho hsum, State.finish_answer, State.completeLoad_of_loading (s := s.popCommand) hs]
    rfl

/-- Settles O22: an expired load is abandoned and its report produced by the queue's room and the selection. -/
theorem loadIdleExpires : Obligations.LoadIdleExpires := by
  refine fun s => ⟨exec_loadIdleTimerExpiry_no_load, fun l x got hinUse hs => ⟨fun hearly => ?_, fun hdue => ?_⟩⟩
  · rw [exec_loadIdleTimerExpiry_of_load hinUse, if_neg (not_le.mpr hearly)]
  · rw [exec_loadIdleTimerExpiry_of_load hinUse, if_pos hdue, State.abandonLoad_of_loading hs, State.produce,
      HostLine.produce_eq_ite]
    rfl

end
end

section
/-! PROOFS. What falls due of itself, and the step that takes it (log entries 1, 6, 7). -/

namespace Sys2Proof.Machine

theorem mem_dueWhen {b : Bool} {i k : Instr} : i ∈ dueWhen b k ↔ i = k ∧ b = true := by
  cases b <;> simp [dueWhen]

theorem Timer.reached_iff {t : Timer} {now : Word32} : t.reached now = true ↔ t.length ≤ (now - t.start).toNat :=
  decide_eq_true_iff

/-! ### Jobs -/

theorem State.cellDone_iff {s : State} {j : Job} :
    s.cellDone j = true ↔
      ∃ p k, j.play = some p ∧ s.code? j.slot = some k ∧
        ∃ n d, p.phase = .inSection n ∧ (k.section p.kind)[n]? = some d ∧ p.since + d ≤ s.clock := by
  unfold State.cellDone
  cases j.play with
  | none => simp
  | some p => cases s.code? j.slot with
    | none => simp
    | some k => cases hphase : p.phase with
      | inSection n => simp [hphase, Option.any_eq_true]
      | trail | atBoundary => simp [hphase]

theorem State.trailDone_iff {s : State} {j : Job} :
    s.trailDone j = true ↔
      ∃ p k, j.play = some p ∧ s.code? j.slot = some k ∧ p.phase = .trail ∧ p.since + k.header.trailGap ≤ s.clock := by
  unfold State.trailDone
  cases j.play with
  | none => simp
  | some p => cases s.code? j.slot with
    | none | some k => simp

/-- The happenings of a job are those that fall due at it (R77, R82, R92, R93, R122). -/
theorem State.mem_dueOfJob {s : State} {j : Job} {i : Instr} : i ∈ s.dueOfJob j ↔ s.fallsDueAt j i := by
  simp only [State.dueOfJob, List.mem_append, mem_dueWhen, Bool.and_eq_true, Bool.or_eq_true, decide_eq_true_eq,
    State.cellDone_iff, State.trailDone_iff, State.fallsDueAt]
  constructor
  · rintro ((((h | h) | ⟨hi, hpaused, hdue⟩) | ⟨hi, p, k, hp, hk, h⟩) | ⟨hi, p, k, hp, hk, h⟩)
    · exact .inl h
    · exact .inr (.inl h)
    · exact .inr (.inr (.inl ⟨hi, hdue, hpaused⟩))
    · exact .inr (.inr (.inr ⟨p, k, hp, hk, .inl ⟨hi, h⟩⟩))
    · exact .inr (.inr (.inr ⟨p, k, hp, hk, .inr ⟨hi, h⟩⟩))
  · rintro (h | h | ⟨hi, hdue, hpaused⟩ | ⟨p, k, hp, hk, ⟨hi, h⟩ | ⟨hi, h⟩⟩)
    · exact .inl (.inl (.inl (.inl h)))
    · exact .inl (.inl (.inl (.inr h)))
    · exact .inl (.inl (.inr ⟨hi, hpaused, hdue⟩))
    · exact .inl (.inr ⟨hi, p, k, hp, hk, h⟩)
    · exact .inr ⟨hi, p, k, hp, hk, h⟩

/-! ### Zones -/

theorem State.guardDone_iff {s : State} {z : ZoneNo} :
    s.guardDone z = true ↔ ∃ t, (s.zone z).state = .guard t ∧ t.length ≤ (s.now - t.start).toNat := by
  unfold State.guardDone
  cases (s.zone z).state with
  | guard t => simp [Timer.reached_iff]
  | off | idle | active => simp

/-- The happenings of a zone are those that fall due in it (R58, R112). -/
theorem State.mem_dueOfZone {s : State} {z : ZoneNo} {i : Instr} : i ∈ s.dueOfZone z ↔ s.fallsDueIn z i := by
  simp only [State.dueOfZone, List.mem_append, mem_dueWhen, State.guardDone_iff, decide_eq_true_eq, State.fallsDueIn]

/-! ### Inputs -/

theorem State.trialDone_iff {s : State} {v : InputNo} :
    s.trialDone v = true ↔ ∃ t, (s.input v).trial = some t ∧ t.edge + t.limit ≤ s.clock := by
  simp [State.trialDone, Option.any_eq_true]

theorem State.lasted_iff {s : State} {v : InputNo} {level : Level} {d : Nat} :
    s.lasted v level d = true ↔
      (s.input v).trial = none ∧ (s.input v).accepted = level ∧ (s.input v).levelSince + d ≤ s.clock := by
  simp only [State.lasted, Bool.and_eq_true, decide_eq_true_eq, Option.isNone_iff_eq_none]
  rw [and_comm (a := (s.input v).accepted = level), and_assoc]

theorem State.windowDone_iff {s : State} {v : InputNo} :
    s.windowDone v = true ↔
      ∃ x, (s.input v).run = some x ∧ x.windowPassed = false ∧
        x.lastMarkEnd + s.params.repeatWindow * 1000 ≤ s.clock := by
  simp only [State.windowDone, Option.any_eq_true, Bool.and_eq_true, Bool.not_eq_true', decide_eq_true_eq]
  rfl

/-- The closings and the end of discarding that are due on an input, by its engine (R129, R131). -/
theorem State.mem_dueOfEngine {s : State} {v : InputNo} {i : Instr} :
    i ∈ s.dueOfEngine v ↔
      (s.input v).trial = none ∧
        ((i = .endGapClose v ∧ (s.input v).accepted = .space ∧
            ∃ f, (s.input v).engine = .inFrame f ∧ (s.input v).levelSince + f.endGap ≤ s.clock) ∨
          (i = .stuckMark v ∧ (s.input v).accepted = .mark ∧ (∃ f, (s.input v).engine = .inFrame f) ∧
            (s.input v).levelSince + 200000 ≤ s.clock) ∨
          (i = .discardEnd v ∧ (s.input v).accepted = .space ∧
            ∃ gap, (s.input v).engine = .discarding gap ∧ (s.input v).levelSince + gap ≤ s.clock)) := by
  unfold State.dueOfEngine
  cases (s.input v).engine with
  | quiet => simp
  | inFrame f =>
    simp only [stuckLimit, List.mem_append, mem_dueWhen, State.lasted_iff, Engine.inFrame.injEq, exists_eq_left',
      exists_eq', true_and, reduceCtorEq, false_and, exists_const, and_false, or_false]
    tauto
  | discarding gap =>
    simp only [mem_dueWhen, State.lasted_iff, reduceCtorEq, false_and, exists_false, and_false,
      Engine.discarding.injEq, exists_eq_left', false_or]
    exact and_left_comm

/-- The happenings of an input are those that fall due on it (R124, R129, R131, R145). -/
theorem State.mem_dueOfInput {s : State} {v : InputNo} {i : Instr} : i ∈ s.dueOfInput v ↔ s.fallsDueOn v i := by
  simp only [State.dueOfInput, List.mem_append, mem_dueWhen, State.trialDone_iff, State.mem_dueOfEngine,
    State.windowDone_iff, or_assoc, State.fallsDueOn]

/-! ### The host line -/

theorem lineRate_eq (straps : BitVec 2) : lineRate straps = ratesOf straps := by
  revert straps
  decide

/-- A number of bytes takes at most `n` µs on a line when their bits fit into them at the line's rate (R162). -/
theorem bytesTime_le_iff (k n : Nat) (straps : BitVec 2) :
    bytesTime k straps ≤ n ↔ k * 10 * 1000000 ≤ n * ratesOf straps := by
  have hpos : 0 < ratesOf straps := by
    revert straps
    decide
  rw [bytesTime, lineRate_eq, Nat.div_le_iff_le_mul_add_pred hpos, Nat.mul_comm n]
  omega

theorem State.frameSent_iff {s : State} :
    s.frameSent = true ↔
      ∃ f n, s.line.sending = some f ∧ s.line.sendingSince + n = s.clock ∧
        (f.payload.length + 7) * 10 * 1000000 ≤ n * ratesOf s.line.straps := by
  simp only [State.frameSent, Option.any_eq_true, decide_eq_true_eq, OutFrame.lineTime, OutFrame.bytes_length,
    ← bytesTime_le_iff]
  constructor
  · rintro ⟨f, hf, hsent⟩
    exact ⟨f, s.clock - s.line.sendingSince, hf, by omega, by omega⟩
  · rintro ⟨f, n, hf, hn, htime⟩
    exact ⟨f, hf, by omega⟩

theorem HostLine.reportReady_iff {l : HostLine} :
    l.reportReady = true ↔
      l.sending = none ∧ l.waiting = [] ∧ l.held = false ∧ l.outstanding < 8 ∧ ∃ e ∈ l.reports, e.sent = false := by
  have hwindow : Config.reportWindow = 8 := rfl
  unfold HostLine.reportReady HostLine.nextReport
  rw [hwindow]
  cases l.held with
  | true => simp
  | false =>
    by_cases hout : l.outstanding < 8
    · simp [hout, and_assoc]
    · simp [hout]

theorem State.gapPassed_iff {s : State} :
    s.gapPassed = true ↔
      s.line.framer ≠ .hunt ∧ s.line.lastByte + 10000 + 10000000 / ratesOf s.line.straps < s.clock := by
  simp only [State.gapPassed, State.quietFor, byteTime, byteGap, lineRate_eq, Bool.and_eq_true, decide_eq_true_eq]

theorem HostLine.mem_dueCommand {l : HostLine} {i : Instr} :
    i ∈ l.dueCommand ↔ ∃ c rest, l.fifo = c :: rest ∧ l.ready = true ∧ i = c.row := by
  unfold HostLine.dueCommand
  cases l.fifo with
  | nil => simp
  | cons c rest => simp [mem_dueWhen, and_comm]

/-- The happenings of the host line are those that fall due on it (R164, R166, R167, R171, R172). -/
theorem State.mem_dueOfLine {s : State} {i : Instr} : i ∈ s.dueOfLine ↔ s.fallsDueOnLine i := by
  simp only [State.dueOfLine, List.mem_append, mem_dueWhen, State.frameSent_iff, HostLine.reportReady_iff,
    State.gapPassed_iff, HostLine.mem_dueCommand, or_assoc, State.fallsDueOnLine]

/-! ### The choice -/

/-- The timers of the load and of the learn that are due (R30, R154). -/
theorem State.mem_dueOfTable {s : State} {i : Instr} :
    i ∈ s.dueOfTable ↔
      (i = .loadIdleTimerExpiry ∧ ∃ l, s.table.load = some l ∧ l.idle.length ≤ (s.now - l.idle.start).toNat) ∨
        (i = .learnDeadline ∧ ∃ x, s.table.learn = some x ∧ x.deadline.length ≤ (s.now - x.deadline.start).toNat) := by
  simp only [State.dueOfTable, List.mem_append, mem_dueWhen, Option.any_eq_true, Timer.reached_iff]

theorem mem_allZones (z : ZoneNo) : z ∈ allZones := by
  revert z
  decide

theorem mem_allInputs (v : InputNo) : v ∈ allInputs := by
  revert v
  decide

/-- The list of the due happenings holds what falls due, and nothing else (log entry 1). -/
theorem State.mem_dueNow {s : State} {i : Instr} : i ∈ s.dueNow ↔ s.fallsDue i := by
  simp only [State.dueNow, List.mem_append, List.mem_flatMap, State.mem_dueOfLine, State.mem_dueOfTable,
    State.mem_dueOfJob, State.mem_dueOfZone, State.mem_dueOfInput, mem_allZones, mem_allInputs, true_and,
    State.fallsDue]
  constructor
  · rintro ((((hline | htable) | hjob) | hzone) | hinput)
    · exact .inr (.inr (.inr (.inl hline)))
    · exact .inr (.inr (.inr (.inr htable)))
    · exact .inl hjob
    · exact .inr (.inl hzone)
    · exact .inr (.inr (.inl hinput))
  · rintro (hjob | hzone | hinput | hline | htable)
    · exact .inl (.inl (.inr hjob))
    · exact .inl (.inr hzone)
    · exact .inr hinput
    · exact .inl (.inl (.inl (.inl hline)))
    · exact .inl (.inl (.inl (.inr htable)))

theorem State.chooseDue_eq_none {s : State} (h : ∀ i, ¬s.fallsDue i) : s.chooseDue = none := by
  have hnone : s.dueNow = [] := List.eq_nil_iff_forall_not_mem.mpr fun i hi => h i (State.mem_dueNow.mp hi)
  simp only [State.chooseDue, hnone]

/-- When something falls due, one such happening is chosen, in the state but for the count of draws (log entry 6). -/
theorem State.chooseDue_eq_some {s : State} (h : ∃ i, s.fallsDue i) :
    ∃ i n, s.fallsDue i ∧ (n = s.draws ∨ n = s.draws + 1) ∧ s.chooseDue = some (i, { s with draws := n }) := by
  simp only [← State.mem_dueNow] at h ⊢
  unfold State.chooseDue
  match s.dueNow, h with
  | [i], _ => exact ⟨i, s.draws, List.mem_singleton_self i, .inl rfl, rfl⟩
  | i :: j :: is, _ =>
    have hbound : Config.firstTaken s.draws % (is.length + 2) < (i :: j :: is).length := Nat.mod_lt _ (by omega)
    refine ⟨_, s.draws + 1, ?_, .inr rfl, rfl⟩
    rw [List.getD_eq_getElem _ _ hbound]
    exact List.getElem_mem hbound

theorem step_of_nothing_due {s : State} (hqueue : s.pending = []) (h : s.chooseDue = none) : step s = .next s.tick := by
  simp only [step, hqueue, h]

theorem step_of_choice {s t : State} {i : Instr} (hqueue : s.pending = []) (h : s.chooseDue = some (i, t)) :
    step s = exec i t := by
  simp only [step, hqueue, h]

end Sys2Proof.Machine

/-! ### The statement about steps -/

section

open Sys2Proof Sys2Proof.Machine

/-- Settles O1: the due happenings are what falls due, and the one chosen is run. -/
theorem stepRunsFrontCommand : Obligations.StepRunsFrontCommand := by
  refine ⟨fun _ _ _ => rfl, fun s hqueue => ⟨fun hnone => ?_, fun hdue => ?_⟩⟩
  · exact step_of_nothing_due hqueue (State.chooseDue_eq_none hnone)
  · obtain ⟨i, n, hi, hn, hchoice⟩ := State.chooseDue_eq_some hdue
    exact ⟨i, n, hi, hn, step_of_choice hqueue hchoice⟩

end
end

section
/-! PROOFS. EMIT by its checks, the admission of its request, and the commands that read jobs and zones (R38 to R51, R64). -/

namespace Sys2Proof.Machine

/-! ### The request in an EMIT payload -/

theorem classOf_eq_none {n : Nat} (h : 1 < n) : classOf n = none := by
  match n, h with
  | n + 2, _ => rfl

theorem classOf_toNat {m : Byte} (h : m.toNat ≤ 1) :
    classOf m.toNat = some (if m = 1#8 then .urgent else .normal) := by
  obtain rfl | rfl : m = 0#8 ∨ m = 1#8 := by bv_omega
  · rfl
  · rfl

theorem inputOf_eq_some_iff {n : Nat} {v : InputNo} : inputOf n = some v ↔ v.val = n := by
  unfold inputOf
  split
  · rw [Option.some.injEq, Fin.ext_iff, eq_comm]
  · exact iff_of_false nofun (by omega)

theorem verifyInputOf_eq_none {m : Byte} (h : ¬(m.toNat ≤ 1 ∨ m = 0xFF#8)) : verifyInputOf m.toNat = none := by
  have hff : m.toNat ≠ 0xFF := by bv_omega
  rw [verifyInputOf, if_neg hff, inputOf, dif_neg (by omega)]
  rfl

theorem verifyInputOf_toNat {m : Byte} (h : m.toNat ≤ 1 ∨ m = 0xFF#8) :
    verifyInputOf m.toNat = some (inputOf m.toNat) := by
  obtain h | rfl := h
  · rw [verifyInputOf, if_neg (by omega), inputOf, dif_pos (by omega)]
    rfl
  · rfl

theorem repeatOverrideOf_toNat (m : Byte) :
    repeatOverrideOf m.toNat = if m = 0xFF#8 then none else some m.toNat := by
  have hff : m.toNat = 0xFF ↔ m = 0xFF#8 := by bv_omega
  simp only [repeatOverrideOf, hff]

section Emit

variable {s : State} {c : CommandFrame} {b zs cl ho ro kh kl vi : Byte} {keep : Nat} {i : SlotNo} {k : Code}

/-- A payload that passes check 2 holds the request that its bytes spell (R38). -/
theorem requestOf_eq_some (hkeep : keep = kh.toNat * 256 + kl.toNat) (h2 : emitCheck2 zs cl ho vi) :
    requestOf [b, zs, cl, ho, ro, kh, kl, vi] i = some (emitRequest i zs cl ho ro vi keep) := by
  obtain ⟨hzs, hcl, hho, hvi⟩ := h2
  have hclass : classOf (byteAt [b, zs, cl, ho, ro, kh, kl, vi] 2) = _ := classOf_toNat hcl
  have hhold : yesNoOf (byteAt [b, zs, cl, ho, ro, kh, kl, vi] 3) = _ := yesNoOf_toNat hho
  have hrepeat : repeatOverrideOf (byteAt [b, zs, cl, ho, ro, kh, kl, vi] 4) = _ := repeatOverrideOf_toNat ro
  have hinterval : wordAt [b, zs, cl, ho, ro, kh, kl, vi] 5 = keep := hkeep.symm
  have hverify : verifyInputOf (byteAt [b, zs, cl, ho, ro, kh, kl, vi] 7) = _ := verifyInputOf_toNat hvi
  simp only [requestOf, hclass, hhold, hrepeat, hinterval, hverify]
  exact if_neg hzs

/-- A payload that fails check 2 holds no request (R39). -/
theorem requestOf_eq_none (h2 : ¬emitCheck2 zs cl ho vi) : requestOf [b, zs, cl, ho, ro, kh, kl, vi] i = none := by
  have hclass : byteAt [b, zs, cl, ho, ro, kh, kl, vi] 2 = cl.toNat := rfl
  have hhold : byteAt [b, zs, cl, ho, ro, kh, kl, vi] 3 = ho.toNat := rfl
  have hverify : byteAt [b, zs, cl, ho, ro, kh, kl, vi] 7 = vi.toNat := rfl
  simp only [requestOf, hclass, hhold, hverify]
  by_cases hcl : cl.toNat ≤ 1
  · by_cases hho : ho.toNat ≤ 1
    · by_cases hvi : vi.toNat ≤ 1 ∨ vi = 0xFF#8
      · have hzs : zs = 0#8 := by_contra fun hzs => h2 ⟨hzs, hcl, hho, hvi⟩
        rw [classOf_toNat hcl, yesNoOf_toNat hho, verifyInputOf_toNat hvi]
        exact if_pos hzs
      · rw [classOf_toNat hcl, yesNoOf_toNat hho, verifyInputOf_eq_none hvi]
    · rw [classOf_toNat hcl, yesNoOf_eq_none (by omega)]
  · rw [classOf_eq_none (by omega)]

theorem suitsMode_emitRequest_iff (hho : ho.toNat ≤ 1) :
    (emitRequest i zs cl ho ro vi keep).suitsMode k.header.mode = true ↔ emitCheck4 k ho ro keep := by
  have hzero : ho ≠ 1#8 ↔ ho = 0#8 := by bv_omega
  cases hmode : k.header.mode with
  | hold => simp [EmitRequest.suitsMode, emitRequest, emitCheck4, hmode]
  | count => simp [EmitRequest.suitsMode, emitRequest, emitCheck4, hmode, hzero]

theorem keepInRange_emitRequest_iff :
    (emitRequest i zs cl ho ro vi keep).keepInRange = true ↔ emitCheck5 keep := by
  by_cases hkeep : keep = 0
  · simp [EmitRequest.keepInRange, emitRequest, emitCheck5, hkeep]
  · simp [EmitRequest.keepInRange, emitRequest, emitCheck5, hkeep]

theorem State.inputFree_iff {v : InputNo} :
    s.inputFree v = true ↔ (s.input v).mode ≠ .learn ∧ ∀ j ∈ s.jobs, j.verifyInput ≠ some v := by
  simp [State.inputFree, State.namedByJob]

/-! ### EMIT by its checks -/

/-- Checks 6 and 7 in order, and the admission when neither fails (R39 to R41). -/
theorem State.emitLast_eq {r : EmitRequest} (hr : r = emitRequest i zs cl ho ro vi keep) :
    s.emitLast r k =
      if ¬s.emitCheck6 vi then s.refuse .inputBusy (u8 i.val ++ [vi])
      else if ¬s.emitCheck6' k vi then s.refuse .mode (u8 i.val ++ u8 k.header.mode.code)
      else if 16 ≤ s.jobs.length then s.refuse .queueFull (u8 i.val ++ u8 s.jobs.length)
      else
        (s.admitJob r).answerThenArbitrate (reply .ok (u8 (s.newJob r).id ++ u8 (s.admitJob r).jobs.length)) := by
  have hslot : r.slot = i := hr ▸ rfl
  have hinput : r.verifyInput = inputOf vi.toNat := hr ▸ rfl
  have hplaces : Config.jobPlaces = 16 := rfl
  simp only [State.emitLast, hslot, hinput, hplaces, ← Nat.not_le, ite_not]
  cases hv : inputOf vi.toNat with
  | none =>
    have habsent : ∀ v : InputNo, v.val ≠ vi.toNat := fun v h =>
      nomatch hv.symm.trans (inputOf_eq_some_iff.mpr h)
    rw [if_pos fun v h => absurd h (habsent v), if_pos fun v h => absurd h (habsent v)]
  | some v =>
    have hval : v.val = vi.toNat := inputOf_eq_some_iff.mp hv
    have honly : ∀ w : InputNo, w.val = vi.toNat → w = v := fun w h => Fin.ext (h.trans hval.symm)
    have hcheck6 : s.emitCheck6 vi ↔ s.inputFree v = true := by
      rw [State.inputFree_iff]
      exact ⟨fun h => h v hval, fun h w hw => honly w hw ▸ h⟩
    have hcheck6' : s.emitCheck6' k vi ↔ ¬k.header.trailGap ≤ s.endGap v := by
      rw [Nat.not_le]
      exact ⟨fun h => h v hval, fun h w hw => honly w hw ▸ h⟩
    simp only [hcheck6, hcheck6', hval, u8_toNat, ite_not]
    cases s.inputFree v <;> rfl

/-- Checks 3 to 7 of a request that has passed check 2, in order (R39, R40). -/
theorem State.emitOn_eq (hkeep : keep = kh.toNat * 256 + kl.toNat) (h2 : emitCheck2 zs cl ho vi) :
    s.emitOn [b, zs, cl, ho, ro, kh, kl, vi] i k =
      if zs &&& s.offZones ≠ 0#8 then s.refuse .zoneDisabled (u8 i.val ++ [zs &&& s.offZones])
      else if ¬emitCheck4 k ho ro keep then s.refuse .mode (u8 i.val ++ u8 k.header.mode.code)
      else if ¬emitCheck5 keep then s.refuse .range (u8 i.val)
      else s.emitLast (emitRequest i zs cl ho ro vi keep) k := by
  obtain ⟨_, _, hho, _⟩ := id h2
  simp only [State.emitOn, requestOf_eq_some hkeep h2, meets, decide_eq_true_eq, Bool.not_eq_true',
    ← Bool.not_eq_true, suitsMode_emitRequest_iff hho, keepInRange_emitRequest_iff]
  rfl

theorem State.emitOn_of_not_emitCheck2 (h2 : ¬emitCheck2 zs cl ho vi) :
    s.emitOn [b, zs, cl, ho, ro, kh, kl, vi] i k = s.refuse .range (u8 i.val) := by
  simp only [State.emitOn, requestOf_eq_none h2]

theorem exec_emit_noSlot (h : s.takes c .emit) (hp : c.payload = [b, zs, cl, ho, ro, kh, kl, vi]) (hb : 127 < b.toNat) :
    exec .emit s = .next (s.answered c [0x0A#8, b, 0xFF#8]) := by
  refine congrArg Host.Outcome.next (State.takeCommand_answers h hp rfl ?_)
  have hbyte : byteAt [b, zs, cl, ho, ro, kh, kl, vi] 0 = b.toNat := rfl
  simp only [actEmit, hbyte, slotOf_eq_none hb, u8_toNat]
  rfl

theorem exec_emit_notReady (h : s.takes c .emit) (hp : c.payload = [b, zs, cl, ho, ro, kh, kl, vi])
    (hi : i.val = b.toNat) (hs : (s.slot i).isReady = false) :
    exec .emit s = .next (s.answered c [0x0A#8, b, BitVec.ofNat 8 (s.slot i).code]) := by
  refine congrArg Host.Outcome.next (State.takeCommand_answers h hp rfl ?_)
  have hbyte : byteAt [b, zs, cl, ho, ro, kh, kl, vi] 0 = b.toNat := rfl
  simp only [actEmit, hbyte, slotOf_eq_some hi, State.popCommand_slot, hi, u8_toNat]
  cases hx : s.slot i with
  | ready => simp [hx, Slot.isReady] at hs
  | empty | loading | learning | retiring => rfl

/-- EMIT on a READY slot goes on with the checks of the request (R39). -/
theorem exec_emit_ready (h : s.takes c .emit) (hp : c.payload = [b, zs, cl, ho, ro, kh, kl, vi])
    (hi : i.val = b.toNat) (hs : s.slot i = .ready k) :
    exec .emit s =
      .next (State.finish (s.popCommand.emitOn [b, zs, cl, ho, ro, kh, kl, vi] i k) c) := by
  refine congrArg Host.Outcome.next ((State.takeCommand_executes h hp rfl).trans ?_)
  have hbyte : byteAt [b, zs, cl, ho, ro, kh, kl, vi] 0 = b.toNat := rfl
  simp only [actEmit, hbyte, slotOf_eq_some hi, State.popCommand_slot, hs]

theorem exec_emit_noRequest (h : s.takes c .emit) (hp : c.payload = [b, zs, cl, ho, ro, kh, kl, vi])
    (hi : i.val = b.toNat) (hs : s.slot i = .ready k) (h2 : ¬emitCheck2 zs cl ho vi) :
    exec .emit s = .next (s.answered c [0x02#8, b]) := by
  rw [exec_emit_ready h hp hi hs, State.emitOn_of_not_emitCheck2 h2, hi, u8_toNat]
  rfl

/-- EMIT of a request: checks 3 to 7 in order, the first that fails giving the reply, and the admission when none does
(R39 to R41). -/
theorem exec_emit_request (h : s.takes c .emit) (hp : c.payload = [b, zs, cl, ho, ro, kh, kl, vi])
    (hkeep : keep = kh.toNat * 256 + kl.toNat) (hi : i.val = b.toNat) (hs : s.slot i = .ready k)
    (h2 : emitCheck2 zs cl ho vi) {r : EmitRequest} (hr : r = emitRequest i zs cl ho ro vi keep) {u : State}
    (hu : u = s.popCommand.admitJob r) :
    exec .emit s =
      .next
        (if zs &&& s.offZones ≠ 0#8 then s.answered c [0x0B#8, b, zs &&& s.offZones]
        else if ¬emitCheck4 k ho ro keep then s.answered c [0x0E#8, b, BitVec.ofNat 8 k.header.mode.code]
        else if ¬emitCheck5 keep then s.answered c [0x02#8, b]
        else if ¬s.emitCheck6 vi then s.answered c [0x10#8, b, vi]
        else if ¬s.emitCheck6' k vi then s.answered c [0x0E#8, b, BitVec.ofNat 8 k.header.mode.code]
        else if 16 ≤ s.jobs.length then s.answered c [0x0C#8, b, BitVec.ofNat 8 s.jobs.length]
        else (u.replied c ([0x00#8] ++ u8 (s.newJob r).id ++ u8 u.jobs.length)).runArbiter) := by
  subst hr hu
  rw [exec_emit_ready h hp hi hs, State.emitOn_eq hkeep h2, State.emitLast_eq rfl, hi, u8_toNat]
  simp only [apply_ite (State.finish · c)]
  rfl

end Emit

/-! ### The id of an admission -/

/-- The search passes over held ids only. -/
theorem freeId_passes_held (fuel n : Nat) (js : List Job) :
    ∃ k ≤ fuel, freeId fuel n js = triedId n k ∧ ∀ i < k, ∃ j ∈ js, j.id = triedId n i := by
  induction fuel generalizing n with
  | zero => exact ⟨0, le_rfl, rfl, fun i hi => absurd hi (Nat.not_lt_zero i)⟩
  | succ fuel ih =>
    unfold freeId
    by_cases hheld : ∃ j ∈ js, j.id = n
    · rw [if_pos (by simpa using hheld)]
      obtain ⟨k, hk, he, hbefore⟩ := ih (nextIdAfter n)
      refine ⟨k + 1, by omega, he, fun i hi => ?_⟩
      cases i with
      | zero => exact hheld
      | succ i => exact hbefore i (by omega)
    · rw [if_neg (by simpa using hheld)]
      exact ⟨0, by omega, rfl, fun i hi => absurd hi (Nat.not_lt_zero i)⟩

/-- Fewer than 16 jobs do not hold all of 16 ids tried. -/
theorem exists_triedId_free {n : Nat} (hn : isJobId n) {js : List Job} (hroom : js.length < 16) :
    ∃ k < 16, ∀ j ∈ js, j.id ≠ triedId n k := by
  have hinj : Set.InjOn (triedId n) (Finset.range 16) := by
    intro a ha b hb hab
    simp only [Finset.coe_range, Set.mem_Iio] at ha hb
    rw [triedId_eq hn, triedId_eq hn] at hab
    omega
  have hcard : (js.map Job.id).toFinset.card < ((Finset.range 16).image (triedId n)).card := by
    rw [Finset.card_image_of_injOn hinj, Finset.card_range]
    have hle := (js.map Job.id).toFinset_card_le
    rw [List.length_map] at hle
    omega
  obtain ⟨m, hm, hfree⟩ := Finset.exists_mem_notMem_of_card_lt_card hcard
  obtain ⟨k, hk, rfl⟩ := Finset.mem_image.mp hm
  refine ⟨k, Finset.mem_range.mp hk, fun j hj he => hfree ?_⟩
  rw [List.mem_toFinset, ← he]
  exact List.mem_map_of_mem hj

/-- The id of an admission is the first from the counter on that no live job holds (R42). -/
theorem State.allocateId_first {s : State} (hn : isJobId s.nextId) (hroom : s.jobs.length < 16) :
    ∃ k < 16, s.allocateId = triedId s.nextId k ∧ ∀ i < k, ∃ m ∈ s.jobs, m.id = triedId s.nextId i := by
  obtain ⟨k, -, he, hbefore⟩ := freeId_passes_held 16 s.nextId s.jobs
  obtain ⟨free, hfree, hunheld⟩ := exists_triedId_free hn hroom
  refine ⟨k, Nat.lt_of_not_le fun hk => ?_, he, hbefore⟩
  obtain ⟨m, hm, hid⟩ := hbefore free (by omega)
  exact hunheld m hm hid

theorem nextIdAfter_of_le {n : Nat} (h : n ≤ 255) : nextIdAfter n = if n = 255 then 1 else n + 1 := by
  unfold nextIdAfter
  split <;> split <;> omega

/-! ### The queue place of an admission -/

theorem joinQueue_normal {js : List Job} {j : Job} (hj : j.isUrgent = false) : joinQueue js j = js ++ [j] := by
  rw [joinQueue, hj]
  rfl

/-- In a queue in order an URGENT job joins between the URGENT jobs and the NORMAL ones (R43). -/
theorem joinQueue_urgent {js : List Job} {j : Job} (hj : j.isUrgent = true)
    (horder : js = js.filter Job.isUrgent ++ js.filter fun m => !m.isUrgent) :
    joinQueue js j = js.filter Job.isUrgent ++ j :: js.filter fun m => !m.isUrgent := by
  have hurgent : ∀ m ∈ js.filter Job.isUrgent, m.isUrgent = true := fun _ hm => (List.mem_filter.mp hm).2
  have hnormal : ∀ m ∈ js.filter (fun m => !m.isUrgent), ¬m.isUrgent = true := fun _ hm => by
    simpa using (List.mem_filter.mp hm).2
  have htake : js.takeWhile Job.isUrgent = js.filter Job.isUrgent := by
    conv_lhs => rw [horder]
    rw [List.takeWhile_append_of_pos hurgent, List.takeWhile_eq_nil_iff.mpr fun h => hnormal _ (List.getElem_mem h),
      List.append_nil]
  have hdrop : js.dropWhile Job.isUrgent = js.filter fun m => !m.isUrgent := by
    have hsplit := (List.takeWhile_append_dropWhile (p := Job.isUrgent) (l := js)).trans horder
    rw [htake] at hsplit
    exact List.append_cancel_left hsplit
  rw [joinQueue, if_pos hj, htake, hdrop]

/-! ### Preemption marking -/

/-- A job's record when it is marked for preemption (R48). -/
def Job.marked (m : Job) : Job :=
  { m with preemptPending := true }

@[simp] theorem Job.marked_id (m : Job) : m.marked.id = m.id := rfl

@[simp] theorem Job.marked_marked (m : Job) : m.marked.marked = m.marked := rfl

theorem Job.isMarkedBy_eq (m : Job) (zs : ZoneSet) :
    m.isMarkedBy zs =
      decide (m.cls = .normal ∧ (m.state = .running ∨ m.state = .draining) ∧ m.zones &&& zs ≠ 0#8) := by
  have hclass : m.isUrgent = !decide (m.cls = .normal) := by
    unfold Job.isUrgent
    cases m.cls <;> rfl
  simp [Job.isMarkedBy, hclass, meets, Bool.and_assoc]

theorem Job.isMarkedBy_iff_of_normal {m : Job} (h : m.isUrgent = false) (zs : ZoneSet) :
    m.isMarkedBy zs = true ↔ (m.state = .running ∨ m.state = .draining) ∧ m.zones &&& zs ≠ 0#8 := by
  simp [Job.isMarkedBy, h, meets]

theorem Job.not_isMarkedBy_of_urgent {m : Job} (h : m.isUrgent = true) (zs : ZoneSet) : m.isMarkedBy zs = false := by
  simp [Job.isMarkedBy, h]

/-- An URGENT admission marks none of the jobs of its own class, and so not the one admitted. -/
theorem filter_isMarkedBy_join {js : List Job} {j : Job} (hj : j.isUrgent = true)
    (horder : js = js.filter Job.isUrgent ++ js.filter fun m => !m.isUrgent) (zs : ZoneSet) :
    (js.filter Job.isUrgent ++ j :: js.filter fun m => !m.isUrgent).filter (fun m => m.isMarkedBy zs) =
      js.filter fun m => m.isMarkedBy zs := by
  conv_rhs => rw [horder]
  rw [List.filter_append, List.filter_append, List.filter_cons_of_neg (by simp [Job.not_isMarkedBy_of_urgent hj])]

/-- In a queue of distinct ids, the ids of the jobs with a property tell these jobs. -/
theorem Job.id_mem_map_filter {js : List Job} (hids : (js.map Job.id).Nodup) {p : Job → Bool} {n : Job} (hn : n ∈ js) :
    n.id ∈ (js.filter p).map Job.id ↔ p n = true := by
  rw [List.mem_map]
  refine ⟨fun ⟨m, hm, he⟩ => ?_, fun h => ⟨n, List.mem_filter.mpr ⟨hn, h⟩, rfl⟩⟩
  obtain ⟨hmjs, hp⟩ := List.mem_filter.mp hm
  exact List.inj_on_of_nodup_map hids hmjs hn he ▸ hp

/-- Marking jobs none of which is paused changes their records and nothing else (R48). -/
theorem foldl_markJob_of_not_paused {l : List Job} (h : ∀ m ∈ l, m.paused = false) (s : State) :
    l.foldl State.markJob s =
      s.setJobs (s.jobs.map fun n => if n.id ∈ l.map Job.id then n.marked else n) := by
  induction l generalizing s with
  | nil => simp [State.setJobs]
  | cons m l ih =>
    obtain ⟨hm, hl⟩ := List.forall_mem_cons.mp h
    have hmark : s.markJob m = s.setJobs (s.jobs.map fun n => if n.id = m.id then n.marked else n) := by
      simp only [State.markJob, hm]
      rfl
    rw [List.foldl_cons, ih hl, hmark]
    change s.setJobs _ = s.setJobs _
    rw [State.setJobs_jobs, List.map_map]
    refine congrArg s.setJobs (List.map_congr_left fun n _ => ?_)
    simp only [Function.comp_apply, List.map_cons, List.mem_cons]
    by_cases hn : n.id = m.id
    · simp only [hn, if_true, true_or, Job.marked_id, Job.marked_marked, ite_self]
    · simp only [hn, if_false, false_or]

/-! ### The admission -/

/-- A reference taken on a READY slot changes its count and leaves the pool (R9). -/
theorem State.raiseReference_ready {s : State} {i : SlotNo} {k : Code} (hs : s.slot i = .ready k) :
    s.raiseReference i =
      { s with
        table := { s.table with slots := s.table.slots.set i.val (.ready { k with refs := k.refs + 1 }) i.isLt } } := by
  have hblocks : (Slot.ready { k with refs := k.refs + 1 }).blocks = (s.slot i).blocks := by
    rw [hs]
    rfl
  simp only [State.raiseReference, hs, State.putSlot_of_blocks_eq hblocks]

section Admission

variable {s : State} {r : EmitRequest} {k : Code}

/-- What an admission has written before it marks jobs (R41, steps 1 to 5). -/
def State.enqueued (s : State) (r : EmitRequest) (k : Code) (js : List Job) : State :=
  { s with
    table := { s.table with slots := s.table.slots.set r.slot.val (.ready { k with refs := k.refs + 1 }) r.slot.isLt }
    jobs := js
    nextId := if (s.newJob r).id = 255 then 1 else (s.newJob r).id + 1 }

theorem State.admitJob_eq (hn : isJobId s.nextId) (hroom : s.jobs.length < 16) (hs : s.slot r.slot = .ready k) :
    s.admitJob r = (s.enqueued r k (joinQueue s.jobs (s.newJob r))).markFor (s.newJob r) := by
  obtain ⟨⟨_, hid⟩, _⟩ := State.allocateId_fresh hn hroom
  have hnext : nextIdAfter (s.newJob r).id = if (s.newJob r).id = 255 then 1 else (s.newJob r).id + 1 :=
    nextIdAfter_of_le hid
  simp only [State.admitJob, State.raiseReference_ready hs, hnext]
  rfl

theorem State.admitJob_normal (hn : isJobId s.nextId) (hroom : s.jobs.length < 16) (hs : s.slot r.slot = .ready k)
    (hr : r.cls = .normal) : s.admitJob r = s.enqueued r k (s.jobs ++ [s.newJob r]) := by
  have hclass : (s.newJob r).isUrgent = false := by simp [Job.isUrgent, State.newJob, hr]
  rw [State.admitJob_eq hn hroom hs, joinQueue_normal hclass, State.markFor, hclass]
  rfl

/-- An URGENT admission marks, one behind another, the jobs that play on its zones (R43, R48). -/
theorem State.admitJob_urgent (ho : s.queueOrdered) (hroom : s.jobs.length < 16) (hs : s.slot r.slot = .ready k)
    (hr : r.cls = .urgent) :
    s.admitJob r =
      (s.jobs.filter fun m => m.isMarkedBy r.zones).foldl State.markJob
        (s.enqueued r k (s.jobs.filter Job.isUrgent ++ s.newJob r :: s.jobs.filter fun m => !m.isUrgent)) := by
  obtain ⟨_, _, _, hnext, horder, _⟩ := ho
  have hclass : (s.newJob r).isUrgent = true := by simp [Job.isUrgent, State.newJob, hr]
  rw [State.admitJob_eq hnext hroom hs, joinQueue_urgent hclass horder, State.markFor, if_pos hclass]
  exact congrArg (List.foldl State.markJob _) (filter_isMarkedBy_join hclass horder _)

/-- With no paused NORMAL job, an URGENT admission only marks records: those of NORMAL jobs that play on its zones (R48). -/
theorem State.admitJob_urgent_of_not_paused (ho : s.queueOrdered) (hroom : s.jobs.length < 16)
    (hs : s.slot r.slot = .ready k) (hr : r.cls = .urgent) (hpaused : ∀ m ∈ s.jobs, m.cls = .normal → m.paused = false) :
    s.admitJob r =
      s.enqueued r k
        (s.jobs.filter Job.isUrgent ++
          s.newJob r ::
            (s.jobs.filter fun m => !m.isUrgent).map fun m =>
              if (m.state = .running ∨ m.state = .draining) ∧ m.zones &&& r.zones ≠ 0#8 then m.marked else m) := by
  obtain ⟨_, hids, _, hnext, _, _⟩ := id ho
  have hfresh : ∀ m ∈ s.jobs, m.id ≠ (s.newJob r).id := (State.allocateId_fresh hnext hroom).2
  have hmarked : ∀ m ∈ s.jobs.filter (fun m => m.isMarkedBy r.zones), m.paused = false := fun m hm => by
    obtain ⟨hmem, hmark⟩ := List.mem_filter.mp hm
    rw [Job.isMarkedBy_eq, decide_eq_true_eq] at hmark
    exact hpaused m hmem hmark.1
  have hself : (s.newJob r).id ∉ (s.jobs.filter fun m => m.isMarkedBy r.zones).map Job.id := by
    intro h
    obtain ⟨m, hm, he⟩ := List.mem_map.mp h
    exact hfresh m (List.mem_filter.mp hm).1 he
  have hurgent : ∀ n ∈ s.jobs.filter Job.isUrgent,
      (if n.id ∈ (s.jobs.filter fun m => m.isMarkedBy r.zones).map Job.id then n.marked else n) = id n := by
    intro n hn
    obtain ⟨hn, hclass⟩ := List.mem_filter.mp hn
    simp only [Job.id_mem_map_filter hids hn, Job.not_isMarkedBy_of_urgent hclass]
    rfl
  have hnormal : ∀ n ∈ s.jobs.filter (fun m => !m.isUrgent),
      (if n.id ∈ (s.jobs.filter fun m => m.isMarkedBy r.zones).map Job.id then n.marked else n) =
        if (n.state = .running ∨ n.state = .draining) ∧ n.zones &&& r.zones ≠ 0#8 then n.marked else n := fun n hn => by
    obtain ⟨hn, hclass⟩ := List.mem_filter.mp hn
    simp only [Job.id_mem_map_filter hids hn, Job.isMarkedBy_iff_of_normal (Bool.not_eq_true' _ ▸ hclass)]
  rw [State.admitJob_urgent ho hroom hs hr, foldl_markJob_of_not_paused hmarked]
  change s.enqueued r k (List.map _ (_ ++ _ :: _)) = _
  rw [List.map_append, List.map_cons, List.map_congr_left hurgent, List.map_congr_left hnormal, if_neg hself, List.map_id]

end Admission

/-! ### Reading jobs and zones -/

theorem optionalKeep_eq (n : Option Nat) : optionalKeep n = u16 (n.getD 0) := by
  cases n <;> rfl

/-- The record that JOB_INFO answers, behind its status, the absent keep fields as 0 (R50, R168). -/
theorem Job.infoBytes_eq {j : Job} {b : Byte} (label : Word32) (hid : j.id = b.toNat) :
    0x00#8 :: j.infoBytes label =
      [0x00#8, b] ++ u8 j.slot.val ++ u32 label ++ [j.zones] ++ u8 j.cls.code ++ flag j.hold ++
        optional8 j.repeatOverride ++ u16 (j.keepInterval.getD 0) ++ u16 (j.keepLength.getD 0) ++
        optional8 (j.verifyInput.map Fin.val) ++ u8 j.state.code ++ flag j.paused ++ flag j.preemptPending ++
        flag j.released ++ u16 j.framesSent ++ u16 j.repeatsSent ++ optional8 (j.generator.map Fin.val) ++
        u32 j.admissionTime ++ flag j.startTime.isSome ++ u32 (j.startTime.getD 0#32) ++
        optional8 (j.endReason.map EndReason.code) := by
  unfold Job.infoBytes
  rw [hid, u8_toNat, optionalKeep_eq, optionalKeep_eq]
  simp only [List.append_assoc, List.cons_append, List.nil_append]

theorem flatMap_pair_length {α : Type} (f g : α → Byte) (l : List α) : (l.flatMap fun a => [f a, g a]).length = 2 * l.length := by
  simp [List.length_flatMap, Nat.mul_comm]

section Inquiry

variable {s : State} {c : CommandFrame} {b : Byte}

theorem exec_jobList (h : s.takes c .jobList) (hp : c.payload = []) :
    exec .jobList s =
      .next (s.answered c (0x00#8 :: (u8 s.jobs.length ++
        s.jobs.flatMap fun j => [BitVec.ofNat 8 j.id, BitVec.ofNat 8 j.state.code]))) :=
  congrArg Host.Outcome.next (State.takeCommand_answers h hp rfl rfl)

theorem exec_jobInfo_unknown (h : s.takes c .jobInfo) (hp : c.payload = [b]) (hb : s.job? b.toNat = none) :
    exec .jobInfo s = .next (s.answered c [0x0D#8, b]) := by
  refine congrArg Host.Outcome.next (State.takeCommand_answers h hp rfl ?_)
  have hbyte : byteAt [b] 0 = b.toNat := rfl
  simp only [actJobInfo, hbyte, State.popCommand_job?, hb, u8_toNat]
  rfl

theorem exec_jobInfo_record (h : s.takes c .jobInfo) (hp : c.payload = [b]) {j : Job} (hj : s.job? b.toNat = some j) :
    exec .jobInfo s = .next (s.answered c (0x00#8 :: j.infoBytes (s.label j.slot))) := by
  refine congrArg Host.Outcome.next (State.takeCommand_answers h hp rfl ?_)
  have hbyte : byteAt [b] 0 = b.toNat := rfl
  simp only [actJobInfo, hbyte, State.popCommand_job?, hj]
  rfl

theorem exec_zoneInfo_range (h : s.takes c .zoneInfo) (hp : c.payload = [b]) (hb : 7 < b.toNat) :
    exec .zoneInfo s = .next (s.answered c [0x02#8]) := by
  refine congrArg Host.Outcome.next (State.takeCommand_answers h hp rfl ?_)
  unfold actZoneInfo
  rw [show zoneOf (byteAt [b] 0) = none from dif_neg (Nat.not_lt.mpr hb)]
  rfl

/-- ZONE_INFO answers the zone's record (R64). -/
theorem exec_zoneInfo_record (h : s.takes c .zoneInfo) (hp : c.payload = [b]) {z : ZoneNo} (hz : z.val = b.toNat) :
    exec .zoneInfo s =
      .next (s.answered c
        ([0x00#8, b] ++ u8 (s.zone z).state.code ++ (s.zone z).state.ownerByte ++
          (u8 (s.zone z).drive ++ u16 (s.zone z).load ++ optional8 ((s.zone z).inForce.map fun g => g.1.val)) ++
          (s.zone z).state.guardByte s.now)) := by
  refine congrArg Host.Outcome.next (State.takeCommand_answers h hp rfl ?_)
  have hzone : zoneOf (byteAt [b] 0) = some z := by
    have hlt : b.toNat < 8 := hz ▸ z.isLt
    exact (dif_pos hlt).trans (congrArg some (Fin.ext hz.symm))
  simp only [actZoneInfo, hzone, hz, u8_toNat, State.popCommand_zone, State.popCommand_now, List.append_assoc]
  rfl

end Inquiry

end Sys2Proof.Machine

/-! ### The statements about jobs and the job queue -/

section

open Sys2Proof Sys2Proof.Machine

/-- Settles O23: the slot first, and on a READY slot the equation of the checks at each that fails. -/
theorem emitRefuses : Obligations.EmitRefuses := by
  intro s c b zs cl ho ro kh kl vi keep h hp hkeep
  refine ⟨exec_emit_noSlot h hp, fun i hi => ⟨exec_emit_notReady h hp hi, fun k hs =>
    ⟨exec_emit_noRequest h hp hi hs, fun h2 => ?_⟩⟩⟩
  rw [exec_emit_request h hp hkeep hi hs h2 rfl rfl]
  refine ⟨fun h3 => ?_, fun h3 => ⟨fun h4 => ?_, fun h4 => ⟨fun h5 => ?_, fun h5 h6 => ?_, fun h5 h6 h6' => ?_,
    fun h5 h6 h6' h7 => ?_⟩⟩⟩
  · rw [if_pos h3]
  · rw [if_neg (not_not_intro h3), if_pos h4]
  · rw [if_neg (not_not_intro h3), if_neg (not_not_intro h4), if_pos h5]
  · rw [if_neg (not_not_intro h3), if_neg (not_not_intro h4), if_neg (not_not_intro h5), if_pos h6]
  · rw [if_neg (not_not_intro h3), if_neg (not_not_intro h4), if_neg (not_not_intro h5), if_neg (not_not_intro h6),
      if_pos h6']
  · rw [if_neg (not_not_intro h3), if_neg (not_not_intro h4), if_neg (not_not_intro h5), if_neg (not_not_intro h6),
      if_neg (not_not_intro h6'), if_pos h7]

/-- Settles O24: the equation of the checks where none fails. -/
theorem emitAdmits : Obligations.EmitAdmits := by
  intro s c b zs cl ho ro kh kl vi keep i k r u h hp hkeep hi hs h2 h3 h4 h5 h6 h6' h7 hr hu
  rw [exec_emit_request h hp hkeep hi hs h2 hr hu, if_neg (not_not_intro h3), if_neg (not_not_intro h4),
    if_neg (not_not_intro h5), if_neg (not_not_intro h6), if_neg (not_not_intro h6'), if_neg (Nat.not_le.mpr h7)]

/-- Settles O25: the id by the ids tried before it, the record field by field, and the queue by the job's class. -/
theorem admissionRecords : Obligations.AdmissionRecords := by
  intro s r k j ho hroom hs hj
  subst hj
  obtain ⟨_, _, _, hnext, _, _⟩ := id ho
  obtain ⟨hid, hfresh⟩ := State.allocateId_fresh hnext hroom
  obtain ⟨n, hn, hfirst, hbefore⟩ := State.allocateId_first hnext hroom
  have hcounter : (∀ m ∈ s.jobs, m.id ≠ s.nextId) → s.allocateId = s.nextId := fun hfree => by
    cases n with
    | zero => exact hfirst
    | succ n =>
      obtain ⟨m, hm, he⟩ := hbefore 0 n.succ_pos
      exact absurd he (hfree m hm)
  have hkeepTimer : (r.hold = false → (s.newJob r).keepTimer = none) ∧
      (r.hold = true →
        (s.newJob r).keepTimer = some { start := s.now, length := r.keepInterval.getD s.params.keepInterval }) := by
    constructor
    all_goals
      intro hhold
      simp only [State.newJob, State.keepLengthOf, hhold]
      rfl
  refine ⟨⟨hid, hfresh, hcounter, ⟨n, hn, ?_, fun i hi => ?_⟩, rfl, rfl, rfl, rfl, rfl, rfl, rfl, rfl, rfl, rfl, rfl,
    rfl, rfl, rfl, hkeepTimer⟩, ⟨rfl, rfl, rfl, rfl, rfl, rfl, rfl, rfl, rfl⟩, ?_, ?_, ?_⟩
  · exact hfirst.trans (triedId_eq hnext n)
  · exact triedId_eq hnext i ▸ hbefore i hi
  · exact State.admitJob_normal hnext hroom hs
  · exact State.admitJob_urgent_of_not_paused ho hroom hs
  · intro hr
    rw [State.admitJob_urgent ho hroom hs hr]
    simp only [Job.isMarkedBy_eq]
    rfl

/-- Settles O35: the record's fields are read off, a zone's by its state. -/
theorem jobAndZoneInfoAnswer : Obligations.JobAndZoneInfoAnswer := by
  refine ⟨fun s c b h hp => ⟨fun hnone => ?_, fun j k hj hk => ?_⟩, fun s c b h hp => ⟨exec_zoneInfo_range h hp, ?_⟩⟩
  · exact exec_jobInfo_unknown h hp (List.find?_eq_none.mpr fun j hj => by simpa using hnone j hj)
  · have hlabel : s.label j.slot = k.header.label := by simp only [State.label, hk]
    rw [exec_jobInfo_record h hp hj, hlabel, Job.infoBytes_eq _ (State.job?_id hj)]
  · intro z hz p hfields
    have hforce : p = u8 (s.zone z).drive ++ u16 (s.zone z).load ++
        optional8 ((s.zone z).inForce.map fun g => g.1.val) := by
      rw [hfields]
      cases (s.zone z).inForce <;> rfl
    rw [exec_zoneInfo_record h hp hz, ← hforce]
    refine ⟨fun hstate => ?_, fun hstate => ?_, fun o hstate => ?_, fun t hstate => ?_⟩
    all_goals
      rw [hstate]
      rfl

/-- Settles O28: the pairs are two bytes for each live job. -/
theorem jobListAnswers : Obligations.JobListAnswers := by
  intro s c h hp
  refine ⟨_, exec_jobList h hp, rfl, ?_⟩
  rw [List.length_cons, List.length_append, flatMap_pair_length]
  simp only [u8, List.length_singleton]
  omega

end
end

section
/-! PROOFS. The load monitor at a mark's end, the zone outputs, and CELL_END (R56, R77 to R81, R111, R116 to R118). -/

namespace Sys2Proof.Machine

/-! ### The load monitor -/

@[simp] theorem State.setZone_setZone (s : State) (z : ZoneNo) (x y : Zone) : (s.setZone z x).setZone z y = s.setZone z y := by
  simp [State.setZone, State.setZones]

theorem Zone.isUnder_iff {x : Zone} {g : GroupNo} : x.isUnder g = true ↔ ∃ a, x.inForce = some (g, a) := by
  unfold Zone.isUnder
  cases hf : x.inForce with
  | none => simp
  | some p => obtain ⟨g', a⟩ := p; simp

/-- When a group qualifies for a zone (R116). -/
theorem Group.qualifies_iff {y : Group} {z : ZoneNo} {load hysteresis : Nat} {present : Bool} :
    y.qualifies z load present hysteresis = true ↔
      y.enabled = true ∧ ZoneSet.has y.mask z = true ∧
        (y.threshold ≤ load ∨ (present = true ∧ y.threshold - hysteresis ≤ load)) := by
  simp [Group.qualifies, and_assoc]

/-- The groups are searched upward from G0 (R116). -/
theorem find?_allGroups_eq_some {p : GroupNo → Bool} {g : GroupNo} (hg : p g = true) (hfirst : ∀ g' < g, p g' = false) :
    allGroups.find? p = some g := by
  have hsplit : ∀ g : GroupNo, allGroups = allGroups.take g.val ++ g :: allGroups.drop (g.val + 1) := by decide
  have hbefore : ∀ g : GroupNo, ∀ g' ∈ allGroups.take g.val, g' < g := by decide
  exact List.find?_eq_some_iff_append.mpr
    ⟨hg, _, _, hsplit g, fun g' hg' => by rw [hfirst g' (hbefore g g' hg'), Bool.not_false]⟩

/-- A zone record written with the load estimate it had leaves every zone's estimate. -/
theorem State.setZone_load {s : State} {z : ZoneNo} {x : Zone} (h : x.load = (s.zone z).load) (w : ZoneNo) :
    ((s.setZone z x).zone w).load = (s.zone w).load := by
  rw [State.zone_setZone]
  split
  · exact ‹w = z› ▸ h
  · rfl

/-- An evaluation leaves the load estimates (R116). -/
theorem State.evaluate_load (s : State) (z w : ZoneNo) : ((s.evaluate z).zone w).load = (s.zone w).load := by
  unfold State.evaluate
  simp only []
  split
  · refine State.setZone_load ?_ w
    rfl
  · refine State.setZone_load ?_ w
    rfl

/-- A mark end raises the load estimate of its zone and no other's (R111). -/
theorem State.markEnd_load (s : State) (z w : ZoneNo) (d v : Nat) :
    ((s.markEnd z d v).zone w).load = if w = z then min 65535 ((s.zone z).load + d * v / 800) else (s.zone w).load := by
  refine (State.evaluate_load _ z w).trans ?_
  rw [State.zone_setZone]
  split <;> rfl

/-- A mark end in terms of the group that comes into force after the rise (R111, R116 to R118). -/
theorem State.markEnd_eq {s : State} {z : ZoneNo} {d v : Nat} {x : Zone} {chosen : Option GroupNo} (hx : x = s.zone z)
    {load : Nat} (hload : load = min 65535 (x.load + d * v / 800))
    (hchosen : s.chooseGroup z { x with load := load } = chosen) :
    s.markEnd z d v =
      { s with
        zones :=
          s.zones.set z.val
            { x with
              load := load, inForce := chosen.map fun g => (g, (s.groups[g]).action)
              drive := driveUnder (chosen.map fun g => (g, (s.groups[g]).action)) } z.isLt
        line :=
          if x.inForce.map Prod.fst = chosen then s.line else s.line.produce (.zoneDerate z chosen load s.now) } := by
  subst hx hload
  have hrisen : (s.setZone z { s.zone z with load := min 65535 ((s.zone z).load + d * v / 800) }).chooseGroup z
      { s.zone z with load := min 65535 ((s.zone z).load + d * v / 800) } = chosen := hchosen
  unfold State.markEnd State.evaluate
  simp only [State.zone_setZone_self, State.setZone_setZone, loadRise, Config.counterTop, hrisen, State.setZone_keeps,
    eq_comm (a := chosen)]
  split <;> rfl

section Groups

variable {s : State} {z : ZoneNo} {x : Zone} {load : Nat} {q : GroupNo → Prop}

/-- A group's test at a load, when `q` says in the manual's terms which groups qualify (R116). -/
theorem qualifies_iff_of
    (hq : ∀ g, q g ↔ (s.groups[g]).enabled = true ∧ ZoneSet.has (s.groups[g]).mask z = true ∧
      ((s.groups[g]).threshold ≤ load ∨
        ((∃ a, x.inForce = some (g, a)) ∧ (s.groups[g]).threshold - s.params.derateHysteresis ≤ load))) (g : GroupNo) :
    (s.groups[g]).qualifies z load (x.isUnder g) s.params.derateHysteresis = true ↔ q g := by
  rw [Group.qualifies_iff, Zone.isUnder_iff, hq]

theorem State.chooseGroup_eq_some
    (hq : ∀ g, (s.groups[g]).qualifies z load (x.isUnder g) s.params.derateHysteresis = true ↔ q g) {g : GroupNo}
    (hg : q g) (hfirst : ∀ g', g' < g → ¬q g') : s.chooseGroup z { x with load := load } = some g :=
  find?_allGroups_eq_some ((hq g).mpr hg) fun g' hlt => Bool.eq_false_iff.mpr fun h => hfirst g' hlt ((hq g').mp h)

theorem State.chooseGroup_eq_none
    (hq : ∀ g, (s.groups[g]).qualifies z load (x.isUnder g) s.params.derateHysteresis = true ↔ q g)
    (hnone : ∀ g, ¬q g) : s.chooseGroup z { x with load := load } = none :=
  List.find?_eq_none.mpr fun g _ h => hnone g ((hq g).mp h)

end Groups

/-! ### Outputs of zones -/

theorem mem_zonesOf {zs : ZoneSet} {z : ZoneNo} : z ∈ zonesOf zs ↔ ZoneSet.has zs z = true := by
  simp [zonesOf, mem_allZones]

theorem lookup_map_pair {α : Type} (f : ZoneNo → α) {z : ZoneNo} {zs : List ZoneNo} (h : z ∈ zs) :
    (zs.map fun w => (w, f w)).lookup z = some (f z) := by
  induction zs with
  | nil => simp at h
  | cons w zs ih =>
    rw [List.map_cons, List.lookup_cons]
    by_cases hw : z = w
    · simp [hw]
    · rw [beq_false_of_ne hw]
      exact ih ((List.mem_cons.mp h).resolve_left hw)

theorem State.output_of_not_active {s : State} {z : ZoneNo} (h : ∀ o, (s.zone z).state ≠ .active o) :
    s.output z = .dark := by
  unfold State.output
  split
  · exact absurd ‹_› (h _)
  all_goals rfl

/-- The output of an ACTIVE zone by its owner's record (R56, R78). -/
theorem State.output_of_active {s : State} {z : ZoneNo} {o : Nat} {j : Job} (hz : (s.zone z).state = .active o)
    (hj : s.job? o = some j) :
    s.output z =
      (j.play.bind fun p => p.sampled.lookup z).elim .dark fun d => j.generator.elim (.steady d) fun g => .carrier g d := by
  simp only [State.output, hz, hj, Option.bind_some]
  cases j.play.bind fun p => p.sampled.lookup z with
  | none => rfl
  | some d => cases j.generator <;> rfl

/-! ### Inputs bound to jobs -/

/-- The lookup of the verify record bound to a job finds none exactly when no input is bound (R105). -/
theorem State.bound?_of_notBound {s : State} {j : Job} (h : s.notBound j) : s.bound? j = none := by
  cases hb : s.bound? j with
  | none => rfl
  | some p =>
    obtain ⟨hv, hr, hid⟩ := State.bound?_eq_some hb
    exact absurd hid (h _ _ hv hr)

theorem State.bound?_of_record {s : State} {j : Job} {v : InputNo} {r : VerifyRecord} (hv : j.verifyInput = some v)
    (hr : (s.input v).verify = some r) (hid : r.job = j.id) : s.bound? j = some (v, r) := by
  simp only [State.bound?, hv, hr, if_pos hid]

/-! ### CELL_END -/

section Cells

variable {s : State} {j : Job} {p : Play} {k : Code} {n d : Nat}

/-- CELL_END ends the cell being played once it has lasted its stored value (R77). -/
theorem exec_cellEnd (hj : s.job? j.id = some j) (hp : j.play = some p) (hk : s.code? j.slot = some k)
    (hphase : p.phase = .inSection n) (hd : (k.section p.kind)[n]? = some d) :
    exec (.cellEnd j.id) s =
      .next (if p.since + d ≤ s.clock then s.endCell j p n d (k.section p.kind).length else s) := by
  change execCellEnd j.id s = _
  simp only [execCellEnd, hj, hp, hk, hphase, hd]

theorem State.endCell_space {cells : Nat} (hn : n % 2 = 1) : s.endCell j p n d cells = s.beginMark j p (n + 1) := by
  rw [State.endCell, if_neg (by omega)]

theorem State.endCell_mark {cells : Nat} (hn : n % 2 = 0) (hmore : n + 1 < cells) :
    s.endCell j p n d cells = (s.markEnds d p.sampled).beginSpace j p (n + 1) := by
  rw [State.endCell, if_pos hn]
  exact if_pos hmore

theorem State.endCell_last {cells : Nat} (hn : n % 2 = 0) (hlast : cells ≤ n + 1) :
    s.endCell j p n d cells = (s.markEnds d p.sampled).beginTrail j p := by
  rw [State.endCell, if_pos hn]
  exact if_neg (Nat.not_lt.mpr hlast)

/-- The verifier is told nothing of a job with no bound input (R81). -/
theorem State.noticeEmitted_of_notBound (h : s.notBound j) : s.noticeEmitted j = s := by
  simp only [State.noticeEmitted, State.bound?_of_notBound h]

/-- The verifier counts an emitted section on the bound input (R81, R156). -/
theorem State.noticeEmitted_of_record {v : InputNo} {r : VerifyRecord} (hv : j.verifyInput = some v)
    (hr : (s.input v).verify = some r) (hid : r.job = j.id) :
    s.noticeEmitted j =
      { s with
        inputs :=
          s.inputs.set v.val
            { s.input v with verify := some { r with emitted := if r.emitted < 65535 then r.emitted + 1 else r.emitted } }
            v.isLt } := by
  simp only [State.noticeEmitted, State.bound?_of_record hv hr hid]
  rfl

end Cells

end Sys2Proof.Machine

/-! ### The statement about cells -/

section

open Sys2Proof Sys2Proof.Machine

/-- Settles O33: the mark end by the group chosen, the output by the owner's record, and CELL_END by the parity of the cell. -/
theorem cellEnds : Obligations.CellEnds := by
  refine ⟨State.markEnd_load, fun _ _ _ => rfl, ?_, ?_, ?_⟩
  · intro s z d v load x q hx hload hq
    have hq := qualifies_iff_of hq
    refine ⟨fun g hg hfirst => ?_, fun hnone => ?_⟩
    · rw [State.markEnd_eq hx hload (State.chooseGroup_eq_some hq hg hfirst)]
      simp only [Option.map_some, driveUnder]
      cases (s.groups[g]).action <;> rfl
    · rw [State.markEnd_eq hx hload (State.chooseGroup_eq_none hq hnone)]
      simp only [Option.map_none, Option.map_eq_none_iff, driveUnder]
  · refine fun s z => ⟨State.output_of_not_active, fun o j hz hj => ?_⟩
    rw [State.output_of_active hz hj]
    refine ⟨fun hp => ?_, fun p hp => ⟨fun hdark => ?_, fun drives hdrives hhas => ?_⟩⟩
    · rw [hp]
      rfl
    · rw [hp, Option.bind_some, hdark]
      rfl
    · rw [hp, Option.bind_some, hdrives, lookup_map_pair drives (mem_zonesOf.mpr hhas)]
      cases j.generator <;> rfl
  · intro s j p k n d hj hp hk hphase hd goTo hgoTo
    subst hgoTo
    rw [exec_cellEnd hj hp hk hphase hd]
    refine ⟨fun hearly => by rw [if_neg (Nat.not_le.mpr hearly)], fun hdue => ?_⟩
    rw [if_pos hdue]
    have hclock : (s.markEnds d p.sampled).clock = s.clock := by simp
    refine ⟨fun hn hmore => ?_, fun hn hlast t ht => ?_, fun hn => ?_⟩
    · rw [State.endCell_mark hn hmore, State.beginSpace, hclock]
      rfl
    · have hinputs : (s.markEnds d p.sampled).inputs = s.inputs := by simp
      have htrail : s.endCell j p n d (k.section p.kind).length = t.noticeEmitted j := by
        rw [State.endCell_last hn hlast, State.beginTrail, hclock, ht]
        rfl
      have htin : t.inputs = s.inputs := ht ▸ hinputs
      have hin : ∀ v, t.input v = s.input v := fun v => congrArg (·[v]) htin
      rw [htrail]
      refine ⟨fun hfree => ?_, fun v r hv hr hid => ?_⟩
      · rw [State.noticeEmitted_of_notBound fun v r hv hr => hfree v r hv (hin v ▸ hr)]
      · rw [State.noticeEmitted_of_record hv ((congrArg RxInput.verify (hin v)).trans hr) hid, hin, htin]
    · rw [State.endCell_space hn]
      rfl

end
end

section
/-! PROOFS. The end action of a job: what it takes from the job, what it reports, and where it leaves a bound verify input
(R104 to R107, R158, R160). -/

namespace Sys2Proof.Machine

/-! ### An input given back -/

/-- A state with other jobs, zones and generators. -/
def State.withPlay (s : State) (js : List Job) (zs : Vector Zone 8) (gs : Vector (Option Carrier) 4) : State :=
  { s with jobs := js, zones := zs, generators := gs }

section Play

variable (s : State) (js : List Job) (zs : Vector Zone 8) (gs : Vector (Option Carrier) 4) (v : InputNo)

theorem State.decideRunEnd_withPlay (r : Run) :
    (s.withPlay js zs gs).decideRunEnd v r = (s.decideRunEnd v r).withPlay js zs gs := by
  have hroom : (s.withPlay js zs gs).mayCreate 1 = s.mayCreate 1 := rfl
  unfold State.decideRunEnd
  simp only [hroom]
  split <;> rfl

/-- The run-end check does not see jobs, zones and generators (R145). -/
theorem State.checkRunEnd_withPlay : (s.withPlay js zs gs).checkRunEnd v = (s.checkRunEnd v).withPlay js zs gs := by
  have hinput : (s.withPlay js zs gs).input v = s.input v := rfl
  have hends : ∀ r, (s.withPlay js zs gs).runEnds v r = s.runEnds v r := fun _ => rfl
  unfold State.checkRunEnd
  rw [hinput]
  cases (s.input v).run with
  | none => rfl
  | some r =>
    simp only [hends, State.decideRunEnd_withPlay]
    split <;> rfl

/-- Giving an input back does not see jobs, zones and generators (R125, R160). -/
theorem State.givenBack_withPlay : (s.withPlay js zs gs).givenBack v = (s.givenBack v).withPlay js zs gs := by
  have hinput : (s.withPlay js zs gs).input v = s.input v := rfl
  unfold State.givenBack
  simp only [hinput]
  split
  · rw [← State.checkRunEnd_withPlay]
    rfl
  · rfl

end Play

@[simp] theorem State.setInput_setInput (s : State) (v : InputNo) (x y : RxInput) :
    (s.setInput v x).setInput v y = s.setInput v y := by
  simp [State.setInput, State.setInputs]

/-- A verify record dropped and its input given back, in one piece (R125, R160). -/
theorem State.unbind_eq_givenBack (s : State) (v : InputNo) : s.unbind v = s.givenBack v := by
  unfold State.unbind State.giveBackInput State.givenBack State.discardOpen
  simp only [State.setInput_setInput, State.input_setInput_self, Bool.and_eq_true, decide_eq_true_eq]
  by_cases hoff : (s.input v).savedMode.getD (s.input v).mode = .off
  · cases (s.input v).engine.isInFrame <;> simp only [hoff] <;> rfl
  · simp only [hoff]
    rfl

/-- What the ledger holds of an input that has been given back (R160). -/
theorem State.unbind_hold (s : State) (v : InputNo) :
    ((s.unbind v).input v).hold =
      { mode := (s.input v).savedMode.getD (s.input v).mode, saved := none, bound := none } := by
  exact (congrFun (congrArg Ledger.holds (s.unbind_ledger v)) v).trans (Function.update_self ..)

theorem State.unbind_verify (s : State) (v : InputNo) : ((s.unbind v).input v).verify = none :=
  Option.map_eq_none_iff.mp (congrArg Hold.bound (s.unbind_hold v))

theorem State.unbind_mode (s : State) (v : InputNo) :
    ((s.unbind v).input v).mode = (s.input v).savedMode.getD (s.input v).mode :=
  congrArg Hold.mode (s.unbind_hold v)

/-! ### References -/

/-- A reference given up, in terms of the code table (R9, R11). -/
theorem State.dropReference_table (s : State) (i : SlotNo) :
    (s.dropReference i).table = s.table.put i (s.slot i).withoutReference :=
  congrArg Ledger.table (s.dropReference_ledger i)

/-- CODE_RETIRED is produced when the last reference on a RETIRING slot is given up (R11). -/
theorem State.dropReference_line_of_retiring {s : State} {i : SlotNo} {c : Code} (h : s.slot i = .retiring c) :
    (s.dropReference i).line = if c.refs ≤ 1 then s.line.produce (.codeRetired i c.header.label) else s.line := by
  simp only [State.dropReference, h]
  exact apply_ite State.line _ _ _

theorem State.dropReference_line_of_not_retiring {s : State} {i : SlotNo} (h : ∀ c, s.slot i ≠ .retiring c) :
    (s.dropReference i).line = s.line := by
  unfold State.dropReference
  cases hs : s.slot i with
  | retiring c => exact absurd hs (h c)
  | ready _ | empty | loading _ _ | learning => rfl

/-! ### A job reported and removed (R106) -/

section Finish

variable {s : State} {id : Nat} {j : Job}

theorem State.finishJob_eq (h : s.job? id = some j) :
    s.finishJob id = ((s.produce (.jobEnd j (s.label j.slot))).dropReference j.slot).removeJob id := by
  simp only [State.finishJob, h]

theorem State.finishJob_jobs (h : s.job? id = some j) :
    (s.finishJob id).jobs = s.jobs.filter fun m => decide (m.id ≠ id) := by
  rw [State.finishJob_eq h, State.removeJob, State.setJobs_jobs]
  simp

theorem State.finishJob_table (h : s.job? id = some j) :
    (s.finishJob id).table = s.table.put j.slot (s.slot j.slot).withoutReference := by
  rw [State.finishJob_eq h]
  exact (s.produce (.jobEnd j (s.label j.slot))).dropReference_table j.slot

/-- The slots after a job has been removed: its own has one reference fewer (R9, R11). -/
theorem State.finishJob_slot (h : s.job? id = some j) (i : SlotNo) :
    (s.finishJob id).slot i = if i = j.slot then (s.slot i).withoutReference else s.slot i := by
  have hput := CodeTable.slot_put s.table j.slot i (s.slot j.slot).withoutReference
  rw [← State.finishJob_table h] at hput
  refine hput.trans ?_
  split
  · rw [‹i = j.slot›]
  · rfl

/-- Blocks are neither lost nor gained when a job is removed (R8, R11). -/
theorem State.finishJob_freeBlocks (h : s.job? id = some j) :
    (s.finishJob id).table.freeBlocks + ((s.finishJob id).slot j.slot).blocks =
      s.table.freeBlocks + (s.slot j.slot).blocks := by
  have hle := (s.slot j.slot).withoutReference_blocks
  have hfree : (s.finishJob id).table.freeBlocks =
      s.table.freeBlocks + (s.slot j.slot).blocks - (s.slot j.slot).withoutReference.blocks := by
    rw [State.finishJob_table h]
    rfl
  rw [State.finishJob_slot h, if_pos rfl, hfree]
  omega

theorem State.finishJob_line (h : s.job? id = some j) :
    (s.finishJob id).line = ((s.produce (.jobEnd j (s.label j.slot))).dropReference j.slot).line := by
  rw [State.finishJob_eq h]
  rfl

/-- A job that is removed has been reported with the record it had then, whatever had been taken from it before, so long as
the table and the host line were those of `s` (R106 to R108). -/
theorem State.finishJob_endReported {t : State} (h : t.job? id = some j) (htable : t.table = s.table)
    (hline : t.line = s.line) : s.endReported j (t.finishJob id) := by
  intro k l hk hl
  have hslot : ∀ i, t.slot i = s.slot i := fun i => congrArg (CodeTable.slot · i) htable
  have hlabel : t.label j.slot = k.header.label := by
    simp only [State.label, State.code?, hslot]
    rw [show (s.slot j.slot).code? = some k from hk]
  have hjoined : (t.produce (.jobEnd j (t.label j.slot))).line = l := by
    rw [hl, hlabel, ← hline]
    exact HostLine.produce_eq_ite _ _
  have hread : (t.produce (.jobEnd j (t.label j.slot))).slot j.slot = s.slot j.slot := hslot j.slot
  refine (State.finishJob_line h).trans ?_
  cases hs : s.slot j.slot with
  | retiring c =>
    exact (State.dropReference_line_of_retiring (hread.trans hs)).trans
      (congrArg (fun l => if c.refs ≤ 1 then HostLine.produce l _ else l) hjoined)
  | ready _ | empty | loading _ _ | learning =>
    exact (State.dropReference_line_of_not_retiring (by simp [hread, hs])).trans hjoined

end Finish

/-! ### A job stopped (R104, steps 1 to 3) -/

/-- A state in which the zones and the generator of a job are given up and its record is changed (R104, steps 1 to 3). -/
def State.halt (s : State) (j : Job) (f : Job → Job) : State :=
  { s with
    jobs := s.jobs.map fun m => if m.id = j.id then f m else m
    zones := mapVector s.zones fun x => if x.state = .active j.id then { x with state := s.guardState } else x
    generators := s.generatorsWithout j }

theorem State.releaseGenerator_eq (s : State) (j : Job) :
    s.releaseGenerator j.generator = { s with generators := s.generatorsWithout j } := by
  unfold State.releaseGenerator State.generatorsWithout
  cases j.generator with
  | none => rfl
  | some g =>
    simp only [State.setGenerators]
    cases s.generators[g] <;> rfl

section Records

variable {f : Job → Job}

/-- Two changes of one job's record, one behind another, are one. -/
theorem map_ite_id_map_ite_id (hid : ∀ k, (f k).id = k.id) (g : Job → Job) (js : List Job) (id : Nat) :
    (js.map fun m => if m.id = id then f m else m).map (fun m => if m.id = id then g m else m) =
      js.map fun m => if m.id = id then g (f m) else m := by
  refine List.map_map.trans (List.map_congr_left fun m _ => ?_)
  simp only [Function.comp_apply]
  by_cases hm : m.id = id
  · rw [if_pos hm, if_pos ((hid m).trans hm), if_pos hm]
  · rw [if_neg hm, if_neg hm, if_neg hm]

/-- The queue without a job is the same whatever is done to the job's record first. -/
theorem filter_map_ite_id (hid : ∀ k, (f k).id = k.id) (js : List Job) (id : Nat) :
    (js.map fun m => if m.id = id then f m else m).filter (fun m => decide (m.id ≠ id)) =
      js.filter fun m => decide (m.id ≠ id) := by
  induction js with
  | nil => rfl
  | cons m js ih =>
    rw [List.map_cons, List.filter_cons, List.filter_cons, ih]
    by_cases hm : m.id = id <;> simp [hm, hid]

/-- In a queue of distinct ids, a change of a live job's record puts one record in place of another. -/
theorem State.map_ite_id_eq {s : State} {j : Job} (hj : s.job? j.id = some j) (hids : (s.jobs.map Job.id).Nodup) :
    (s.jobs.map fun m => if m.id = j.id then f m else m) = s.jobs.map fun m => if m.id = j.id then f j else m := by
  refine List.map_congr_left fun m hm => ?_
  split
  · rw [List.inj_on_of_nodup_map hids hm (List.mem_of_find?_eq_some hj) ‹m.id = j.id›]
  · rfl

end Records

section Halt

variable {s : State} {j : Job} {f : Job → Job}

theorem State.halt_zone (z : ZoneNo) : (s.halt j f).zone z = { s.zone z with state := s.stateWithout j z } := by
  refine (mapVector_getElem _ _ z.val z.isLt).trans ?_
  change (if (s.zone z).state = _ then _ else s.zone z) = _
  unfold State.stateWithout
  split <;> rfl

theorem State.halt_job? (hj : s.job? j.id = some j) (hid : ∀ k, (f k).id = k.id) :
    (s.halt j f).job? j.id = some (f j) :=
  State.job?_updateJob (s := s) hj hid

/-- A further change of the halted job's record is a change of the record. -/
theorem State.halt_updateJob (hid : ∀ k, (f k).id = k.id) (g : Job → Job) :
    (s.halt j f).updateJob j.id g = s.halt j fun k => g (f k) :=
  congrArg (fun js => (s.halt j f).setJobs js) (map_ite_id_map_ite_id hid g s.jobs j.id)

/-- A halted job that is reported and removed has gone (R104 to R106). -/
theorem State.halt_jobGone (hj : s.job? j.id = some j) (hid : ∀ k, (f k).id = k.id) (hslot : (f j).slot = j.slot) :
    s.jobGone j ((s.halt j f).finishJob j.id) := by
  have hlive := State.halt_job? hj hid
  have hkeeps := State.finishJob_keeps (s.halt j f) j.id
  obtain ⟨hpending, hdraws, hclock, hnextId, hzones, hgenerators, hgroups, hinputs, hcaptures, hparams⟩ := hkeeps
  have hzone : ∀ z, ((s.halt j f).finishJob j.id).zone z = { s.zone z with state := s.stateWithout j z } := fun z =>
    (congrArg (·[z]) hzones).trans (State.halt_zone z)
  have htable := State.finishJob_table hlive
  refine ⟨?_, hgenerators, fun z => ?_, fun _ => hzone, fun i => ?_, ?_, ?_, ?_, hcaptures, fun _ => hinputs, hparams,
    hgroups, hnextId, hclock, hdraws, hpending⟩
  · exact (State.finishJob_jobs hlive).trans (filter_map_ite_id hid s.jobs j.id)
  · rw [hzone]
  · exact hslot ▸ State.finishJob_slot hlive i
  · exact hslot ▸ State.finishJob_freeBlocks hlive
  · rw [htable]
    rfl
  · rw [htable]
    rfl

end Halt

/-! ### The end action -/

/-- Giving an input back writes the inputs and the host line only. -/
theorem State.givenBack_eq (s : State) (v : InputNo) :
    s.givenBack v = { s with inputs := (s.givenBack v).inputs, line := (s.givenBack v).line } := by
  obtain ⟨hpending, hdraws, hclock, htable, hjobs, hnextId, hzones, hgenerators, hgroups, hcaptures, hparams⟩ :=
    s.unbind_keeps v
  rw [s.unbind_eq_givenBack v] at *
  generalize s.givenBack v = u at *
  cases u
  simp_all

theorem State.halt_givenBack (s : State) (j : Job) (f : Job → Job) (v : InputNo) :
    (s.halt j f).givenBack v = (s.givenBack v).halt j f := by
  refine (State.givenBack_withPlay s _ _ _ v).trans ?_
  rw [s.givenBack_eq v]
  rfl

theorem State.updateJob_givenBack (s : State) (id : Nat) (f : Job → Job) (v : InputNo) :
    (s.updateJob id f).givenBack v = (s.givenBack v).updateJob id f := by
  refine (State.givenBack_withPlay s _ s.zones s.generators v).trans ?_
  rw [s.givenBack_eq v]
  rfl

theorem State.givenBack_job? (s : State) (v : InputNo) (id : Nat) : (s.givenBack v).job? id = s.job? id := by
  rw [s.givenBack_eq v]
  rfl

/-- A job's record after the end action has put it in SETTLING (R104, R105). -/
def Job.settles (j : Job) (reason : EndReason) (now : Word32) : Job :=
  { j.stopped reason now with state := .settling, paused := false }

/-- A job's record with its verify abandoned (R160). -/
def Job.unverified (j : Job) (r : VerifyRecord) : Job :=
  { j with verify := { result := .abandoned, seen := r.seen, matched := r.matched, mismatch := none } }

theorem EndReason.allowsVerdict_iff {reason : EndReason} :
    reason.allowsVerdict = true ↔ reason ≠ .cancelled ∧ reason ≠ .zoneDisabled := by
  cases reason <;> simp [EndReason.allowsVerdict]

theorem State.endRecord_of_notBound {s : State} {j : Job} (hb : s.notBound j) (reason : EndReason) :
    s.endRecord j reason = j.stopped reason s.now := by
  unfold State.endRecord
  cases hv : j.verifyInput with
  | none => simp [Job.stopped, hv]
  | some v =>
    cases hr : (s.input v).verify with
    | none => simp [hr, Job.stopped, hv]
    | some r => simp [hr, hb v r hv hr, Job.stopped, hv]

section EndAction

variable {s : State} {j : Job} {reason : EndReason}

/-- Steps 1 to 3 of the end action (R104). -/
theorem State.stop_eq_halt (s : State) (j : Job) (reason : EndReason) :
    ((s.leaveZones j.id).releaseGenerator j.generator).updateJob j.id (fun k => k.stopped reason s.now) =
      s.halt j fun k => k.stopped reason s.now := by
  rw [State.releaseGenerator_eq]
  rfl

/-- A job with no bound input is reported and removed (R104, R106). -/
theorem State.endJob_of_notBound (hj : s.job? j.id = some j) (hb : s.notBound j) :
    s.jobGone j (s.endJob j.id reason) ∧ s.endReported (s.endRecord j reason) (s.endJob j.id reason) := by
  have hend : s.endJob j.id reason = (s.halt j fun k => k.stopped reason s.now).finishJob j.id := by
    simp only [State.endJob, hj, State.bound?_of_notBound hb, State.stop_eq_halt]
  rw [hend, State.endRecord_of_notBound hb]
  exact ⟨State.halt_jobGone hj (fun _ => rfl) rfl,
    State.finishJob_endReported (State.halt_job? hj fun _ => rfl) rfl rfl⟩

section Bound

variable {v : InputNo} {r : VerifyRecord}

theorem State.endRecord_of_bound (hv : j.verifyInput = some v) (hr : (s.input v).verify = some r) (hid : r.job = j.id)
    (reason : EndReason) : s.endRecord j reason = (j.stopped reason s.now).unverified r := by
  simp [State.endRecord, hv, hr, hid, Job.stopped, Job.unverified]

/-- A job whose bound input has been given back and that has then gone, has gone. -/
theorem State.jobGone_of_givenBack {u : State} (hv : j.verifyInput = some v) (hr : (s.input v).verify = some r)
    (hid : r.job = j.id) (h : (s.givenBack v).jobGone j u) : s.jobGone j u := by
  rw [s.givenBack_eq v] at h
  obtain ⟨hjobs, hgen, hstate, hzone, hslot, hfree, hload, hlearn, hcaptures, -, hrest⟩ := h
  exact ⟨hjobs, hgen, hstate, hzone, hslot, hfree, hload, hlearn, hcaptures, fun hb => absurd hid (hb v r hv hr), hrest⟩

/-- A bound job that ends with no verdict allowed has its input given back, is reported ABANDONED and is removed (R160). -/
theorem State.endJob_of_abandoned (hj : s.job? j.id = some j) (hv : j.verifyInput = some v)
    (hr : (s.input v).verify = some r) (hid : r.job = j.id) (hreason : reason.allowsVerdict = false) :
    s.jobGone j (s.endJob j.id reason) ∧ (s.endJob j.id reason).inputs = (s.givenBack v).inputs ∧
      (s.givenBack v).endReported (s.endRecord j reason) (s.endJob j.id reason) := by
  have hunverified : (s.halt j fun k => k.stopped reason s.now).abandonVerify j.id v r =
      (s.givenBack v).halt j fun k => (k.stopped reason s.now).unverified r := by
    rw [← State.halt_givenBack, ← State.unbind_eq_givenBack]
    exact congrArg (State.unbind · v) (State.halt_updateJob (f := fun k => k.stopped reason s.now) (fun _ => rfl) _)
  have hend : s.endJob j.id reason =
      ((s.givenBack v).halt j fun k => (k.stopped reason s.now).unverified r).finishJob j.id := by
    simp only [State.endJob, hj, State.bound?_of_record hv hr hid, hreason, State.stop_eq_halt, hunverified]
    rfl
  have hlive : (s.givenBack v).job? j.id = some j := (s.givenBack_job? v j.id).trans hj
  rw [hend, State.endRecord_of_bound hv hr hid]
  refine ⟨State.jobGone_of_givenBack hv hr hid (State.halt_jobGone hlive (fun _ => rfl) rfl), ?_, ?_⟩
  · simp only [State.finishJob_keeps]
    rfl
  · exact State.finishJob_endReported (State.halt_job? hlive fun _ => rfl) rfl rfl

/-- A bound job that ends with a verdict allowed enters SETTLING, and the settling check is made (R105, R158). -/
theorem State.endJob_of_settling (hj : s.job? j.id = some j) (hv : j.verifyInput = some v)
    (hr : (s.input v).verify = some r) (hid : r.job = j.id) (hreason : reason.allowsVerdict = true)
    (hids : (s.jobs.map Job.id).Nodup) :
    ∃ u : State, s.jobSettles j reason u ∧ s.endJob j.id reason = u.checkSettled v := by
  have hsettles : ((s.halt j fun k => k.stopped reason s.now).updateJob j.id fun k =>
      { k with state := .settling, paused := false }) = s.halt j fun k => k.settles reason s.now :=
    State.halt_updateJob (f := fun k => k.stopped reason s.now) (fun _ => rfl) _
  refine ⟨s.halt j fun k => k.settles reason s.now, ⟨?_, rfl, ?_, rfl⟩, ?_⟩
  · exact State.map_ite_id_eq hj hids
  · exact State.halt_zone
  · simp only [State.endJob, hj, State.bound?_of_record hv hr hid, hreason, State.stop_eq_halt, hsettles, if_true]

end Bound

end EndAction

end Sys2Proof.Machine
end

section
/-! PROOFS. The frame boundary by its stages (R82 to R85), and the statement about it and the end action. -/

namespace Sys2Proof.Machine

/-! ### The frame counted (R82) -/

/-- A job's record with other counts of frames. -/
def Job.counted (j : Job) (sent reps : Nat) : Job :=
  { j with framesSent := sent, repeatsSent := reps }

/-- Both counts stop together at 65,535 (R82). -/
theorem Job.countFrame_eq {j : Job} {kind : FrameKind} {sent reps : Nat}
    (hsent : sent = if j.framesSent < 65535 then j.framesSent + 1 else j.framesSent)
    (hreps : reps = if j.framesSent < 65535 ∧ kind = .rep then j.repeatsSent + 1 else j.repeatsSent) :
    j.countFrame kind = j.counted sent reps := by
  subst hsent hreps
  unfold Job.countFrame Job.counted
  by_cases h : j.framesSent < 65535
  · cases kind <;> simp [h, Config.counterTop]
  · simp [h, Config.counterTop]

@[simp] theorem Job.countFrame_id (j : Job) (kind : FrameKind) : (j.countFrame kind).id = j.id := by
  unfold Job.countFrame
  split <;> rfl

/-- FRAME_BOUNDARY counts the frame and takes the stages once the trail gap is complete (R82, R83). -/
theorem exec_frameBoundary {s : State} {j : Job} {p : Play} {k : Code} (hj : s.job? j.id = some j) (hp : j.play = some p)
    (hk : s.code? j.slot = some k) (hphase : p.phase = .trail) :
    exec (.frameBoundary j.id) s =
      .next
        (if p.since + k.header.trailGap ≤ s.clock then
          (s.updateJob j.id fun m => m.countFrame p.kind).decideBoundary (j.countFrame p.kind) k.header
        else s) := by
  change execFrameBoundary j.id s = _
  simp only [execFrameBoundary, hj, hp, hk, hphase]

/-! ### The stages (R83 to R85) -/

/-- Whether another frame is due, by the code's mode (R84). -/
theorem Job.frameDue_iff (j : Job) (h : Header) :
    j.frameDue h = true ↔
      match h.mode with
      | .count => j.repeatsSent < (if h.repeatCells = 0 then 0 else j.repeatOverride.getD h.repeatFigure)
      | .hold => j.state = .draining → j.repeatsSent < h.repeatFigure := by
  unfold Job.frameDue Job.repeatsDue
  cases h.mode with
  | count => exact decide_eq_true_iff
  | hold => by_cases hd : j.state = .draining <;> simp [hd]

theorem Zone.isHeldOff_iff (x : Zone) : x.isHeldOff = true ↔ ∃ g, x.inForce = some (g, .holdOff) := by
  unfold Zone.isHeldOff
  cases hf : x.inForce with
  | none => simp
  | some q => obtain ⟨g, a⟩ := q; cases a <;> simp

/-- Whether a zone of a set is held off (R85). -/
theorem State.heldOff_iff (s : State) (zs : ZoneSet) :
    s.heldOff zs = true ↔ ∃ z g, ZoneSet.has zs z = true ∧ (s.zone z).inForce = some (g, .holdOff) := by
  simp only [State.heldOff, List.any_eq_true, mem_zonesOf, Zone.isHeldOff_iff, exists_and_left]

section Stages

variable {s : State} {j : Job} {h : Header}

/-- Stages 1 and 2: a job marked for preemption ends, and one with no frame due (R83). -/
theorem State.decideBoundary_ends (hend : j.preemptPending = true ∨ j.frameDue h = false) :
    s.decideBoundary j h = (s.endJob j.id (if j.preemptPending then .preempted else j.finalReason h)).runArbiter := by
  unfold State.decideBoundary
  cases hp : j.preemptPending with
  | true => rfl
  | false => simp [hend.resolve_left (by simp [hp])]

/-- Stage 3: a job with a zone held off is paused (R85). -/
theorem State.decideBoundary_pauses (hp : j.preemptPending = false) (hdue : j.frameDue h = true)
    (hheld : s.heldOff j.zones = true) : s.decideBoundary j h = s.pauseJob j.id := by
  simp [State.decideBoundary, hp, hdue, hheld]

/-- Stage 4: any other job begins its next repeat frame (R83). -/
theorem State.decideBoundary_begins (hp : j.preemptPending = false) (hdue : j.frameDue h = true)
    (hheld : s.heldOff j.zones = false) : s.decideBoundary j h = s.beginFrame j .rep := by
  simp [State.decideBoundary, hp, hdue, hheld]

end Stages

/-! ### Ends after the frame has been counted -/

theorem State.updateJob_updateJob {s : State} {id : Nat} {f : Job → Job} (hid : ∀ k, (f k).id = k.id) (g : Job → Job) :
    (s.updateJob id f).updateJob id g = s.updateJob id fun k => g (f k) :=
  congrArg s.setJobs (map_ite_id_map_ite_id hid g s.jobs id)

theorem State.updateJob_ids {s : State} {id : Nat} {f : Job → Job} (hid : ∀ k, (f k).id = k.id) :
    (s.updateJob id f).jobs.map Job.id = s.jobs.map Job.id := by
  refine List.map_map.trans (List.map_congr_left fun m _ => ?_)
  simp only [Function.comp_apply]
  split
  · exact hid m
  · rfl

section Counted

variable {s u : State} {j : Job} {f : Job → Job} {sent reps : Nat}

/-- Counting a frame first makes no difference to what has gone with the job. -/
theorem State.jobGone_of_counted (hid : ∀ k, (f k).id = k.id)
    (h : (s.updateJob j.id f).jobGone (j.counted sent reps) u) : s.jobGone j u := by
  obtain ⟨hjobs, hrest⟩ := h
  exact ⟨hjobs.trans (filter_map_ite_id hid s.jobs j.id), hrest⟩

/-- Counting a frame first shows in the settled job's record only. -/
theorem State.jobSettles_of_counted (hid : ∀ k, (f k).id = k.id) {reason : EndReason}
    (h : (s.updateJob j.id f).jobSettles (j.counted sent reps) reason u) :
    s.jobSettles (j.counted sent reps) reason u := by
  obtain ⟨hjobs, hgen, hzone, hrest⟩ := h
  exact ⟨hjobs.trans (map_ite_id_map_ite_id hid _ s.jobs j.id), hgen, hzone, congrArg (State.setJobs · s.jobs) hrest⟩

end Counted

/-- A change of one live job's record is a change of nothing else, and of no other job's record. -/
theorem State.updateJob_only {s : State} {j m : Job} {f : Job → Job} (hj : s.job? j.id = some j)
    (hid : ∀ k, (f k).id = k.id) (hm : f j = m) :
    { s.updateJob j.id f with jobs := s.jobs } = s ∧ (s.updateJob j.id f).job? j.id = some m ∧
      ((s.jobs.map Job.id).Nodup → (s.updateJob j.id f).jobs = s.jobs.map fun n => if n.id = j.id then m else n) := by
  subst hm
  exact ⟨rfl, State.job?_updateJob hj hid, State.map_ite_id_eq hj⟩

end Sys2Proof.Machine

/-! ### The statement about frame boundaries -/

section

open Sys2Proof Sys2Proof.Machine

/-- Settles O34: the end action by its bound input, and the frame boundary by its stages after the frame is counted. -/
theorem frameBoundaryDecides : Obligations.FrameBoundaryDecides := by
  refine ⟨fun s j reason hj => ⟨State.endJob_of_notBound hj, fun v r hv hr hid => ⟨fun hreason => ?_, fun hc hz hids => ?_⟩⟩,
    ?_⟩
  · exact State.endJob_of_abandoned hj hv hr hid (by rcases hreason with rfl | rfl <;> rfl)
  · exact State.endJob_of_settling hj hv hr hid (EndReason.allowsVerdict_iff.mpr ⟨hc, hz⟩) hids
  · intro s j p k sent reps hj hp hk hphase hsent hreps due reason goesOn hgoesOn hdue hreason
    have hexec := exec_frameBoundary hj hp hk hphase
    have hcount := Job.countFrame_eq hsent hreps
    have hids : ∀ m : Job, (m.countFrame p.kind).id = m.id := fun m => m.countFrame_id p.kind
    have hj' := State.job?_updateJob hj hids
    rw [hcount] at hexec hj'
    have hdue' := (Job.frameDue_iff (j.counted sent reps) k.header).trans hdue.symm
    refine ⟨fun hearly => by rw [hexec, if_neg (Nat.not_le.mpr hearly)], fun hdone => ?_⟩
    rw [if_pos hdone] at hexec
    refine ⟨fun hend => ?_, fun hp' hd hheld => ?_, fun hp' hd hfree => ?_⟩
    · have hreason' : reason =
          if (j.counted sent reps).preemptPending then .preempted else (j.counted sent reps).finalReason k.header := hreason
      have hstage := hend.imp_right fun hnot => Bool.eq_false_iff.mpr (hnot ∘ hdue'.mp)
      rw [State.decideBoundary_ends hstage, ← hreason'] at hexec
      refine ⟨fun hb => ?_, fun v r hnodup hv hr hid hc hz => ?_⟩
      · obtain ⟨hgone, hreported⟩ := State.endJob_of_notBound (j := j.counted sent reps) (reason := reason) hj' hb
        exact ⟨_, hexec, State.jobGone_of_counted hids hgone, hreported⟩
      · obtain ⟨u, hsettles, hu⟩ := State.endJob_of_settling (j := j.counted sent reps) hj' hv hr hid
          (EndReason.allowsVerdict_iff.mpr ⟨hc, hz⟩) ((State.updateJob_ids hids).symm ▸ hnodup)
        exact ⟨u, hexec.trans (congrArg (fun t : State => Host.Outcome.next t.runArbiter) hu),
          State.jobSettles_of_counted hids hsettles⟩
    · have hstage := State.decideBoundary_pauses (s := s.updateJob j.id fun m => m.countFrame p.kind)
        (j := j.counted sent reps) hp' (hdue'.mpr hd) ((s.heldOff_iff j.zones).mpr hheld)
      rw [hgoesOn]
      refine ⟨_, hexec.trans (congrArg _ (hstage.trans (State.updateJob_updateJob hids _))),
        State.updateJob_only hj (fun m => hids m) ?_⟩
      simp only [hcount, Job.counted, hp, Option.map_some]
      rfl
    · have hnone : s.heldOff j.zones = false := Bool.eq_false_iff.mpr fun h => by
        obtain ⟨z, g, hz, hg⟩ := (State.heldOff_iff _ _).mp h
        exact hfree z g hz hg
      have hstage := State.decideBoundary_begins (s := s.updateJob j.id fun m => m.countFrame p.kind)
        (j := j.counted sent reps) hp' (hdue'.mpr hd) hnone
      rw [hgoesOn]
      refine ⟨_, hexec.trans (congrArg _ (hstage.trans (State.updateJob_updateJob hids _))),
        State.updateJob_only hj (fun m => hids m) ?_⟩
      rw [hcount]
      rfl

end
end

section
/-! PROOFS. JOB_CANCEL by the state of the job (R87, R100, R104 to R107, R160). -/

namespace Sys2Proof.Machine

/-! ### A mark cut (R87) -/

theorem State.MarksEnd.cutFrame (s : State) (j : Job) : s.MarksEnd (s.cutFrame j) := by
  unfold State.cutFrame
  split
  · exact .markEnds s _ _
  · exact .refl s

/-- With no mark in progress a cut changes nothing. -/
theorem State.cutFrame_of_no_mark {s : State} {j : Job} (h : ∀ p, j.play = some p → p.sampled = []) : s.cutFrame j = s := by
  unfold State.cutFrame
  split
  · rw [h _ ‹_›]
    rfl
  · rfl

/-- A job that has gone after the mark in progress was cut has gone; only the loads of its zones differ (R87). -/
theorem State.jobGone_of_cut {s u : State} {j : Job} (h : (s.cutFrame j).jobGone j u) : s.jobGone j u := by
  by_cases hmark : ∀ p, j.play = some p → p.sampled = []
  · rwa [State.cutFrame_of_no_mark hmark] at h
  · obtain ⟨hpending, hdraws, hclock, htable, hjobs, hnextId, hgenerators, hgroups, hinputs, hcaptures, hparams⟩ :=
      s.cutFrame_keeps j
    have hslot : ∀ i, (s.cutFrame j).slot i = s.slot i := fun i => congrArg (CodeTable.slot · i) htable
    have hnow : (s.cutFrame j).now = s.now := congrArg (fun n => BitVec.ofNat 32 (n / 1000)) hclock
    have hbound : (s.cutFrame j).notBound j ↔ s.notBound j := by simp only [State.notBound, State.input, hinputs]
    have hstate : ∀ z, (s.cutFrame j).stateWithout j z = s.stateWithout j z := fun z => by
      simp only [State.stateWithout, (State.MarksEnd.cutFrame s j).zoneState z, hparams, hnow]
    have hgens : (s.cutFrame j).generatorsWithout j = s.generatorsWithout j := by
      simp only [State.generatorsWithout, hgenerators]
    obtain ⟨gjobs, ggens, gstate, -, gslot, gfree, gload, glearn, gcaptures, ginputs, gparams, ggroups, gnextId, gclock,
      gdraws, gpending⟩ := h
    exact ⟨hjobs ▸ gjobs, ggens.trans hgens, fun z => (gstate z).trans (hstate z), fun hno => absurd hno hmark,
      fun i => hslot i ▸ gslot i, hslot j.slot ▸ htable ▸ gfree, gload.trans (congrArg _ htable),
      glearn.trans (congrArg _ htable), gcaptures.trans hcaptures, fun hb => (ginputs (hbound.mpr hb)).trans hinputs,
      gparams.trans hparams, ggroups.trans hgroups, gnextId.trans hnextId, gclock.trans hclock, gdraws.trans hdraws,
      gpending.trans hpending⟩

/-! ### Cancelling by state (R100) -/

section Cancel

variable {s : State} {j : Job}

theorem State.cancelJob_of_waiting (h : j.state = .waiting) : s.cancelJob j = s.endJob j.id .cancelled := by
  simp only [State.cancelJob, h]

theorem State.cancelJob_of_playing (h : j.state = .running ∨ j.state = .draining) :
    s.cancelJob j = (s.cutFrame j).endJob j.id .cancelled := by
  rcases h with h | h <;> simp only [State.cancelJob, h]

theorem State.cancelJob_of_settling (h : j.state = .settling) : s.cancelJob j = s.abandonSettling j := by
  simp only [State.cancelJob, h]

/-- An input is bound to a job, or none is (R105). -/
theorem State.notBound_or_bound (s : State) (j : Job) :
    s.notBound j ∨ ∃ v r, j.verifyInput = some v ∧ (s.input v).verify = some r ∧ r.job = j.id := by
  by_cases h : s.notBound j
  · exact .inl h
  · simp only [State.notBound] at h
    push Not at h
    exact .inr h

/-- A job ended with CANCELLED has gone, bound or not (R104 to R106, R160). -/
theorem State.endJob_cancelled_jobGone (hj : s.job? j.id = some j) : s.jobGone j (s.endJob j.id .cancelled) := by
  obtain hb | ⟨v, r, hv, hr, hid⟩ := s.notBound_or_bound j
  · exact (State.endJob_of_notBound hj hb).1
  · exact (State.endJob_of_abandoned hj hv hr hid rfl).1

/-- What an input given back reads, wherever the inputs have come to stand so (R125, R160). -/
theorem State.input_of_givenBack {w u : State} {v : InputNo} (hw : w.inputs = s.inputs)
    (hu : u.inputs = (w.givenBack v).inputs) :
    (u.input v).verify = none ∧ (u.input v).mode = (s.input v).savedMode.getD (s.input v).mode := by
  have hin : w.input v = s.input v := congrArg (·[v]) hw
  have hout : u.input v = (w.unbind v).input v := by
    rw [State.unbind_eq_givenBack]
    exact congrArg (·[v]) hu
  exact ⟨hout ▸ w.unbind_verify v, hout ▸ hin ▸ w.unbind_mode v⟩

/-! ### A SETTLING job (R100, R160) -/

/-- What the removal of a job's record takes, and what it leaves (R106). -/
theorem State.finishJob_removes {id : Nat} (hj : s.job? id = some j) :
    (s.finishJob id).jobs = s.jobs.filter (fun m => decide (m.id ≠ id)) ∧ (s.finishJob id).zones = s.zones ∧
      (s.finishJob id).generators = s.generators ∧ (s.finishJob id).captures = s.captures ∧
      ∀ i, (s.finishJob id).slot i = if i = j.slot then (s.slot i).withoutReference else s.slot i :=
  ⟨State.finishJob_jobs hj, by simp, by simp, by simp, State.finishJob_slot hj⟩

theorem State.abandonSettling_of_notBound (hb : s.notBound j) : s.abandonSettling j = s.finishJob j.id := by
  simp only [State.abandonSettling, State.bound?_of_notBound hb]

section Bound

variable {v : InputNo} {r : VerifyRecord}

theorem State.abandonSettling_of_bound (hv : j.verifyInput = some v) (hr : (s.input v).verify = some r)
    (hid : r.job = j.id) :
    s.abandonSettling j = ((s.givenBack v).updateJob j.id fun k => k.unverified r).finishJob j.id := by
  rw [← State.updateJob_givenBack, ← State.unbind_eq_givenBack]
  simp only [State.abandonSettling, State.bound?_of_record hv hr hid]
  rfl

/-- The record with which a SETTLING job is abandoned. -/
theorem State.job?_unverified (hj : s.job? j.id = some j) :
    ((s.givenBack v).updateJob j.id fun k => k.unverified r).job? j.id = some (j.unverified r) :=
  State.job?_updateJob ((s.givenBack_job? v j.id).trans hj) fun _ => rfl

/-- The verify of a SETTLING job is reported ABANDONED, and its input is given back (R160). -/
theorem State.abandonSettling_reports (hj : s.job? j.id = some j) (hv : j.verifyInput = some v)
    (hr : (s.input v).verify = some r) (hid : r.job = j.id) :
    (s.abandonSettling j).inputs = (s.givenBack v).inputs ∧
      (s.givenBack v).endReported (j.unverified r) (s.abandonSettling j) := by
  rw [State.abandonSettling_of_bound hv hr hid]
  exact ⟨by simp, State.finishJob_endReported (State.job?_unverified hj) rfl rfl⟩

end Bound

/-- A SETTLING job that is abandoned leaves the queue and gives up its reference (R100, R106). -/
theorem State.abandonSettling_removes (hj : s.job? j.id = some j) :
    (s.abandonSettling j).jobs = s.jobs.filter (fun m => decide (m.id ≠ j.id)) ∧ (s.abandonSettling j).zones = s.zones ∧
      (s.abandonSettling j).generators = s.generators ∧ (s.abandonSettling j).captures = s.captures ∧
      ∀ i, (s.abandonSettling j).slot i = if i = j.slot then (s.slot i).withoutReference else s.slot i := by
  obtain hb | ⟨v, r, hv, hr, hid⟩ := s.notBound_or_bound j
  · rw [State.abandonSettling_of_notBound hb]
    exact State.finishJob_removes hj
  · rw [State.abandonSettling_of_bound hv hr hid]
    obtain ⟨hjobs, hrest⟩ := State.finishJob_removes (State.job?_unverified (v := v) (r := r) hj)
    rw [s.givenBack_eq v] at hjobs hrest ⊢
    exact ⟨hjobs.trans (filter_map_ite_id (f := fun k => k.unverified r) (fun _ => rfl) s.jobs j.id), hrest⟩

/-! ### A WAITING job (R100) -/

/-- A job with no bound input on a READY slot is reported with its counts behind every other report (R106, R107). -/
theorem State.endJob_reports_ready {k : Code} {reason : EndReason} (hj : s.job? j.id = some j) (hb : s.notBound j)
    (hsel : s.line.categories.getLsbD 1 = true) (hroom : s.line.reports.length < 32) (hk : s.slot j.slot = .ready k) :
    (s.endJob j.id reason).line = s.line.join (.jobEnd (j.stopped reason s.now) k.header.label) := by
  have hreported := (State.endJob_of_notBound (reason := reason) hj hb).2
  rw [State.endRecord_of_notBound hb] at hreported
  have hline := hreported k _ (congrArg Slot.code? hk) rfl
  rw [if_neg (by simp [hsel]), if_pos hroom] at hline
  refine hline.trans ?_
  rw [show s.slot (j.stopped reason s.now).slot = .ready k from hk]

/-! ### What a cancelled job leaves (R100, R160) -/

theorem State.cutFrame_job? (s : State) (j : Job) (id : Nat) : (s.cutFrame j).job? id = s.job? id := by
  simp only [State.job?, State.cutFrame_keeps]

/-- A job cancelled before it settles has gone (R87, R104 to R106). -/
theorem State.cancelJob_jobGone (hj : s.job? j.id = some j) (hstate : j.state ≠ .settling) : s.jobGone j (s.cancelJob j) := by
  have hcut : s.jobGone j ((s.cutFrame j).endJob j.id .cancelled) :=
    State.jobGone_of_cut (State.endJob_cancelled_jobGone ((s.cutFrame_job? j j.id).trans hj))
  cases hs : j.state with
  | waiting => exact State.cancelJob_of_waiting hs ▸ State.endJob_cancelled_jobGone hj
  | running => exact State.cancelJob_of_playing (.inl hs) ▸ hcut
  | draining => exact State.cancelJob_of_playing (.inr hs) ▸ hcut
  | settling => exact absurd hs hstate

/-- The bound input of a cancelled job is given back in its saved mode (R160). -/
theorem State.cancelJob_input {v : InputNo} {r : VerifyRecord} (hj : s.job? j.id = some j) (hv : j.verifyInput = some v)
    (hr : (s.input v).verify = some r) (hid : r.job = j.id) :
    ((s.cancelJob j).input v).verify = none ∧
      ((s.cancelJob j).input v).mode = (s.input v).savedMode.getD (s.input v).mode := by
  have hend : ∀ w : State, w.jobs = s.jobs → w.inputs = s.inputs →
      (w.endJob j.id .cancelled).inputs = (w.givenBack v).inputs := fun w hjobs hin => by
    have hlive : w.job? j.id = some j := by simpa only [State.job?, hjobs] using hj
    have hrecord : (w.input v).verify = some r := by simpa only [State.input, hin] using hr
    obtain ⟨-, hback, -⟩ := State.endJob_of_abandoned hlive hv hrecord hid (reason := .cancelled) rfl
    exact hback
  obtain ⟨-, -, -, -, hjobs, -, -, -, hin, -⟩ := s.cutFrame_keeps j
  have hcut := State.input_of_givenBack hin (hend _ hjobs hin)
  cases hs : j.state with
  | waiting => exact State.cancelJob_of_waiting hs ▸ State.input_of_givenBack rfl (hend s rfl rfl)
  | running => exact State.cancelJob_of_playing (.inl hs) ▸ hcut
  | draining => exact State.cancelJob_of_playing (.inr hs) ▸ hcut
  | settling =>
    exact State.cancelJob_of_settling hs ▸ State.input_of_givenBack rfl (State.abandonSettling_reports hj hv hr hid).1

/-! ### JOB_CANCEL -/

section Command

variable {c : CommandFrame} {b : Byte}

theorem exec_jobCancel_unknown (h : s.takes c .jobCancel) (hp : c.payload = [b]) (hb : s.job? b.toNat = none) :
    exec .jobCancel s = .next (s.answered c [0x0D#8, b]) := by
  refine congrArg Host.Outcome.next (State.takeCommand_answers h hp rfl ?_)
  have hbyte : byteAt [b] 0 = b.toNat := rfl
  simp only [actJobCancel, hbyte, State.popCommand_job?, hb, u8_toNat]
  rfl

/-- JOB_CANCEL of a live job: it is cancelled, the reply names the state it was in, and the arbiter runs (R100). -/
theorem exec_jobCancel_live (h : s.takes c .jobCancel) (hp : c.payload = [b]) (hj : s.job? b.toNat = some j) :
    exec .jobCancel s = .next ((s.popCommand.cancelJob j).replied c ([0x00#8, b] ++ u8 j.state.code)).runArbiter := by
  refine congrArg Host.Outcome.next ((State.takeCommand_executes h hp rfl).trans ?_)
  have hbyte : byteAt [b] 0 = b.toNat := rfl
  simp only [actJobCancel, hbyte, State.popCommand_job?, hj, State.job?_id hj, u8_toNat, State.finish_answerThenArbitrate]
  rfl

end Command

end Cancel

end Sys2Proof.Machine

/-! ### The statement about cancelling -/

section

open Sys2Proof Sys2Proof.Machine

/-- Settles O27: the cancelled job by its state, and its verify input by whether it is bound. -/
theorem jobCancelAnswers : Obligations.JobCancelAnswers := by
  intro s c b h hp
  refine ⟨fun hnone => exec_jobCancel_unknown h hp (List.find?_eq_none.mpr fun j hj => by simpa using hnone j hj),
    fun j hb => ?_⟩
  have hj : s.popCommand.job? j.id = some j := State.job?_id hb ▸ hb
  refine ⟨s.popCommand.cancelJob j, exec_jobCancel_live h hp hb, State.cancelJob_jobGone hj, fun hsettling => ?_,
    State.cancelJob_of_waiting, fun hplays => ⟨fun hidle => ?_, fun p hplay => ?_⟩, fun v r hv hr hid => ?_,
    fun hwaits hverify hsel hroom k hk => ?_⟩
  · rw [State.cancelJob_of_settling hsettling]
    exact State.abandonSettling_removes hj
  · rw [State.cancelJob_of_playing hplays, State.cutFrame_of_no_mark fun p hp => nomatch hidle.symm.trans hp]
  · rw [State.cancelJob_of_playing hplays, State.cutFrame, hplay]
    rfl
  · obtain ⟨hverify, hmode⟩ := State.cancelJob_input hj hv hr hid
    refine ⟨hverify, hmode, fun hsettling => ?_⟩
    rw [State.cancelJob_of_settling hsettling]
    exact State.abandonSettling_reports hj hv hr hid
  · have hline := State.endJob_reports_ready (s := s.popCommand) (reason := .cancelled) hj
      (fun v _ hv => nomatch hverify.symm.trans hv) hsel hroom hk
    rw [State.cancelJob_of_waiting hwaits]
    exact congrArg HostLine.reports hline

end
end

section
/-! PROOFS. JOB_KEEP and JOB_RELEASE by the rows of their tables, and the timers of a hold job (R92, R93, R95, R97). -/

namespace Sys2Proof.Machine

section Hold

variable {s : State} {j : Job}

/-! ### The record of a live job -/

/-- In a queue of distinct ids a job is found by its id. -/
theorem State.job?_of_mem (hids : (s.jobs.map Job.id).Nodup) (hj : j ∈ s.jobs) : s.job? j.id = some j := by
  have hfound : (s.job? j.id).isSome = true := List.find?_isSome.mpr ⟨j, hj, beq_self_eq_true j.id⟩
  obtain ⟨m, hm⟩ := Option.isSome_iff_exists.mp hfound
  rw [hm, List.inj_on_of_nodup_map hids (List.mem_of_find?_eq_some hm) hj (State.job?_id hm)]

/-- A live job's record replaced by the one that a change makes of it, in a queue of distinct ids. -/
theorem State.updateJob_eq_of_record {f : Job → Job} {m : Job} (hids : (s.jobs.map Job.id).Nodup)
    (hj : s.job? j.id = some j) (hm : f j = m) :
    s.updateJob j.id f = { s with jobs := s.jobs.map fun n => if n.id = j.id then m else n } :=
  hm ▸ congrArg s.setJobs (State.map_ite_id_eq hj hids)

/-! ### A job by its state (R92, R93, R95, R97) -/

theorem Job.isTooLate_iff :
    j.isTooLate = true ↔ j.state = .draining ∨ j.state = .settling ∨ (j.state = .waiting ∧ j.released = true) := by
  cases hs : j.state <;> simp [Job.isTooLate, hs]

theorem Job.not_isTooLate_iff :
    j.isTooLate = false ↔ (j.state = .waiting ∧ j.released = false) ∨ j.state = .running := by
  cases hs : j.state <;> simp [Job.isTooLate, hs]

theorem Job.release_of_waiting (h : j.state = .waiting) : j.release = { j with released := true, keepTimer := none } := by
  simp only [Job.release, h]

theorem Job.release_of_running (h : j.state = .running) :
    j.release = { j with state := .draining, endReason := some .released, keepTimer := none, holdTimer := none } := by
  simp only [Job.release, h]

theorem State.lapseKeep_of_waiting (h : j.state = .waiting) : s.lapseKeep j = (s.endJob j.id .keepLapsed).runArbiter := by
  simp only [State.lapseKeep, h]

theorem State.lapseKeep_of_running (h : j.state = .running) :
    s.lapseKeep j = s.updateJob j.id fun k =>
      { k with state := .draining, endReason := some .keepLapsed, keepTimer := none, holdTimer := none } := by
  simp only [State.lapseKeep, h]

/-- A job whose key press is over has no keep timer left to lapse (R92). -/
theorem State.lapseKeep_of_over (h : j.state = .draining ∨ j.state = .settling) : s.lapseKeep j = s := by
  rcases h with h | h <;> simp only [State.lapseKeep, h]

theorem State.reachHoldLimit_of_running (h : j.state = .running) :
    s.reachHoldLimit j = s.updateJob j.id fun k =>
      { k with state := .draining, endReason := some .holdLimit, keepTimer := none, holdTimer := none } := by
  simp only [State.reachHoldLimit, h]

theorem State.reachHoldLimit_of_not_running (h : j.state ≠ .running) : s.reachHoldLimit j = s := by
  unfold State.reachHoldLimit
  cases hs : j.state with
  | running => exact absurd hs h
  | waiting | draining | settling => rfl

/-! ### The timers of a job (R92, R93) -/

theorem exec_keepTimerExpiry (hj : s.job? j.id = some j) :
    exec (.keepTimerExpiry j.id) s = .next (if s.due j.keepTimer then s.lapseKeep j else s) := by
  change execKeepTimerExpiry j.id s = _
  simp only [execKeepTimerExpiry, hj]

theorem exec_holdLimitExpiry (hj : s.job? j.id = some j) :
    exec (.holdLimitExpiry j.id) s = .next (if s.due j.holdTimer then s.reachHoldLimit j else s) := by
  change execHoldLimitExpiry j.id s = _
  simp only [execHoldLimitExpiry, hj]

/-! ### The rows that JOB_KEEP and JOB_RELEASE share (R95, R97) -/

/-- What a command about the key press of a job answers: the refusals of the first three rows, or else its own effect. -/
def State.onKeyPress (s : State) (id : Nat) (effect : Job → Answer) : Answer :=
  match s.job? id with
  | none => s.refuse .unknownJob (u8 id)
  | some j =>
    if j.hold = false then s.refuse .mode (u8 j.id)
    else if j.isTooLate then s.refuse .tooLate j.tooLateFields
    else effect j

theorem actJobKeep_eq (p : List Byte) (s : State) :
    actJobKeep p s = s.onKeyPress (byteAt p 0) fun j => (s.restartKeep j.id).answer (reply .ok (u8 j.id)) := by
  unfold actJobKeep State.onKeyPress
  cases s.job? (byteAt p 0) with
  | none => rfl
  | some j => simp only [Bool.not_eq_true']

theorem actJobRelease_eq (p : List Byte) (s : State) :
    actJobRelease p s = s.onKeyPress (byteAt p 0) fun j =>
      (s.updateJob j.id Job.release).answer (reply .ok (u8 j.id ++ u8 j.release.state.code)) := by
  unfold actJobRelease State.onKeyPress
  cases s.job? (byteAt p 0) with
  | none => rfl
  | some j => simp only [Bool.not_eq_true']

theorem State.onKeyPress_unknown {id : Nat} {effect : Job → Answer} (hj : s.job? id = none) :
    s.onKeyPress id effect = s.refuse .unknownJob (u8 id) := by
  simp only [State.onKeyPress, hj]

section Live

variable {id : Nat} {effect : Job → Answer} (hj : s.job? id = some j)
include hj

theorem State.onKeyPress_notHold (hhold : j.hold = false) : s.onKeyPress id effect = s.refuse .mode (u8 id) := by
  simp only [State.onKeyPress, hj, if_pos hhold, State.job?_id hj]

theorem State.onKeyPress_tooLate (hhold : j.hold = true) (hlate : j.isTooLate = true) :
    s.onKeyPress id effect = s.refuse .tooLate j.tooLateFields := by
  simp only [State.onKeyPress, hj, hhold, hlate, Bool.true_eq_false, if_true, if_false]

theorem State.onKeyPress_inTime (hhold : j.hold = true) (hlate : j.isTooLate = false) :
    s.onKeyPress id effect = effect j := by
  simp only [State.onKeyPress, hj, hhold, hlate, Bool.true_eq_false, Bool.false_eq_true, if_false]

end Live

section Command

variable {c : CommandFrame} {b : Byte} {i : Instr}

theorem exec_jobKeep (h : s.takes c .jobKeep) (hp : c.payload = [b]) :
    exec .jobKeep s = .next (State.finish (s.popCommand.onKeyPress b.toNat fun j =>
      (s.popCommand.restartKeep j.id).answer (reply .ok (u8 j.id))) c) :=
  congrArg Host.Outcome.next
    ((State.takeCommand_executes h hp rfl).trans (congrArg (State.finish · c) (actJobKeep_eq [b] s.popCommand)))

theorem exec_jobRelease (h : s.takes c .jobRelease) (hp : c.payload = [b]) :
    exec .jobRelease s = .next (State.finish (s.popCommand.onKeyPress b.toNat fun j =>
      (s.popCommand.updateJob j.id Job.release).answer (reply .ok (u8 j.id ++ u8 j.release.state.code))) c) :=
  congrArg Host.Outcome.next
    ((State.takeCommand_executes h hp rfl).trans (congrArg (State.finish · c) (actJobRelease_eq [b] s.popCommand)))

/-- The two commands differ in their effect only (R95, R97). -/
theorem exec_keyPress (hi : i = .jobKeep ∨ i = .jobRelease) (h : s.takes c i) (hp : c.payload = [b]) :
    ∃ effect, exec i s = .next (State.finish (s.popCommand.onKeyPress b.toNat effect) c) := by
  rcases hi with rfl | rfl
  · exact ⟨_, exec_jobKeep h hp⟩
  · exact ⟨_, exec_jobRelease h hp⟩

theorem exec_keyPress_unknown (hi : i = .jobKeep ∨ i = .jobRelease) (h : s.takes c i) (hp : c.payload = [b])
    (hb : s.job? b.toNat = none) : exec i s = .next (s.answered c [0x0D#8, b]) := by
  obtain ⟨_, hexec⟩ := exec_keyPress hi h hp
  rw [hexec, State.onKeyPress_unknown (s.popCommand_job? _ ▸ hb), u8_toNat]
  rfl

section Live

variable (hj : s.job? b.toNat = some j)
include hj

theorem exec_keyPress_notHold (hi : i = .jobKeep ∨ i = .jobRelease) (h : s.takes c i) (hp : c.payload = [b])
    (hhold : j.hold = false) : exec i s = .next (s.answered c [0x0E#8, b]) := by
  obtain ⟨_, hexec⟩ := exec_keyPress hi h hp
  rw [hexec, State.onKeyPress_notHold (s.popCommand_job? _ ▸ hj) hhold, u8_toNat]
  rfl

theorem exec_keyPress_tooLate (hi : i = .jobKeep ∨ i = .jobRelease) (h : s.takes c i) (hp : c.payload = [b])
    (hhold : j.hold = true) (hlate : j.isTooLate = true) :
    exec i s =
      .next (s.answered c
        ([0x0F#8, b] ++ u8 j.state.code ++ flag j.released ++ optional8 (j.endReason.map EndReason.code))) := by
  obtain ⟨_, hexec⟩ := exec_keyPress hi h hp
  rw [hexec, State.onKeyPress_tooLate (s.popCommand_job? _ ▸ hj) hhold hlate, Job.tooLateFields, State.job?_id hj, u8_toNat]
  rfl

/-- JOB_KEEP restarts the keep timer of a job that still holds its key (R95). -/
theorem exec_jobKeep_inTime (h : s.takes c .jobKeep) (hp : c.payload = [b]) (hhold : j.hold = true)
    (hlate : j.isTooLate = false) :
    exec .jobKeep s = .next (State.answered (s.restartKeep j.id) c [0x00#8, b]) := by
  rw [exec_jobKeep h hp, State.onKeyPress_inTime (s.popCommand_job? _ ▸ hj) hhold hlate, State.job?_id hj, u8_toNat]
  rfl

/-- JOB_RELEASE releases a job that still holds its key, and answers the state that it then has (R97). -/
theorem exec_jobRelease_inTime (h : s.takes c .jobRelease) (hp : c.payload = [b]) (hhold : j.hold = true)
    (hlate : j.isTooLate = false) :
    exec .jobRelease s =
      .next (State.answered (s.updateJob j.id Job.release) c ([0x00#8, b] ++ u8 j.release.state.code)) := by
  rw [exec_jobRelease h hp, State.onKeyPress_inTime (s.popCommand_job? _ ▸ hj) hhold hlate, State.job?_id hj, u8_toNat]
  rfl

end Live

end Command

end Hold

end Sys2Proof.Machine

/-! ### The statements about holding and releasing -/

section

open Sys2Proof Sys2Proof.Machine

/-- Settles O26: the refusals that both commands share, and each command's effect on the record of a job in time. -/
theorem jobKeepAndReleaseAnswer : Obligations.JobKeepAndReleaseAnswer := by
  intro s c b i hi h hp hids
  refine ⟨fun hnone => exec_keyPress_unknown hi h hp (List.find?_eq_none.mpr fun j hj => by simpa using hnone j hj),
    fun j hmem hb => ?_⟩
  have hj : s.job? j.id = some j := State.job?_of_mem hids hmem
  have hlive : s.job? b.toNat = some j := hb ▸ hj
  refine ⟨exec_keyPress_notHold hlive hi h hp, fun hhold hlate =>
    exec_keyPress_tooLate hlive hi h hp hhold (Job.isTooLate_iff.mpr hlate), ?_, ?_, ?_⟩
  · rintro rfl hhold hstate
    rw [exec_jobKeep_inTime hlive h hp hhold (Job.not_isTooLate_iff.mpr hstate), State.restartKeep,
      State.updateJob_eq_of_record hids hj rfl]
    rfl
  · rintro rfl hhold hstate hheld
    rw [exec_jobRelease_inTime hlive h hp hhold (Job.not_isTooLate_iff.mpr (.inl ⟨hstate, hheld⟩)),
      State.updateJob_eq_of_record hids hj (Job.release_of_waiting hstate), Job.release_of_waiting hstate, hstate]
    rfl
  · rintro rfl hhold hstate
    rw [exec_jobRelease_inTime hlive h hp hhold (Job.not_isTooLate_iff.mpr (.inr hstate)),
      State.updateJob_eq_of_record hids hj (Job.release_of_running hstate), Job.release_of_running hstate]
    rfl

/-- Settles O29: the job's state once its keep timer is reached, a WAITING job by the end action. -/
theorem keepTimerExpires : Obligations.KeepTimerExpires := by
  intro s j hj
  rw [exec_keepTimerExpiry hj]
  refine ⟨?_, fun hdue hwaiting hb => ?_, fun hdue hrunning => ?_⟩
  · rintro (hearly | hover)
    · rw [hearly, if_neg Bool.false_ne_true]
    · rw [State.lapseKeep_of_over hover, ite_self]
  · rw [if_pos hdue, State.lapseKeep_of_waiting hwaiting]
    exact ⟨_, rfl, State.endJob_of_notBound hj hb⟩
  · rw [if_pos hdue, State.lapseKeep_of_running hrunning]
    rfl

/-- Settles O30: a RUNNING job once its hold limit timer is reached, and every other case. -/
theorem holdLimitExpires : Obligations.HoldLimitExpires := by
  intro s j hj
  rw [exec_holdLimitExpiry hj]
  refine ⟨fun hdue hrunning => ?_, ?_⟩
  · rw [if_pos hdue, State.reachHoldLimit_of_running hrunning]
    rfl
  · rintro (hearly | hother)
    · rw [hearly, if_neg Bool.false_ne_true]
    · rw [State.reachHoldLimit_of_not_running hother, ite_self]

end
end

section
/-! PROOFS. The end of a pause by its limit and by its clearing check (R121, R122), and the statement about both. -/

namespace Sys2Proof.Machine

/-! ### The pause limit (R122) -/

theorem exec_pauseLimitExpiry {s : State} {j : Job} (hj : s.job? j.id = some j) :
    exec (.pauseLimitExpiry j.id) s =
      .next (if j.paused && s.due j.pauseTimer then (s.endJob j.id .dutyLimit).runArbiter else s) := by
  change execPauseLimitExpiry j.id s = _
  simp only [execPauseLimitExpiry, hj]

/-! ### The clearing check (R121) -/

/-- A job's record when its pause has cleared (R121). -/
def Job.resumed (j : Job) : Job :=
  { j with paused := false, pauseTimer := none }

/-- A pause stays while a zone of the job is held off, and a job that is not paused has none to clear (R121). -/
theorem State.mayClear_eq_false {s : State} {j : Job}
    (h : j.paused = false ∨ ∃ z g, ZoneSet.has j.zones z = true ∧ (s.zone z).inForce = some (g, .holdOff)) :
    s.mayClear j = false := by
  unfold State.mayClear
  rcases h with hrunning | hheld
  · rw [hrunning, Bool.false_and]
  · rw [(s.heldOff_iff j.zones).mpr hheld, Bool.not_true, Bool.and_false]

theorem State.heldOff_eq_false {s : State} {zs : ZoneSet}
    (h : ∀ z g, ZoneSet.has zs z = true → (s.zone z).inForce ≠ some (g, .holdOff)) : s.heldOff zs = false :=
  Bool.eq_false_iff.mpr fun hheld => by
    obtain ⟨z, g, hz, hg⟩ := (s.heldOff_iff zs).mp hheld
    exact h z g hz hg

/-- The check changes nothing when no job of the id may leave its pause (R121). -/
theorem State.checkPause_of_stays {s : State} {id : Nat} (h : ∀ j, s.job? id = some j → s.mayClear j = false) :
    s.checkPause id = s := by
  unfold State.checkPause
  cases hj : s.job? id with
  | none => rfl
  | some j => simp only [h j hj, Bool.false_eq_true, if_false]

section Clear

variable {s : State} {j : Job} {k : Code} (hj : s.job? j.id = some j) (hk : s.code? j.slot = some k)
  (hpaused : j.paused = true)
  (hfree : ∀ z g, ZoneSet.has j.zones z = true → (s.zone z).inForce ≠ some (g, .holdOff))
include hj

theorem exec_pauseClear_stays
    (h : j.paused = false ∨ ∃ z g, ZoneSet.has j.zones z = true ∧ (s.zone z).inForce = some (g, .holdOff)) :
    exec (.pauseClear j.id) s = .next s := by
  refine congrArg Host.Outcome.next (State.checkPause_of_stays fun m hm => ?_)
  rw [Option.some.inj (hm.symm.trans hj)]
  exact State.mayClear_eq_false h

include hk hpaused hfree

/-- A pause clears and the boundary decision is taken again (R121). -/
theorem exec_pauseClear_clears :
    exec (.pauseClear j.id) s = .next ((s.updateJob j.id Job.resumed).decideBoundary j.resumed k.header) := by
  have hmay : s.mayClear j = true := by
    rw [State.mayClear, hpaused, State.heldOff_eq_false hfree]
    rfl
  change Host.Outcome.next (s.checkPause j.id) = _
  simp only [State.checkPause, hj, hmay, if_true, hk]
  rfl

/-- Stages 1 and 2 at a cleared pause (R83). -/
theorem exec_pauseClear_ends (hend : j.preemptPending = true ∨ j.frameDue k.header = false) :
    exec (.pauseClear j.id) s =
      .next ((s.updateJob j.id Job.resumed).endJob j.id
        (if j.preemptPending then .preempted else j.finalReason k.header)).runArbiter := by
  rw [exec_pauseClear_clears hj hk hpaused hfree, State.decideBoundary_ends (j := j.resumed) hend]
  rfl

/-- Stage 4 at a cleared pause: the job begins its next repeat frame (R83, R121). -/
theorem exec_pauseClear_begins (hp : j.preemptPending = false) (hdue : j.frameDue k.header = true) :
    exec (.pauseClear j.id) s =
      .next
        { s with
          jobs :=
            s.jobs.map fun m =>
              if m.id = j.id then
                { m with
                  paused := false, pauseTimer := none
                  play :=
                    some
                      { kind := .rep, phase := .inSection 0, since := s.clock
                        sampled := (zonesOf j.zones).map fun z => (z, (s.zone z).drive) } }
              else m } := by
  have hnone : (s.updateJob j.id Job.resumed).heldOff j.resumed.zones = false := State.heldOff_eq_false hfree
  rw [exec_pauseClear_clears hj hk hpaused hfree, State.decideBoundary_begins (j := j.resumed) hp hdue hnone]
  exact congrArg Host.Outcome.next (State.updateJob_updateJob (f := Job.resumed) (fun _ => rfl) _)

end Clear

/-! ### The end of a job whose pause has cleared -/

section Resumed

variable {s u : State} {j : Job} {reason : EndReason}

/-- The pause shows in nothing that has gone with the job. -/
theorem State.jobGone_of_resumed (h : (s.updateJob j.id Job.resumed).jobGone j.resumed u) : s.jobGone j u := by
  obtain ⟨hjobs, hrest⟩ := h
  exact ⟨hjobs.trans (filter_map_ite_id (f := Job.resumed) (fun _ => rfl) s.jobs j.id), hrest⟩

/-- The pause shows in no field of the settled job's record. -/
theorem State.jobSettles_of_resumed (h : (s.updateJob j.id Job.resumed).jobSettles j.resumed reason u) :
    s.jobSettles j reason u := by
  obtain ⟨hjobs, hgen, hzone, hrest⟩ := h
  exact ⟨hjobs.trans (map_ite_id_map_ite_id (f := Job.resumed) (fun _ => rfl) _ s.jobs j.id), hgen, hzone,
    congrArg (State.setJobs · s.jobs) hrest⟩

/-- The pause shows in no field of JOB_END (R107). -/
theorem State.endReported_of_resumed
    (h : (s.updateJob j.id Job.resumed).endReported ((s.updateJob j.id Job.resumed).endRecord j.resumed reason) u) :
    s.endReported (s.endRecord j reason) u :=
  h

end Resumed

end Sys2Proof.Machine

/-! ### The statement about pauses -/

section

open Sys2Proof Sys2Proof.Machine

/-- Settles O31: the end action at the pause limit, and the stages of the boundary once the pause has cleared. -/
theorem pausesEnd : Obligations.PausesEnd := by
  intro s j k hj hk due reason hdue hreason
  have hframe := (Job.frameDue_iff j k.header).trans hdue.symm
  have hreason' : reason = if j.preemptPending then .preempted else j.finalReason k.header := hreason
  refine ⟨fun hnot => ?_, fun hpaused hlimit => ?_, exec_pauseClear_stays hj, fun hpaused hfree => ?_⟩
  · rw [exec_pauseLimitExpiry hj, if_neg]
    rcases hnot with h | h <;> simp [h]
  · rw [exec_pauseLimitExpiry hj, hpaused, hlimit]
    refine ⟨fun hb => ⟨_, rfl, State.endJob_of_notBound hj hb⟩, fun v r hids hv hr hid => ?_⟩
    obtain ⟨u, hsettles, hu⟩ := State.endJob_of_settling (reason := .dutyLimit) hj hv hr hid rfl hids
    exact ⟨u, congrArg (fun t : State => Host.Outcome.next t.runArbiter) hu, hsettles⟩
  · have hids : ∀ m : Job, m.resumed.id = m.id := fun _ => rfl
    have hj' : (s.updateJob j.id Job.resumed).job? j.id = some j.resumed := State.job?_updateJob hj hids
    refine ⟨fun hend => ?_, fun hp hd => exec_pauseClear_begins hj hk hpaused hfree hp (hframe.mpr hd)⟩
    have hexec := exec_pauseClear_ends hj hk hpaused hfree
      (hend.imp_right fun hnot => Bool.eq_false_iff.mpr (hnot ∘ hframe.mp))
    rw [← hreason'] at hexec
    refine ⟨fun hb => ?_, fun v r hnodup hv hr hid hc hz => ?_⟩
    · obtain ⟨hgone, hreported⟩ := State.endJob_of_notBound (j := j.resumed) (reason := reason) hj' hb
      exact ⟨_, hexec, State.jobGone_of_resumed hgone, State.endReported_of_resumed hreported⟩
    · obtain ⟨u, hsettles, hu⟩ := State.endJob_of_settling (j := j.resumed) hj' hv hr hid
        (EndReason.allowsVerdict_iff.mpr ⟨hc, hz⟩) ((State.updateJob_ids hids).symm ▸ hnodup)
      exact ⟨u, hexec.trans (congrArg (fun t : State => Host.Outcome.next t.runArbiter) hu),
        State.jobSettles_of_resumed hsettles⟩

end
end

section
/-! PROOFS. The settings of derate groups, decay steps and guards (R58, R112 to R118, R121), and the statements about them. -/

namespace Sys2Proof.Machine

/-! ### Derate groups (R114, R115) -/

theorem groupOf_eq_none {n : Nat} (h : 3 < n) : groupOf n = none :=
  dif_neg (Nat.not_lt.mpr h)

theorem groupOf_eq_some {n : Nat} {g : GroupNo} (h : g.val = n) : groupOf n = some g := by
  subst h
  exact dif_pos g.isLt

theorem actionOf_eq_none {n : Nat} (h : 7 < n) : actionOf n = none := by
  rw [actionOf, if_neg (by omega), if_neg (by omega)]

theorem actionOf_toNat {a : Byte} (h : a.toNat ≤ 7) :
    actionOf a.toNat = some (if a = 0#8 then .holdOff else .drive a.toNat) := by
  have hzero : a.toNat = 0 ↔ a = 0#8 := by bv_omega
  simp only [actionOf, hzero, if_pos h]
  split <;> rfl

section Settings

variable {b e th tl a m : Byte}

/-- Settings out of range are no group's (R114, check 2). -/
theorem groupSettingsOf_eq_none (h : 1 < e.toNat ∨ th.toNat * 256 + tl.toNat = 0 ∨ 7 < a.toNat) :
    groupSettingsOf [b, e, th, tl, a, m] = none := by
  rcases h with he | hword | ha
  · have henabled : yesNoOf (byteAt [b, e, th, tl, a, m] 1) = none := yesNoOf_eq_none he
    simp only [groupSettingsOf, henabled]
  · have hfield : wordAt [b, e, th, tl, a, m] 2 = 0 := hword
    simp only [groupSettingsOf, hfield, if_true]
    split <;> rfl
  · have haction : actionOf (byteAt [b, e, th, tl, a, m] 4) = none := actionOf_eq_none ha
    simp only [groupSettingsOf, haction]
    cases yesNoOf (byteAt [b, e, th, tl, a, m] 1) <;> rfl

theorem groupSettingsOf_eq_some (he : e.toNat ≤ 1) (hword : 1 ≤ th.toNat * 256 + tl.toNat) (ha : a.toNat ≤ 7) :
    groupSettingsOf [b, e, th, tl, a, m] =
      some
        { enabled := decide (e = 1#8), threshold := th.toNat * 256 + tl.toNat
          action := if a = 0#8 then .holdOff else .drive a.toNat, mask := m } := by
  have hfield : wordAt [b, e, th, tl, a, m] 2 = th.toNat * 256 + tl.toNat := rfl
  have henabled : yesNoOf (byteAt [b, e, th, tl, a, m] 1) = some (decide (e = 1#8)) := yesNoOf_toNat he
  have haction : actionOf (byteAt [b, e, th, tl, a, m] 4) = some (if a = 0#8 then .holdOff else .drive a.toNat) :=
    actionOf_toNat ha
  simp only [groupSettingsOf, henabled, haction, hfield, if_neg (Nat.ne_zero_of_lt hword)]
  rfl

end Settings

section Command

variable {s : State} {c : CommandFrame} {b : Byte}

theorem exec_derateSet_range {p : List Byte} (h : s.takes c .derateSet) (hp : c.payload = p) (hlen : hasLength 6 p = true)
    (hbad : 3 < byteAt p 0 ∨ groupSettingsOf p = none) : exec .derateSet s = .next (s.answered c [0x02#8]) := by
  refine congrArg Host.Outcome.next (State.takeCommand_answers h hp hlen ?_)
  rcases hbad with hgroup | hsettings
  · rw [actDerateSet, groupOf_eq_none hgroup]
    rfl
  · rw [actDerateSet, hsettings]
    cases groupOf (byteAt p 0) <;> rfl

/-- DERATE_SET stores the settings that its payload spells (R114). -/
theorem exec_derateSet_stores {p : List Byte} (h : s.takes c .derateSet) (hp : c.payload = p) (hlen : hasLength 6 p = true)
    {g : GroupNo} (hg : g.val = byteAt p 0) {x : Group} (hx : groupSettingsOf p = some x) :
    exec .derateSet s =
      .next (State.answered { s with groups := s.groups.set g.val x g.isLt } c (0x00#8 :: u8 g.val)) := by
  refine congrArg Host.Outcome.next (State.takeCommand_answers h hp hlen ?_)
  rw [actDerateSet, groupOf_eq_some hg, hx]
  rfl

theorem exec_derateGet_range (h : s.takes c .derateGet) (hp : c.payload = [b]) (hb : 3 < b.toNat) :
    exec .derateGet s = .next (s.answered c [0x02#8]) := by
  refine congrArg Host.Outcome.next (State.takeCommand_answers h hp rfl ?_)
  rw [actDerateGet, show groupOf (byteAt [b] 0) = none from groupOf_eq_none hb]
  rfl

/-- DERATE_GET answers the settings of the group as they stand (R115). -/
theorem exec_derateGet_settings (h : s.takes c .derateGet) (hp : c.payload = [b]) {g : GroupNo} (hg : g.val = b.toNat) :
    exec .derateGet s =
      .next (s.answered c
        (0x00#8 :: (u8 g.val ++ flag (s.groups[g]).enabled ++ u16 (s.groups[g]).threshold ++
          u8 (s.groups[g]).action.code ++ [(s.groups[g]).mask]))) := by
  refine congrArg Host.Outcome.next (State.takeCommand_answers h hp rfl ?_)
  rw [actDerateGet, show groupOf (byteAt [b] 0) = some g from groupOf_eq_some hg]
  rfl

end Command

/-! ### Guards (R58) -/

theorem exec_guardExpiry_early {s : State} {z : ZoneNo} (h : ∀ t, (s.zone z).state = .guard t → t.reached s.now = false) :
    exec (.guardExpiry z) s = .next s := by
  change execGuardExpiry z s = _
  unfold execGuardExpiry
  cases hz : (s.zone z).state with
  | guard t => simp only [h t hz, Bool.false_eq_true, if_false]
  | off | idle | active _ => rfl

theorem exec_guardExpiry_reached {s : State} {z : ZoneNo} {t : Timer} (hz : (s.zone z).state = .guard t)
    (h : t.reached s.now = true) :
    exec (.guardExpiry z) s = .next (s.setZone z { s.zone z with state := .idle }).runArbiter := by
  change execGuardExpiry z s = _
  simp only [execGuardExpiry, hz, h, if_true]

/-! ### Decay steps (R112) -/

/-- A decay step in terms of the group that comes into force after the fall (R112, R116 to R118). -/
theorem State.decay_eq {s : State} {z : ZoneNo} {x : Zone} {chosen : Option GroupNo} (hx : x = s.zone z) {load : Nat}
    (hload : load = x.load - s.params.loadDecay) (hchosen : s.chooseGroup z { x with load := load } = chosen) :
    s.decay z =
      { s with
        zones :=
          s.zones.set z.val
            { state := x.state, drive := driveUnder (chosen.map fun g => (g, (s.groups[g]).action)), load := load
              inForce := chosen.map fun g => (g, (s.groups[g]).action), nextDecay := x.nextDecay + 10000 } z.isLt
        line :=
          if x.inForce.map Prod.fst = chosen then s.line else s.line.produce (.zoneDerate z chosen load s.now) } := by
  subst hx hload
  have hfallen : ∀ y : Zone, (s.setZone z y).chooseGroup z
      { s.zone z with load := (s.zone z).load - s.params.loadDecay, nextDecay := (s.zone z).nextDecay + 10000 } = chosen :=
    fun _ => hchosen
  unfold State.decay State.evaluate
  simp only [State.zone_setZone_self, State.setZone_setZone, hfallen, State.setZone_keeps, eq_comm (a := chosen)]
  split <;> rfl

/-- What State.decay keeps of jobs, codes and time. -/
@[simp] theorem State.decay_keeps (s : State) (z : ZoneNo) :
    (s.decay z).clock = s.clock ∧ (s.decay z).table = s.table ∧ (s.decay z).jobs = s.jobs := by
  simp [State.decay]

theorem State.decay_job? (s : State) (z : ZoneNo) (id : Nat) : (s.decay z).job? id = s.job? id := by
  simp [State.job?]

theorem State.decay_code? (s : State) (z : ZoneNo) (i : SlotNo) : (s.decay z).code? i = s.code? i := by
  simp [State.code?, State.slot]

section Decay

variable {s : State} {z : ZoneNo} {o : Nat} {j : Job}

theorem exec_decayStep_early (h : s.clock < (s.zone z).nextDecay) : exec (.decayStep z) s = .next s := by
  change execDecayStep z s = _
  rw [execDecayStep, if_neg (Nat.not_le.mpr h)]

/-- A decay step in an ACTIVE zone is followed by the pause clearing check of its owner (R121). -/
theorem exec_decayStep_active (h : (s.zone z).nextDecay ≤ s.clock) (hz : (s.zone z).state = .active o) :
    exec (.decayStep z) s = exec (.pauseClear o) (s.decay z) := by
  change execDecayStep z s = .next ((s.decay z).checkPause o)
  simp only [execDecayStep, if_pos h, hz]

/-- A decay step in a zone whose owner is not paused, or that has none, is the decay alone (R112, R121). -/
theorem exec_decayStep_of_not_paused (h : (s.zone z).nextDecay ≤ s.clock)
    (hrunning : ∀ o j, (s.zone z).state = .active o → s.job? o = some j → j.paused = false) :
    exec (.decayStep z) s = .next (s.decay z) := by
  cases hz : (s.zone z).state with
  | active o =>
    have hstays : ∀ j, (s.decay z).job? o = some j → (s.decay z).mayClear j = false := fun j hj =>
      State.mayClear_eq_false (.inl (hrunning o j hz (s.decay_job? z o ▸ hj)))
    exact (exec_decayStep_active h hz).trans (congrArg Host.Outcome.next (State.checkPause_of_stays hstays))
  | off | idle | guard _ =>
    change execDecayStep z s = _
    simp only [execDecayStep, if_pos h, hz]

end Decay

end Sys2Proof.Machine

/-! ### The statements about derate groups and the timers of zones -/

section

open Sys2Proof Sys2Proof.Machine

/-- Settles O38: the group named by the byte, its settings field by field. -/
theorem derateGetAnswers : Obligations.DerateGetAnswers := by
  refine fun s c b h hp => ⟨exec_derateGet_range h hp, fun g hg => ?_⟩
  have hbyte : u8 g.val = [b] := hg ▸ u8_toNat b
  rw [exec_derateGet_settings h hp hg, hbyte]
  cases (s.groups[g]).enabled <;> cases (s.groups[g]).action <;> rfl

/-- Settles O37: the payload's group and settings, each in range or not. -/
theorem derateSetAnswers : Obligations.DerateSetAnswers := by
  intro s c b e th tl a m h hp
  refine ⟨fun hbad => ?_, fun g hg he hword ha => ?_⟩
  · exact exec_derateSet_range h hp rfl (hbad.imp_right groupSettingsOf_eq_none)
  · have hbyte : u8 g.val = [b] := hg ▸ u8_toNat b
    rw [exec_derateSet_stores h hp rfl hg (groupSettingsOf_eq_some he hword ha), hbyte]

/-- Settles O39: the guard by its timer; the decay step by the group chosen, and the clearing check in the state it leaves. -/
theorem zoneTimersExpire : Obligations.ZoneTimersExpire := by
  refine ⟨fun s z => ⟨exec_guardExpiry_early, fun t hz hreached => ?_⟩, ?_⟩
  · exact ⟨_, exec_guardExpiry_reached hz hreached, rfl, fun w => s.zone_setZone z w _⟩
  · intro s z x hx
    refine ⟨fun hearly => exec_decayStep_early (hx ▸ hearly), fun hdue load q t hload hq ht => ?_⟩
    have hdecay : s.decay z = t := by
      have hq := qualifies_iff_of hq
      rcases ht with ⟨g, hg, hfirst, rfl⟩ | ⟨hnone, rfl⟩
      · rw [State.decay_eq hx hload (State.chooseGroup_eq_some hq hg hfirst)]
        simp only [Option.map_some, driveUnder]
        cases (s.groups[g]).action <;> rfl
      · rw [State.decay_eq hx hload (State.chooseGroup_eq_none hq hnone)]
        simp only [Option.map_none, Option.map_eq_none_iff, driveUnder]
    subst hx
    rw [← hdecay]
    refine ⟨exec_decayStep_of_not_paused hdue, fun o j k hz hj hk hpaused => ?_⟩
    have hexec := exec_decayStep_active hdue hz
    obtain rfl : j.id = o := State.job?_id hj
    obtain ⟨hclock, -, hjobs⟩ := s.decay_keeps z
    have hj' : (s.decay z).job? j.id = some j := (s.decay_job? z j.id).trans hj
    have hk' : (s.decay z).code? j.slot = some k := (s.decay_code? z j.slot).trans hk
    refine ⟨fun hheld => ?_, fun hfree => ⟨hexec, fun hp hframe => ?_⟩⟩
    · exact hexec.trans (exec_pauseClear_stays hj' (.inr hheld))
    · rw [hexec, exec_pauseClear_begins hj' hk' hpaused hfree hp ((Job.frameDue_iff j k.header).mpr hframe), hjobs, hclock]

end
end

section
/-! PROOFS. The capture store of a state: its closed frames, and the line and the engine of each input (R124, R127, R128,
R132). What a command can do to it is said once, and the bounds of the store are a case analysis of that. -/

namespace Sys2Proof.Machine

/-! ### The store -/

/-- What the capture store holds of a receive input: its line with a pending trial, its accepted level and its engine. -/
structure Front where
  raw : Level
  trial : Option Trial
  accepted : Level
  engine : Engine

/-- What the capture store holds of an input record. -/
def RxInput.front (r : RxInput) : Front where
  raw := r.raw
  trial := r.trial
  accepted := r.accepted
  engine := r.engine

/-- What the capture store is told from. -/
structure Store where
  captures : List CapturedFrame
  front : InputNo → Front

/-- The capture store of a state. -/
def State.store (s : State) : Store where
  captures := s.captures
  front := fun v => (s.input v).front

/-- The store with another front of an input. -/
def Store.setFront (S : Store) (v : InputNo) (x : Front) : Store :=
  { S with front := Function.update S.front v x }

/-- The store with another engine of an input. -/
def Store.setEngine (S : Store) (v : InputNo) (e : Engine) : Store :=
  S.setFront v { S.front v with engine := e }

/-- The store with a closed frame joined at the tail of the capture queue (R132). -/
def Store.push (S : Store) (g : CapturedFrame) : Store :=
  { S with captures := S.captures ++ [g] }

/-- The buffer cells in use (R132). -/
def Store.cells (S : Store) : Nat :=
  (S.captures.map fun f => f.cells.length).sum + (S.front 0).engine.heldCells + (S.front 1).engine.heldCells

/-- The queue entries in use (R132). -/
def Store.entries (S : Store) : Nat :=
  S.captures.length + (S.front 0).engine.heldEntries + (S.front 1).engine.heldEntries

@[simp] theorem State.store_captures (s : State) : s.store.captures = s.captures := rfl
@[simp] theorem State.store_front (s : State) (v : InputNo) : s.store.front v = (s.input v).front := rfl
@[simp] theorem State.store_cells (s : State) : s.store.cells = s.cellsUsed := rfl
@[simp] theorem State.store_entries (s : State) : s.store.entries = s.entriesUsed := rfl

@[simp] theorem Store.setFront_captures (S : Store) (v : InputNo) (x : Front) : (S.setFront v x).captures = S.captures := rfl

theorem Store.setFront_front (S : Store) (v w : InputNo) (x : Front) :
    (S.setFront v x).front w = if w = v then x else S.front w :=
  Function.update_apply ..

@[simp] theorem Store.setFront_front_self (S : Store) (v : InputNo) (x : Front) : (S.setFront v x).front v = x :=
  Function.update_self ..

@[simp] theorem Store.setFront_setFront (S : Store) (v : InputNo) (x y : Front) :
    (S.setFront v x).setFront v y = S.setFront v y := by
  simp [Store.setFront]

@[simp] theorem Store.setFront_self (S : Store) (v : InputNo) : S.setFront v (S.front v) = S := by
  simp [Store.setFront]

@[simp] theorem Store.setFront_setEngine (S : Store) (v : InputNo) (x : Front) (e : Engine) :
    (S.setFront v x).setEngine v e = S.setFront v { x with engine := e } := by
  simp [Store.setEngine]

/-! ### Writers of the state -/

/-- A store is read from the inputs and the capture queue. -/
theorem State.store_congr {s t : State} (hc : t.captures = s.captures) (hi : t.inputs = s.inputs) : t.store = s.store := by
  simp [State.store, State.input, hc, hi]

@[simp] theorem State.setLine_store (s : State) (l : HostLine) : (s.setLine l).store = s.store := rfl
@[simp] theorem State.setTable_store (s : State) (t : CodeTable) : (s.setTable t).store = s.store := rfl
@[simp] theorem State.setJobs_store (s : State) (js : List Job) : (s.setJobs js).store = s.store := rfl
@[simp] theorem State.setNextId_store (s : State) (n : Nat) : (s.setNextId n).store = s.store := rfl
@[simp] theorem State.setZones_store (s : State) (zs : Vector Zone 8) : (s.setZones zs).store = s.store := rfl
@[simp] theorem State.setParams_store (s : State) (ps : Params) : (s.setParams ps).store = s.store := rfl
@[simp] theorem State.setZone_store (s : State) (z : ZoneNo) (x : Zone) : (s.setZone z x).store = s.store := rfl
@[simp] theorem State.updateJob_store (s : State) (id : Nat) (f : Job → Job) : (s.updateJob id f).store = s.store := rfl
@[simp] theorem State.putSlot_store (s : State) (i : SlotNo) (x : Slot) : (s.putSlot i x).store = s.store := rfl
@[simp] theorem State.setLoad_store (s : State) (l : Option LoadContext) : (s.setLoad l).store = s.store := rfl
@[simp] theorem State.setLearn_store (s : State) (x : Option LearnContext) : (s.setLearn x).store = s.store := rfl
@[simp] theorem State.produce_store (s : State) (r : Report) : (s.produce r).store = s.store := rfl
@[simp] theorem State.joinCaptured_store (s : State) (rs : List Report) : (s.joinCaptured rs).store = s.store := rfl
@[simp] theorem State.linkError_store (s : State) (e : LinkFault) (tag : Byte) : (s.linkError e tag).store = s.store :=
  State.store_congr (by simp) (by simp)

theorem State.setCaptures_store (s : State) (cs : List CapturedFrame) :
    (s.setCaptures cs).store = { s.store with captures := cs } := rfl

theorem State.setInput_store (s : State) (v : InputNo) (r : RxInput) :
    (s.setInput v r).store = s.store.setFront v r.front := by
  have hfront : (fun w => ((s.setInput v r).input w).front) = Function.update (fun w => (s.input w).front) v r.front := by
    funext w
    rw [State.input_setInput, Function.update_apply]
    split <;> rfl
  simp [State.store, Store.setFront, hfront]

/-- An input record with the same line and engine leaves the store. -/
theorem State.setInput_store_of_front {s : State} {v : InputNo} {r : RxInput} (h : r.front = (s.input v).front) :
    (s.setInput v r).store = s.store := by
  rw [State.setInput_store, h]
  exact s.store.setFront_self v

/-! ### Moves -/

/-- What the blocks behind the capture engines do to the store, one effect at a time. -/
inductive Store.Drain : Store → Store → Prop
  /-- The head of the capture queue leaves it (R134, R141). -/
  | leave {S : Store} : Drain S { S with captures := S.captures.tail }
  /-- An engine holds no open frame any more (R126). -/
  | rest {S : Store} (v : InputNo) {e : Engine} (rests : e.isInFrame = false) : Drain S (S.setEngine v e)

/-- What a command does to the store, one effect at a time. -/
inductive Store.Move : Store → Store → Prop
  | drain {S T : Store} (h : S.Drain T) : Move S T
  /-- The raw line moves, or a trial ends without a change (R124). -/
  | edge {S : Store} (v : InputNo) {x : Front} (level : x.accepted = (S.front v).accepted)
      (engine : x.engine = (S.front v).engine) : Move S (S.setFront v x)
  /-- The accepted level changes, and the engine holds no open frame after it (R124, R127, R128, R131). -/
  | change {S : Store} (v : InputNo) {x : Front} (rests : x.engine.isInFrame = false) : Move S (S.setFront v x)
  /-- A frame opens at a mark start (R127, case 5). -/
  | start {S : Store} {v : InputNo} {x : Front} {f : OpenFrame} (rested : (S.front v).engine.isInFrame = false)
      (room : S.entries < 8) (fresh : f.cells = []) (level : x.accepted = .mark) (engine : x.engine = .inFrame f) :
      Move S (S.setFront v x)
  /-- A cell is stored and the frame stays open (R128). -/
  | grow {S : Store} {v : InputNo} {x : Front} {f : OpenFrame} (d : Nat) (opened : (S.front v).engine = .inFrame f)
      (room : S.cells < 2048) (short : f.cells.length + 1 < 511) (level : x.accepted = otherLevel (S.front v).accepted)
      (engine : x.engine = .inFrame (f.store d)) : Move S (S.setFront v x)
  /-- A frame closes at its end gap (R129). -/
  | close {S : Store} {v : InputNo} {x : Front} {f : OpenFrame} {g : CapturedFrame}
      (opened : (S.front v).engine = .inFrame f) (spaced : (S.front v).accepted = .space)
      (rests : x.engine.isInFrame = false) (cells : g.cells = f.cells) : Move S ((S.setFront v x).push g)
  /-- A frame closes with a last cell: TRUNCATED by its 511th, or STUCK in a mark (R129). -/
  | closeWith {S : Store} {v : InputNo} {x : Front} {f : OpenFrame} {g : CapturedFrame} (d : Nat)
      (opened : (S.front v).engine = .inFrame f) (room : S.cells < 2048)
      (last : (S.front v).accepted = .mark ∨ 511 ≤ f.cells.length + 1) (rests : x.engine.isInFrame = false)
      (cells : g.cells = f.cells ++ [storedLength d]) : Move S ((S.setFront v x).push g)
  /-- The store is emptied (R132). -/
  | clear {S T : Store} (empty : T.captures = []) (rest : ∀ v, (T.front v).engine.isInFrame = false) : Move S T

/-- A run of effects of the blocks behind the engines. -/
abbrev Store.Drains : Store → Store → Prop :=
  Relation.ReflTransGen Store.Drain

/-- A run of moves. -/
abbrev Store.Moves : Store → Store → Prop :=
  Relation.ReflTransGen Store.Move

theorem Store.Drains.moves {S T : Store} (h : S.Drains T) : S.Moves T :=
  Relation.ReflTransGen.mono (fun _ _ => Store.Move.drain) _ _ h

theorem Store.Drains.of_eq {S T : Store} (h : T = S) : S.Drains T :=
  h ▸ .refl

/-- A run of effects on a store that is the one before. -/
theorem Store.Drains.since {S T U : Store} (h : T.Drains U) (hs : T = S) : S.Drains U :=
  hs ▸ h

theorem Store.Moves.of_eq {S T : Store} (h : T = S) : S.Moves T :=
  h ▸ .refl

/-- The blocks behind the engines leave the lines and their trials (R124). -/
theorem Store.Drains.line {S T : Store} (h : S.Drains T) (v : InputNo) :
    (T.front v).raw = (S.front v).raw ∧ (T.front v).trial = (S.front v).trial := by
  induction h with
  | refl => exact ⟨rfl, rfl⟩
  | tail _ hd ih =>
    obtain ⟨hraw, htrial⟩ := ih
    cases hd with
    | leave => exact ⟨hraw, htrial⟩
    | rest w rests =>
      unfold Store.setEngine
      rw [Store.setFront_front]
      split
      · subst v
        exact ⟨hraw, htrial⟩
      · exact ⟨hraw, htrial⟩

/-- Runs of effects follow one another through a fold. -/
theorem foldl_drains {α : Type} {f : State → α → State} (h : ∀ (s : State) (a : α), s.store.Drains (f s a).store)
    (l : List α) (s : State) : s.store.Drains (l.foldl f s).store := by
  induction l generalizing s with
  | nil => exact .refl
  | cons a l ih => exact (h s a).trans (ih _)

/-- A fold of steps each of which leaves the store leaves it. -/
theorem foldl_store {α : Type} {f : State → α → State} (h : ∀ s a, (f s a).store = s.store) (l : List α) (s : State) :
    (l.foldl f s).store = s.store := by
  induction l generalizing s with
  | nil => rfl
  | cons a l ih => rw [List.foldl_cons, ih, h]

/-! ### The bounds of a store -/

/-- The open frame of an input is well shaped for its accepted level, as `RxInput.frameShaped` says (R128, R129). -/
def Front.shaped (x : Front) : Prop :=
  match x.engine with
  | .inFrame f => f.cells.length ≤ 510 ∧ (f.cells.length % 2 = 0 ↔ x.accepted = .mark) ∧ cellsInRange f.cells
  | .quiet => True
  | .discarding _ => True

theorem Front.shaped_of_inFrame {x : Front} {f : OpenFrame} (h : x.engine = .inFrame f) :
    x.shaped ↔ f.cells.length ≤ 510 ∧ (f.cells.length % 2 = 0 ↔ x.accepted = .mark) ∧ cellsInRange f.cells := by
  simp only [Front.shaped, h]

/-- A store within its bounds, its frames well shaped, as `State.captureBounded` says (R129, R132). -/
structure Store.Bounded (S : Store) : Prop where
  cells : S.cells ≤ 2048
  entries : S.entries ≤ 8
  fronts : ∀ v, (S.front v).shaped
  captures : ∀ g ∈ S.captures, g.shaped

theorem RxInput.frameShaped_iff (r : RxInput) : r.frameShaped ↔ r.front.shaped := by
  unfold RxInput.frameShaped Front.shaped RxInput.front
  cases r.engine <;> rfl

theorem State.captureBounded_iff (s : State) : s.captureBounded ↔ s.store.Bounded := by
  constructor
  · rintro ⟨hcells, hentries, hframes, hclosed⟩
    exact ⟨hcells, hentries, fun v => (s.input v).frameShaped_iff.mp (hframes v), hclosed⟩
  · rintro ⟨hcells, hentries, hframes, hclosed⟩
    exact ⟨hcells, hentries, fun v => (s.input v).frameShaped_iff.mpr (hframes v), hclosed⟩

/-- What both engines hold together, in any measure, when one of them is replaced. -/
theorem Store.held_setFront (m : Engine → Nat) (S : Store) (v : InputNo) (x : Front) :
    m ((S.setFront v x).front 0).engine + m ((S.setFront v x).front 1).engine + m (S.front v).engine =
      m (S.front 0).engine + m (S.front 1).engine + m x.engine := by
  simp only [Store.setFront_front]
  match v with
  | 0 =>
    simp only [if_true, if_neg (by decide : ¬(1 : InputNo) = 0)]
    omega
  | 1 =>
    simp only [if_true, if_neg (by decide : ¬(0 : InputNo) = 1)]
    omega

/-- Another engine of an input gives back what the one before held. -/
theorem Store.cells_setFront (S : Store) (v : InputNo) (x : Front) :
    (S.setFront v x).cells + (S.front v).engine.heldCells = S.cells + x.engine.heldCells := by
  have h := S.held_setFront Engine.heldCells v x
  unfold Store.cells
  rw [Store.setFront_captures]
  omega

theorem Store.entries_setFront (S : Store) (v : InputNo) (x : Front) :
    (S.setFront v x).entries + (S.front v).engine.heldEntries = S.entries + x.engine.heldEntries := by
  have h := S.held_setFront Engine.heldEntries v x
  unfold Store.entries
  rw [Store.setFront_captures]
  omega

theorem Store.cells_push (S : Store) (g : CapturedFrame) : (S.push g).cells = S.cells + g.cells.length := by
  simp only [Store.cells, Store.push, List.map_append, List.sum_append, List.map_cons, List.map_nil, List.sum_cons,
    List.sum_nil]
  omega

theorem Store.entries_push (S : Store) (g : CapturedFrame) : (S.push g).entries = S.entries + 1 := by
  simp only [Store.entries, Store.push, List.length_append, List.length_cons, List.length_nil]
  omega

/-- An engine with no open frame holds nothing of the store, and nothing is asked of it. -/
theorem Front.rests_holds {x : Front} (h : x.engine.isInFrame = false) :
    x.engine.heldCells = 0 ∧ x.engine.heldEntries = 0 ∧ x.shaped := by
  unfold Front.shaped
  cases he : x.engine with
  | inFrame f =>
    rw [he] at h
    cases h
  | quiet | discarding gap => exact ⟨rfl, rfl, trivial⟩

theorem cellsInRange_append {cells : List Nat} (h : cellsInRange cells) (d : Nat) :
    cellsInRange (cells ++ [storedLength d]) := by
  intro c hc
  obtain hc | hc := List.mem_append.mp hc
  · exact h c hc
  · rw [List.mem_singleton.mp hc]
    exact storedLength_range d

theorem otherLevel_eq_mark {l : Level} : otherLevel l = .mark ↔ ¬l = .mark := by
  cases l <;> decide

/-- Another front of an input keeps the bounds when it holds no more than there is room for, and is well shaped. -/
theorem Store.Bounded.setFront {S : Store} (h : S.Bounded) {v : InputNo} {x : Front}
    (hc : S.cells + x.engine.heldCells ≤ 2048 + (S.front v).engine.heldCells)
    (he : S.entries + x.engine.heldEntries ≤ 8 + (S.front v).engine.heldEntries) (hs : x.shaped) :
    (S.setFront v x).Bounded where
  cells := by
    have := S.cells_setFront v x
    omega
  entries := by
    have := S.entries_setFront v x
    omega
  fronts w := by
    rw [Store.setFront_front]
    split
    · exact hs
    · exact h.fronts w
  captures := h.captures

/-- An input that holds no open frame takes nothing of the store. -/
theorem Store.Bounded.rest {S : Store} (h : S.Bounded) (v : InputNo) {x : Front} (hx : x.engine.isInFrame = false) :
    (S.setFront v x).Bounded := by
  obtain ⟨hcells, hentries, hshaped⟩ := Front.rests_holds hx
  have hc := h.cells
  have he := h.entries
  exact h.setFront (by omega) (by omega) hshaped

/-- A frame that was open closes, with one cell more at most, into the place it had reserved (R132). -/
theorem Store.Bounded.push {S : Store} (h : S.Bounded) {v : InputNo} {x : Front} {f : OpenFrame} {g : CapturedFrame}
    (hf : (S.front v).engine = .inFrame f) (hx : x.engine.isInFrame = false)
    (hc : S.cells + g.cells.length ≤ 2048 + f.cells.length) (hg : g.shaped) : ((S.setFront v x).push g).Bounded := by
  obtain ⟨hcells, hentries, -⟩ := Front.rests_holds hx
  have hrest := h.rest v hx
  have hc' := S.cells_setFront v x
  have he' := S.entries_setFront v x
  rw [hf, hcells, Engine.heldCells] at hc'
  rw [hf, hentries, Engine.heldEntries] at he'
  have hb := h.entries
  refine ⟨?_, ?_, hrest.fronts, fun k hk => ?_⟩
  · rw [Store.cells_push]
    omega
  · rw [Store.entries_push]
    omega
  · obtain hk | hk := List.mem_append.mp hk
    · exact h.captures k hk
    · rwa [List.mem_singleton.mp hk]

theorem Store.Drain.keeps_bounded {S T : Store} (hd : S.Drain T) (h : S.Bounded) : T.Bounded := by
  cases hd with
  | leave =>
    have hc := h.cells
    have he := h.entries
    refine ⟨le_trans ?_ hc, le_trans ?_ he, h.fronts, fun g hg => h.captures g (List.mem_of_mem_tail hg)⟩
    · unfold Store.cells
      cases S.captures with
      | nil => exact le_refl _
      | cons g gs =>
        simp only [List.tail_cons, List.map_cons, List.sum_cons]
        omega
    · simp only [Store.entries, List.length_tail]
      omega
  | rest v rests => exact h.rest v rests

/-- Every move keeps the bounds of the store (R128, R129, R132). -/
theorem Store.Move.keeps_bounded {S T : Store} (hm : S.Move T) (h : S.Bounded) : T.Bounded := by
  have hc := h.cells
  have he := h.entries
  cases hm with
  | drain hd => exact hd.keeps_bounded h
  | @edge v x level engine =>
    refine h.setFront (by rw [engine]; omega) (by rw [engine]; omega) ?_
    have hs := h.fronts v
    unfold Front.shaped at hs ⊢
    rwa [engine, level]
  | change v rests => exact h.rest v rests
  | @start v x f rested room fresh level engine =>
    have hcells : x.engine.heldCells = 0 := by simp [engine, Engine.heldCells, fresh]
    have hentries : x.engine.heldEntries = 1 := by rw [engine, Engine.heldEntries]
    refine h.setFront (by omega) (by omega) ((Front.shaped_of_inFrame engine).mpr ?_)
    rw [fresh, level]
    exact ⟨by decide, by decide, fun d hd => nomatch hd⟩
  | @grow v x f d opened room short level engine =>
    obtain ⟨-, hparity, hrange⟩ := (Front.shaped_of_inFrame opened).mp (h.fronts v)
    have hlen : (f.store d).cells.length = f.cells.length + 1 := by simp
    refine h.setFront ?_ ?_ ((Front.shaped_of_inFrame engine).mpr ⟨?_, ?_, cellsInRange_append hrange d⟩)
    · rw [opened, engine, Engine.heldCells, Engine.heldCells]
      omega
    · rw [opened, engine, Engine.heldEntries, Engine.heldEntries]
      omega
    · omega
    · rw [level, otherLevel_eq_mark, ← hparity]
      omega
  | @close v x f g opened spaced rests cells =>
    obtain ⟨hlen, hparity, hrange⟩ := (Front.shaped_of_inFrame opened).mp (h.fronts v)
    rw [spaced] at hparity
    have hodd : ¬f.cells.length % 2 = 0 := fun heven => nomatch hparity.mp heven
    have hg : g.cells.length = f.cells.length := congrArg List.length cells
    refine h.push opened rests (by omega) ⟨by omega, by omega, ?_⟩
    rwa [cells]
  | @closeWith v x f g d opened room last rests cells =>
    obtain ⟨hlen, hparity, hrange⟩ := (Front.shaped_of_inFrame opened).mp (h.fronts v)
    have hg : g.cells.length = f.cells.length + 1 := by simp [cells]
    have heven : f.cells.length % 2 = 0 := by
      obtain hmark | hfull := last
      · exact hparity.mpr hmark
      · omega
    refine h.push opened rests (by omega) ⟨by omega, by omega, ?_⟩
    rw [cells]
    exact cellsInRange_append hrange d
  | clear empty rest =>
    obtain ⟨hc0, he0, -⟩ := Front.rests_holds (rest 0)
    obtain ⟨hc1, he1, -⟩ := Front.rests_holds (rest 1)
    refine ⟨?_, ?_, fun v => ?_, fun g hg => ?_⟩
    · simp [Store.cells, empty, hc0, hc1]
    · simp [Store.entries, empty, he0, he1]
    · obtain ⟨-, -, hshaped⟩ := Front.rests_holds (rest v)
      exact hshaped
    · rw [empty] at hg
      cases hg

theorem Store.Moves.keeps_bounded {S T : Store} (h : S.Moves T) (hS : S.Bounded) : T.Bounded := by
  induction h with
  | refl => exact hS
  | tail _ hmove ih => exact hmove.keeps_bounded ih

end Sys2Proof.Machine
end

section
/-! PROOFS. What the shared operations do to the capture store: most leave it, some give up an open frame, the capture queue
loses its head, and the capture engines open, grow and close frames (R126 to R134). -/

namespace Sys2Proof.Machine

/-! ### Operations that leave the store -/

@[simp] theorem State.setRun_store (s : State) (v : InputNo) (r : Option Run) : (s.setRun v r).store = s.store :=
  State.setInput_store_of_front rfl

@[simp] theorem State.setVerify_store (s : State) (v : InputNo) (r : Option VerifyRecord) :
    (s.setVerify v r).store = s.store :=
  State.setInput_store_of_front rfl

@[simp] theorem State.takeInput_store (s : State) (v : InputNo) (m : InputMode) : (s.takeInput v m).store = s.store :=
  State.setInput_store_of_front rfl

@[simp] theorem State.decideRunEnd_store (s : State) (v : InputNo) (r : Run) : (s.decideRunEnd v r).store = s.store := by
  unfold State.decideRunEnd
  simp only []
  split <;> simp

@[simp] theorem State.checkRunEnd_store (s : State) (v : InputNo) : (s.checkRunEnd v).store = s.store := by
  unfold State.checkRunEnd
  split
  · rfl
  · split <;> simp

@[simp] theorem State.recheckRunEnd_store (s : State) (v : InputNo) : (s.recheckRunEnd v).store = s.store := by
  unfold State.recheckRunEnd
  split
  · split <;> simp
  · rfl

@[simp] theorem State.retryRunEnd_store (s : State) (v : InputNo) : (s.retryRunEnd v).store = s.store := by
  unfold State.retryRunEnd
  split
  · split <;> simp
  · rfl

@[simp] theorem State.moveWindow_store (s : State) (v : InputNo) : (s.moveWindow v).store = s.store := by
  unfold State.moveWindow
  split
  · rfl
  · split <;> simp

@[simp] theorem State.noticeEmitted_store (s : State) (j : Job) : (s.noticeEmitted j).store = s.store := by
  unfold State.noticeEmitted
  split <;> simp

@[simp] theorem State.finishJob_store (s : State) (id : Nat) : (s.finishJob id).store = s.store :=
  State.store_congr (by simp) (by simp)

@[simp] theorem State.cutFrame_store (s : State) (j : Job) : (s.cutFrame j).store = s.store :=
  State.store_congr (by simp) (by simp)

@[simp] theorem State.markEnds_store (s : State) (d : Nat) (ps : List (ZoneNo × Nat)) : (s.markEnds d ps).store = s.store :=
  State.store_congr (by simp) (by simp)

@[simp] theorem State.decay_store (s : State) (z : ZoneNo) : (s.decay z).store = s.store :=
  State.store_congr (by simp [State.decay]) (by simp [State.decay])

@[simp] theorem State.beginFrame_store (s : State) (j : Job) (kind : FrameKind) : (s.beginFrame j kind).store = s.store := rfl

@[simp] theorem State.pauseJob_store (s : State) (id : Nat) : (s.pauseJob id).store = s.store := rfl

@[simp] theorem State.bindVerify_store (s : State) (j : Job) : (s.bindVerify j).store = s.store := by
  unfold State.bindVerify
  split
  · rfl
  · rename_i v _
    exact ((s.takeInput v .verify).setVerify_store v _).trans (s.takeInput_store v .verify)

@[simp] theorem State.startJob_store (s : State) (j : Job) (h : Header) (g : Option (Fin 4)) :
    (s.startJob j h g).store = s.store := by
  have hplay : ((s.ownZones j.id j.zones).takeGenerator h g).store = s.store := State.store_congr (by simp) (by simp)
  simp [State.startJob, hplay]

@[simp] theorem arbiterScan_store (js : List Job) (blocked : ZoneSet) (s : State) :
    (arbiterScan js blocked s).store = s.store := by
  induction js generalizing blocked s with
  | nil => rfl
  | cons j js ih =>
    unfold arbiterScan
    split
    · split
      · rw [ih, State.startJob_store]
      · exact ih _ s
    · exact ih _ s

@[simp] theorem State.runArbiter_store (s : State) : s.runArbiter.store = s.store :=
  arbiterScan_store ..

@[simp] theorem State.arbiterAfter_store (s before : State) : (s.arbiterAfter before).store = s.store := by
  unfold State.arbiterAfter
  split <;> simp

@[simp] theorem State.enableZones_store (s : State) (zs : ZoneSet) : (s.enableZones zs).store = s.store :=
  foldl_store (fun s z => by split <;> simp) _ s

@[simp] theorem State.turnOff_store (s : State) (zs : ZoneSet) : (s.turnOff zs).store = s.store :=
  foldl_store (fun s z => by simp) _ s

@[simp] theorem State.endCell_store (s : State) (j : Job) (p : Play) (i d cells : Nat) :
    (s.endCell j p i d cells).store = s.store := by
  unfold State.endCell
  simp only []
  repeat' split
  all_goals simp [State.beginMark, State.beginSpace, State.beginTrail]

@[simp] theorem State.abandonLoad_store (s : State) (i : SlotNo) : (s.abandonLoad i).store = s.store := by
  unfold State.abandonLoad
  split <;> rfl

@[simp] theorem State.completeLoad_store (s : State) (l : LoadContext) : (s.completeLoad l).store = s.store := by
  unfold State.completeLoad
  split <;> rfl

@[simp] theorem State.storeSegment_store (s : State) (l : LoadContext) (cells : List Nat) :
    (s.storeSegment l cells).store = s.store := by
  unfold State.storeSegment State.extendSlot
  split <;> rfl

/-! ### An open frame given up (R126) -/

theorem State.discardOpen_drains (s : State) (v : InputNo) : s.store.Drains (s.discardOpen v).store := by
  unfold State.discardOpen
  split
  · rw [State.checkRunEnd_store, State.setInput_store]
    exact .single (.rest v rfl)
  · exact .refl

theorem State.giveBackInput_drains (s : State) (v : InputNo) : s.store.Drains (s.giveBackInput v).store := by
  have hs : (s.setInput v { s.input v with
      mode := (s.input v).savedMode.getD (s.input v).mode, savedMode := none }).store = s.store :=
    State.setInput_store_of_front rfl
  unfold State.giveBackInput
  simp only []
  split
  · exact hs ▸ State.discardOpen_drains _ v
  · exact .of_eq hs

theorem State.setMode_drains (s : State) (v : InputNo) (m : InputMode) (mask : ZoneSet) :
    s.store.Drains (s.setMode v m mask).store := by
  have hs : (s.setInput v { s.input v with mode := m, mask := mask, run := none }).store = s.store :=
    State.setInput_store_of_front rfl
  unfold State.setMode
  simp only []
  split
  · exact hs ▸ State.discardOpen_drains _ v
  · exact .of_eq hs

theorem State.unbind_drains (s : State) (v : InputNo) : s.store.Drains (s.unbind v).store := by
  have hs : (s.setInput v { s.input v with verify := none }).store = s.store := State.setInput_store_of_front rfl
  exact hs ▸ State.giveBackInput_drains _ v

/-! ### Ends of jobs and of learns -/

theorem State.abandonVerify_drains (s : State) (id : Nat) (v : InputNo) (r : VerifyRecord) :
    s.store.Drains (s.abandonVerify id v r).store :=
  State.unbind_drains (s.updateJob id _) v

theorem State.giveVerdict_drains (s : State) (v : InputNo) (r : VerifyRecord) : s.store.Drains (s.giveVerdict v r).store := by
  rw [State.giveVerdict, State.finishJob_store]
  exact State.unbind_drains (s.updateJob r.job _) v

theorem State.checkSettled_drains (s : State) (v : InputNo) : s.store.Drains (s.checkSettled v).store := by
  unfold State.checkSettled
  split
  · exact .refl
  · split
    · exact s.giveVerdict_drains v _
    · exact .refl

theorem State.endJob_drains (s : State) (id : Nat) (reason : EndReason) : s.store.Drains (s.endJob id reason).store := by
  unfold State.endJob
  split
  · exact .refl
  · rename_i j _
    have hs : (((s.leaveZones id).releaseGenerator j.generator).updateJob id fun k => k.stopped reason s.now).store =
        s.store := State.store_congr (by simp) (by simp)
    simp only []
    split
    · split
      · exact .since (State.checkSettled_drains _ _) hs
      · rw [State.finishJob_store]
        exact .since (State.abandonVerify_drains ..) hs
    · exact .of_eq (by rw [State.finishJob_store, hs])

theorem State.endThenArbitrate_drains (s : State) (id : Nat) (reason : EndReason) :
    s.store.Drains (s.endJob id reason).runArbiter.store := by
  rw [State.runArbiter_store]
  exact s.endJob_drains id reason

theorem State.lapseKeep_drains (s : State) (j : Job) : s.store.Drains (s.lapseKeep j).store := by
  unfold State.lapseKeep
  split
  · exact s.endThenArbitrate_drains _ _
  all_goals exact .of_eq rfl

theorem State.reachHoldLimit_store (s : State) (j : Job) : (s.reachHoldLimit j).store = s.store := by
  unfold State.reachHoldLimit
  split <;> rfl

theorem State.cancelJob_drains (s : State) (j : Job) : s.store.Drains (s.cancelJob j).store := by
  have hcut : s.store.Drains ((s.cutFrame j).endJob j.id .cancelled).store :=
    s.cutFrame_store j ▸ (s.cutFrame j).endJob_drains j.id .cancelled
  unfold State.cancelJob
  cases j.state with
  | waiting => exact s.endJob_drains _ _
  | running | draining => exact hcut
  | settling =>
    unfold State.abandonSettling
    simp only []
    split
    · rw [State.finishJob_store]
      exact s.abandonVerify_drains ..
    · exact .of_eq (s.finishJob_store _)

theorem State.disableZones_drains (s : State) (zs : ZoneSet) : s.store.Drains (s.disableZones zs).store := by
  rw [State.disableZones, State.turnOff_store]
  refine foldl_drains (fun u j => ?_) _ s
  exact u.cutFrame_store j ▸ (u.cutFrame j).endJob_drains j.id .zoneDisabled

theorem State.admitJob_drains (s : State) (r : EmitRequest) : s.store.Drains (s.admitJob r).store := by
  have hraise : (s.raiseReference r.slot).store = s.store := by
    unfold State.raiseReference
    split <;> rfl
  have hmark : ∀ (u : State) (j : Job), u.store.Drains (u.markFor j).store := by
    intro u j
    unfold State.markFor
    split
    · refine foldl_drains (fun t k => ?_) _ u
      unfold State.markJob
      simp only []
      split
      · exact .since (State.endJob_drains _ _ _) rfl
      · exact .refl
    · exact .refl
  exact .since (hmark _ _) hraise

theorem State.decideBoundary_drains (s : State) (j : Job) (h : Header) : s.store.Drains (s.decideBoundary j h).store := by
  unfold State.decideBoundary
  split
  · exact s.endThenArbitrate_drains _ _
  · split
    · exact s.endThenArbitrate_drains _ _
    · split <;> exact .refl

theorem State.checkPause_drains (s : State) (id : Nat) : s.store.Drains (s.checkPause id).store := by
  unfold State.checkPause
  split
  · split
    · split
      · exact State.decideBoundary_drains (s.updateJob _ _) _ _
      · exact .refl
    · exact .refl
  · exact .refl

theorem State.endLearn_drains (s : State) (c : LearnContext) (result : LearnResult) (lead rep : Nat) :
    s.store.Drains (s.endLearn c result lead rep).store := by
  unfold State.endLearn
  simp only []
  refine .since (State.giveBackInput_drains _ _) ?_
  split <;> rfl

theorem State.buildLearned_drains (s : State) (c : LearnContext) : s.store.Drains (s.buildLearned c).store := by
  unfold State.buildLearned
  simp only []
  split
  · split
    · exact .since (State.endLearn_drains ..) rfl
    all_goals exact s.endLearn_drains ..
  · exact s.endLearn_drains ..

theorem State.offerLearner_drains (s : State) (f : CapturedFrame) : s.store.Drains (s.offerLearner f).store := by
  unfold State.offerLearner State.learnFrame
  split
  · exact .refl
  · split
    · split
      · exact s.endLearn_drains ..
      · split
        · exact s.endLearn_drains ..
        · simp only []
          split
          · exact .since (State.buildLearned_drains _ _) rfl
          · exact .refl
    · exact .refl

theorem State.eraseSlot_drains (s : State) (i : SlotNo) : s.store.Drains (s.eraseSlot i).store := by
  unfold State.eraseSlot
  split
  · exact .refl
  · exact .of_eq (s.abandonLoad_store i)
  · unfold State.eraseLearning
    split
    · split
      · exact s.endLearn_drains ..
      · exact .refl
    · exact .refl
  · split <;> exact .refl
  · exact .refl

/-! ### The capture queue -/

@[simp] theorem State.offerVerifier_store (s : State) (f : CapturedFrame) : (s.offerVerifier f).store = s.store := by
  unfold State.offerVerifier
  repeat' split
  all_goals simp [State.verifyFrame]

theorem State.recognize_store {s t : State} {f : CapturedFrame} (h : s.recognize f = some t) : t.store = s.store := by
  unfold State.recognize at h
  split at h <;> simp only [] at h <;> split at h <;> cases h <;> simp

theorem State.forwardRaw_store {s t : State} {f : CapturedFrame} (h : s.forwardRaw f = some t) : t.store = s.store := by
  unfold State.forwardRaw at h
  split at h <;> cases h
  simp

theorem State.consume_drains {s t : State} {f : CapturedFrame} (h : s.consume f = some t) : s.store.Drains t.store := by
  unfold State.consume at h
  split at h
  · exact .of_eq (State.recognize_store h)
  · exact .of_eq (State.forwardRaw_store h)
  · cases h
    exact s.offerLearner_drains f
  · cases h
    exact .of_eq (s.offerVerifier_store f)

theorem State.leaveQueue_drains (s : State) (f : CapturedFrame) : s.store.Drains (s.leaveQueue f).store := by
  have hs : s.store.Drains ((s.setCaptures s.captures.tail).checkRunEnd f.input).store := by
    rw [State.checkRunEnd_store]
    exact .single .leave
  unfold State.leaveQueue
  simp only []
  split
  · exact hs.trans (State.checkSettled_drains _ _)
  all_goals exact hs

theorem State.tryHead_drains {s t : State} (h : s.tryHead = some t) : s.store.Drains t.store := by
  unfold State.tryHead at h
  split at h
  · cases h
  · obtain ⟨u, hu, rfl⟩ := Option.map_eq_some_iff.mp h
    exact (State.consume_drains hu).trans (u.leaveQueue_drains _)

theorem tryHeads_drains (n : Nat) (s : State) : s.store.Drains (tryHeads n s).store := by
  induction n generalizing s with
  | zero => exact .refl
  | succ n ih =>
    unfold tryHeads
    split
    · exact (State.tryHead_drains ‹_›).trans (ih _)
    · exact .refl

theorem State.dispatch_drains (s : State) : s.store.Drains s.dispatch.store := by
  rw [State.dispatch, State.arbiterAfter_store]
  exact tryHeads_drains _ s

theorem State.retryProducers_drains (s : State) : s.store.Drains s.retryProducers.store := by
  simpa [State.retryProducers] using s.dispatch_drains

theorem State.recheckProducers_drains (s : State) : s.store.Drains s.recheckProducers.store := by
  simpa [State.recheckProducers] using s.dispatch_drains

/-! ### The capture engines -/

/-- A drop leaves the engine of its input DISCARDING, whatever it held (R133). -/
theorem State.noteDrop_store (s : State) (v : InputNo) (reason : DropReason) :
    (s.noteDrop v reason).store = s.store.setEngine v (.discarding (s.endGap v)) := by
  unfold State.noteDrop
  simp only []
  split
  · exact State.setInput_store ..
  · exact (State.produce_store ..).trans (State.setInput_store ..)

theorem State.dropOpen_drains (s : State) (v : InputNo) :
    (s.store.setEngine v (.discarding (s.endGap v))).Drains (s.dropOpen v).store := by
  have hs : ((s.noteDrop v .bufferFull).checkRunEnd v).store = s.store.setEngine v (.discarding (s.endGap v)) := by
    rw [State.checkRunEnd_store, State.noteDrop_store]
  rw [State.dropOpen, State.arbiterAfter_store]
  exact hs ▸ State.checkSettled_drains _ v

/-- A frame that closes leaves its engine, and joins the queue when the mode gives it a consumer (R129). -/
theorem State.closeFrame_drains (s : State) (v : InputNo) (f : OpenFrame) (flags : FrameFlags) (after : Engine) :
    (s.closeFrame v f flags after).store = s.store.setEngine v after ∨
      ∃ g : CapturedFrame, g.cells = f.cells ∧
        ((s.store.setEngine v after).push g).Drains (s.closeFrame v f flags after).store := by
  unfold State.closeFrame
  simp only []
  split
  · exact .inl (State.setInput_store ..)
  · rename_i c _
    refine .inr ⟨f.close v flags c, rfl, ?_⟩
    generalize hs : (s.setInput v _).setCaptures (s.captures ++ [f.close v flags c]) = u
    have hu : u.store = (s.store.setEngine v after).push (f.close v flags c) := by
      rw [← hs, State.setCaptures_store, State.setInput_store]
      rfl
    split
    · exact hu ▸ u.dispatch_drains
    · exact .of_eq hu

section Change

variable {s : State} {v : InputNo} {r : RxInput}

/-- An engine replaced in an input record that has just been written. -/
theorem State.setInput_setEngine (s : State) (v : InputNo) (r : RxInput) (e : Engine) :
    (s.setInput v r).store.setEngine v e = s.store.setFront v { r.front with engine := e } := by
  rw [State.setInput_store, Store.setFront_setEngine]

/-- A record with the engine that the input had leaves what is in use of the store (R132). -/
theorem State.setInput_used (he : r.engine = (s.input v).engine) :
    (s.setInput v r).cellsUsed = s.cellsUsed ∧ (s.setInput v r).entriesUsed = s.entriesUsed := by
  have hc := s.store.cells_setFront v r.front
  have hn := s.store.entries_setFront v r.front
  have hengine : r.front.engine = (s.store.front v).engine := he
  rw [← State.setInput_store, hengine] at hc hn
  exact ⟨Nat.add_right_cancel hc, Nat.add_right_cancel hn⟩

/-- The accepted level of an input changes while its frame is open: the cell in progress is stored, and the frame stays open,
closes TRUNCATED, or is dropped (R128, R129). -/
theorem State.storeCell_stores {f : OpenFrame} (hf : (s.input v).engine = .inFrame f)
    (hl : r.accepted = otherLevel (s.input v).accepted) (he : r.engine = (s.input v).engine) (d : Nat) :
    s.store.Moves ((s.setInput v r).storeCell v f d).store := by
  obtain ⟨hcells, -⟩ := State.setInput_used he
  unfold State.storeCell
  simp only []
  split
  · rename_i hroom
    have hroom : s.cellsUsed < 2048 := hcells ▸ hroom
    split
    · rename_i hshort
      have hshort : f.cells.length + 1 < 511 := by
        simpa [Config.capturedCells] using hshort
      rw [State.setInput_setInput, State.input_setInput_self, State.setInput_store]
      exact .single (.grow d hf hroom hshort hl rfl)
    · rename_i hfull
      have hfull : 511 ≤ f.cells.length + 1 := by
        simpa [Config.capturedCells] using hfull
      obtain h | ⟨g, hg, h⟩ := (s.setInput v r).closeFrame_drains v (f.store d)
        { truncated := true, stuck := false, longMark := (f.store d).longMark } (.discarding ((s.setInput v r).endGap v))
      · rw [h, State.setInput_setEngine]
        exact .single (.change v rfl)
      · rw [State.setInput_setEngine] at h
        exact .head (.closeWith d hf hroom (.inr hfull) rfl hg) h.moves
  · have h := (s.setInput v r).dropOpen_drains v
    rw [State.setInput_setEngine] at h
    exact .head (.change v rfl) h.moves

/-- An accepted mark start in QUIET: nothing but a frame that opens takes of the store (R127). -/
theorem State.markStart_stores (hq : (s.input v).engine = .quiet) (hl : r.accepted = .mark)
    (he : r.engine = (s.input v).engine) (edge : Nat) : s.store.Moves ((s.setInput v r).markStart v edge).store := by
  obtain ⟨-, hentries⟩ := State.setInput_used he
  unfold State.markStart
  simp only [State.input_setInput_self]
  split
  · rw [State.setInput_store]
    exact .single (.change v (congrArg Engine.isInFrame (he.trans hq)))
  · split
    · rw [State.setInput_setInput, State.setInput_store]
      exact .single (.change v rfl)
    · split
      · rw [State.noteDrop_store, State.setInput_setEngine]
        exact .single (.change v rfl)
      · rename_i hroom
        split
        · rw [State.noteDrop_store, State.setInput_setEngine]
          exact .single (.change v rfl)
        · have hroom : s.entriesUsed < 8 := hentries ▸ not_le.mp hroom
          unfold State.openFrame
          simp only [State.input_setInput_self]
          rw [State.setInput_setInput, State.setInput_store]
          exact .single (.start (congrArg Engine.isInFrame hq) hroom rfl hl rfl)

end Change

theorem State.acceptChange_stores (s : State) (v : InputNo) (edge : Nat) :
    s.store.Moves (s.acceptChange v edge).store := by
  have hrest : (s.input v).engine.isInFrame = false → s.store.Moves (s.setInput v ((s.input v).change edge)).store := by
    intro hrests
    rw [State.setInput_store]
    exact .single (.change v hrests)
  unfold State.acceptChange
  simp only []
  split
  · rename_i hq
    split
    · rename_i hspace
      exact State.markStart_stores (r := (s.input v).change edge) hq (congrArg otherLevel hspace) rfl edge
    · exact hrest (congrArg Engine.isInFrame hq)
  · rename_i f hf
    exact State.storeCell_stores (r := (s.input v).change edge) hf rfl rfl _
  · rename_i gap hd
    exact hrest (congrArg Engine.isInFrame hd)

theorem State.closeAtEndGap_stores (s : State) (v : InputNo) : s.store.Moves (s.closeAtEndGap v).store := by
  unfold State.closeAtEndGap
  split
  · rename_i f hf
    split
    · rename_i hlasted
      obtain ⟨-, hspace, -⟩ := State.lasted_iff.mp hlasted
      obtain h | ⟨g, hg, h⟩ := s.closeFrame_drains v f { truncated := false, stuck := false, longMark := f.longMark } .quiet
      · rw [h]
        exact .single (.change v rfl)
      · exact .head (.close hf hspace rfl hg) h.moves
    · exact .refl
  · exact .refl
  · exact .refl

theorem State.closeStuck_stores (s : State) (v : InputNo) : s.store.Moves (s.closeStuck v).store := by
  unfold State.closeStuck
  split
  · rename_i f hf
    split
    · rename_i hlasted
      obtain ⟨-, hmark, -⟩ := State.lasted_iff.mp hlasted
      split
      · rename_i hroom
        obtain h | ⟨g, hg, h⟩ := s.closeFrame_drains v { f with cells := f.cells ++ [65535], longMark := true }
          { truncated := false, stuck := true, longMark := true } (.discarding (s.endGap v))
        · rw [h]
          exact .single (.change v rfl)
        · exact .head (.closeWith 65535 hf hroom (.inl hmark) rfl hg) h.moves
      · exact .head (.change v rfl) (s.dropOpen_drains v).moves
    · exact .refl
  · exact .refl
  · exact .refl

theorem State.endDiscard_stores (s : State) (v : InputNo) : s.store.Moves (s.endDiscard v).store := by
  unfold State.endDiscard
  split
  · split
    · rw [State.setInput_store]
      exact .single (.change v rfl)
    · exact .refl
  · exact .refl
  · exact .refl

theorem State.takeWaitingClosing_stores (s : State) (v : InputNo) : s.store.Moves (s.takeWaitingClosing v).store := by
  unfold State.takeWaitingClosing
  split
  · split
    · exact s.closeAtEndGap_stores v
    · exact s.closeStuck_stores v
  · exact s.endDiscard_stores v
  · exact .refl

theorem State.acceptDue_stores (s : State) (v : InputNo) : s.store.Moves (s.acceptDue v).store := by
  unfold State.acceptDue
  split
  · split
    · exact s.acceptChange_stores ..
    · exact .refl
  · exact .refl

theorem State.rawEdge_stores (s : State) (v : InputNo) (level : Level) : s.store.Moves (s.rawEdge v level).store := by
  have hs : ∀ trial, s.store.Move (s.setInput v { s.input v with raw := level, trial := trial }).store := by
    intro trial
    rw [State.setInput_store]
    exact .edge v rfl rfl
  unfold State.rawEdge
  simp only []
  split
  · exact .head (hs _) (State.takeWaitingClosing_stores ..)
  · exact .head (hs _) (State.acceptDue_stores ..)

end Sys2Proof.Machine
end

section
/-! PROOFS. Every command is a run of moves of the capture store, and so is every step; and the statement about its bounds. -/

namespace Sys2Proof.Machine

/-! ### The command interpreter -/

@[simp] theorem State.popCommand_store (s : State) : s.popCommand.store = s.store := rfl
@[simp] theorem State.sendFrame_store (s : State) (f : OutFrame) : (s.sendFrame f).store = s.store := rfl

/-- Creating and recording a reply, and a run of the arbiter, leave the store (R166). -/
@[simp] theorem State.finish_store (a : Answer) (c : CommandFrame) : (State.finish a c).store = a.state.store := by
  have hrecord : ∀ u : State, (if a.record then u.setReplay (some
      { tag := c.tag, crc := c.crc, reply := c.replyFrame a.reply }) else u).store = u.store := fun u => by
    split <;> rfl
  unfold State.finish
  simp only []
  split
  · rw [State.runArbiter_store, hrecord, State.sendFrame_store]
  · rw [hrecord, State.sendFrame_store]

theorem State.takeCommand_stores {i : Instr} {form : List Byte → Bool} {act : List Byte → State → Answer}
    (h : ∀ (p : List Byte) (u : State), u.store.Moves (act p u).state.store) (s : State) :
    s.store.Moves (s.takeCommand i form act).store := by
  unfold State.takeCommand
  split
  · exact .refl
  · rename_i c _ _
    split
    · unfold State.interpret
      split
      · exact .refl
      · rw [State.finish_store]
        split
        · exact h c.payload s.popCommand
        · exact .refl
    · exact .refl

/-! ### Commands that leave the store -/

theorem actCodeOpen_store (p : List Byte) (s : State) : (actCodeOpen p s).state.store = s.store := by
  unfold actCodeOpen
  repeat' split
  all_goals rfl

theorem actCodeData_store (p : List Byte) (s : State) : (actCodeData p s).state.store = s.store := by
  unfold actCodeData
  simp only []
  repeat' split
  all_goals simp

theorem actCodeClose_store (p : List Byte) (s : State) : (actCodeClose p s).state.store = s.store := by
  unfold actCodeClose
  repeat' split
  all_goals simp

theorem actCodeAmend_store (p : List Byte) (s : State) : (actCodeAmend p s).state.store = s.store := by
  unfold actCodeAmend
  repeat' split
  all_goals rfl

theorem actCodeInfo_store (p : List Byte) (s : State) : (actCodeInfo p s).state.store = s.store := by
  unfold actCodeInfo
  split <;> rfl

theorem actCodeRead_store (p : List Byte) (s : State) : (actCodeRead p s).state.store = s.store := by
  unfold actCodeRead
  simp only []
  repeat' split
  all_goals rfl

theorem actGetParam_store (p : List Byte) (s : State) : (actGetParam p s).state.store = s.store := by
  unfold actGetParam
  split <;> rfl

theorem actJobKeep_store (p : List Byte) (s : State) : (actJobKeep p s).state.store = s.store := by
  unfold actJobKeep
  repeat' split
  all_goals rfl

theorem actJobRelease_store (p : List Byte) (s : State) : (actJobRelease p s).state.store = s.store := by
  unfold actJobRelease
  repeat' split
  all_goals rfl

theorem actJobInfo_store (p : List Byte) (s : State) : (actJobInfo p s).state.store = s.store := by
  unfold actJobInfo
  split <;> rfl

theorem actZoneEnable_store (p : List Byte) (s : State) : (actZoneEnable p s).state.store = s.store := by
  unfold actZoneEnable
  simp only []
  repeat' split
  all_goals simp

theorem actZoneInfo_store (p : List Byte) (s : State) : (actZoneInfo p s).state.store = s.store := by
  unfold actZoneInfo
  split <;> rfl

theorem actDerateSet_store (p : List Byte) (s : State) : (actDerateSet p s).state.store = s.store := by
  unfold actDerateSet
  repeat' split
  all_goals rfl

theorem actDerateGet_store (p : List Byte) (s : State) : (actDerateGet p s).state.store = s.store := by
  unfold actDerateGet
  split <;> rfl

theorem actInputInfo_store (p : List Byte) (s : State) : (actInputInfo p s).state.store = s.store := by
  unfold actInputInfo
  split <;> rfl

theorem actLearn_store (p : List Byte) (s : State) : (actLearn p s).state.store = s.store := by
  unfold actLearn
  split
  · unfold State.learnOn
    simp only []
    repeat' split
    all_goals simp [State.startLearn]
  · rfl

/-! ### Commands that may give up an open frame, or free the capture queue -/

theorem actCodeErase_drains (p : List Byte) (s : State) : s.store.Drains (actCodeErase p s).state.store := by
  unfold actCodeErase
  split
  · exact .refl
  · exact s.eraseSlot_drains _

theorem actEmit_drains (p : List Byte) (s : State) : s.store.Drains (actEmit p s).state.store := by
  have hlast : ∀ (r : EmitRequest) (c : Code), s.store.Drains (s.emitLast r c).state.store := by
    intro r c
    have hadmit : s.store.Drains
        (if s.jobs.length < Config.jobPlaces then
          (s.admitJob r).answerThenArbitrate (reply .ok (u8 (s.newJob r).id ++ u8 (s.admitJob r).jobs.length))
        else s.refuse .queueFull (u8 r.slot.val ++ u8 s.jobs.length)).state.store := by
      split
      · exact s.admitJob_drains r
      · exact .refl
    unfold State.emitLast
    simp only []
    split
    · exact hadmit
    · split
      · exact .refl
      · split
        · exact .refl
        · exact hadmit
  unfold actEmit
  split
  · exact .refl
  · split
    · unfold State.emitOn
      split
      · exact .refl
      · split
        · exact .refl
        · split
          · exact .refl
          · split
            · exact .refl
            · exact hlast _ _
    all_goals exact .refl

theorem actJobCancel_drains (p : List Byte) (s : State) : s.store.Drains (actJobCancel p s).state.store := by
  unfold actJobCancel
  split
  · exact .refl
  · exact s.cancelJob_drains _

theorem actZoneDisable_drains (p : List Byte) (s : State) : s.store.Drains (actZoneDisable p s).state.store := by
  unfold actZoneDisable
  simp only []
  split
  · exact .refl
  · exact s.disableZones_drains _

theorem actInputMode_drains (p : List Byte) (s : State) : s.store.Drains (actInputMode p s).state.store := by
  unfold actInputMode
  split
  · exact .refl
  · split
    · exact .refl
    · simp only []
      split
      · exact .refl
      · exact s.setMode_drains _ _ _

theorem actLearnCancel_drains (p : List Byte) (s : State) : s.store.Drains (actLearnCancel p s).state.store := by
  unfold actLearnCancel
  split
  · exact .refl
  · exact s.endLearn_drains ..

theorem actSetParam_drains (p : List Byte) (s : State) : s.store.Drains (actSetParam p s).state.store := by
  have hparam : ∀ (q : ParamId) (n : Nat), s.store.Drains (s.storeParam q n).store := by
    intro q n
    unfold State.storeParam State.afterParam
    split
    · exact .of_eq (by simp)
    · split
      · exact .since (State.dispatch_drains _) rfl
      · exact .refl
  unfold actSetParam
  split
  · exact .refl
  · split
    · exact hparam _ _
    · exact .refl

theorem actReportSelect_drains (p : List Byte) (s : State) : s.store.Drains (actReportSelect p s).state.store := by
  unfold actReportSelect
  simp only []
  split
  · exact .since (State.recheckProducers_drains _) rfl
  · exact .refl

theorem actRestartLink_drains (p : List Byte) (s : State) : s.store.Drains (actRestartLink p s).state.store := by
  unfold actRestartLink
  split
  · exact .since (State.retryProducers_drains _) rfl
  · exact .refl

theorem emptiedEngine_rests (l : Level) (gap : Nat) : (emptiedEngine l gap).isInFrame = false := by
  cases l <;> rfl

theorem actRestartActivity_stores (p : List Byte) (s : State) : s.store.Moves (actRestartActivity p s).state.store := by
  refine .single (.clear s.restartActivity_captures fun v => ?_)
  change (s.restartActivity.input v).engine.isInFrame = false
  rw [State.restartActivity_input]
  exact emptiedEngine_rests _ _

theorem actRestartFull_stores (p : List Byte) (s : State) : s.store.Moves (actRestartFull p s).state.store := by
  refine .single (.clear s.restartFull_captures fun v => ?_)
  change (s.restartFull.input v).engine.isInFrame = false
  rw [State.restartFull_input]
  exact emptiedEngine_rests _ _

theorem State.powered_stores (S : Store) (straps : BitVec 2) (a b : Level) (cause : Byte) (draw : Nat)
    (pending : List Instr) : S.Moves (State.powered straps a b cause draw pending).store := by
  refine .single (.clear rfl fun v => ?_)
  rw [State.store_front, State.powered_input]
  exact emptiedEngine_rests _ _

/-! ### Receiving -/

theorem State.acknowledge_drains (s : State) (tag : Byte) : s.store.Drains (s.acknowledge tag).store := by
  unfold State.acknowledge
  split
  · exact .since (State.retryProducers_drains _) rfl
  · exact .refl

theorem State.checkFrame_drains (s : State) (len kind tag type : Byte) (payload : List Byte) (crc : Word16) :
    s.store.Drains (s.checkFrame len kind tag type payload crc).store := by
  unfold State.checkFrame State.admitCommand
  split
  · exact .of_eq (s.linkError_store ..)
  · split
    · exact s.acknowledge_drains tag
    · split
      · split
        · exact .refl
        · exact .of_eq (s.endHeld.linkError_store ..)
      · exact .of_eq (s.endHeld.linkError_store ..)

theorem State.frameByte_drains (s : State) (b : Byte) : s.store.Drains (s.frameByte b).store := by
  unfold State.frameByte
  split
  · split <;> exact .refl
  · split
    · exact .refl
    · exact .of_eq (State.linkError_store ..)
  · split <;> exact .refl
  · exact .refl
  · unfold State.checkBytes
    split
    · exact .since (State.checkFrame_drains ..) rfl
    all_goals exact .refl

theorem State.discardPartial_store (s : State) : s.discardPartial.store = s.store :=
  State.linkError_store ..

theorem State.receiveByte_drains (s : State) (b : Byte) : s.store.Drains (s.receiveByte b).store := by
  have hs : (if s.gapPassed then s.discardPartial else s).store = s.store := by
    split
    · exact s.discardPartial_store
    · rfl
  exact .since (State.frameByte_drains _ b) hs

/-! ### Timers, and the events of jobs and inputs -/

theorem execLoadIdleTimerExpiry_drains (s : State) :
    ∃ t, execLoadIdleTimerExpiry s = .next t ∧ s.store.Drains t.store := by
  refine ⟨_, rfl, ?_⟩
  split
  · split
    · exact .of_eq (s.abandonLoad_store _)
    · exact .refl
  · exact .refl

theorem execKeepTimerExpiry_drains (id : Nat) (s : State) :
    ∃ t, execKeepTimerExpiry id s = .next t ∧ s.store.Drains t.store := by
  refine ⟨_, rfl, ?_⟩
  split
  · split
    · exact s.lapseKeep_drains _
    · exact .refl
  · exact .refl

theorem execHoldLimitExpiry_drains (id : Nat) (s : State) :
    ∃ t, execHoldLimitExpiry id s = .next t ∧ s.store.Drains t.store := by
  refine ⟨_, rfl, ?_⟩
  split
  · split
    · exact .of_eq (s.reachHoldLimit_store _)
    · exact .refl
  · exact .refl

theorem execPauseLimitExpiry_drains (id : Nat) (s : State) :
    ∃ t, execPauseLimitExpiry id s = .next t ∧ s.store.Drains t.store := by
  refine ⟨_, rfl, ?_⟩
  split
  · split
    · exact s.endThenArbitrate_drains _ _
    · exact .refl
  · exact .refl

theorem execGuardExpiry_drains (z : ZoneNo) (s : State) :
    ∃ t, execGuardExpiry z s = .next t ∧ s.store.Drains t.store := by
  refine ⟨_, rfl, ?_⟩
  split
  · split
    · exact .of_eq (by simp)
    · exact .refl
  all_goals exact .refl

theorem execJobStart_drains (id : Nat) (s : State) : ∃ t, execJobStart id s = .next t ∧ s.store.Drains t.store := by
  refine ⟨_, rfl, ?_⟩
  split
  · split
    · exact .of_eq (s.startJob_store ..)
    · exact .refl
  · exact .refl

theorem execCellEnd_drains (id : Nat) (s : State) : ∃ t, execCellEnd id s = .next t ∧ s.store.Drains t.store := by
  refine ⟨_, rfl, .of_eq ?_⟩
  repeat' split
  all_goals simp

theorem execFrameBoundary_drains (id : Nat) (s : State) :
    ∃ t, execFrameBoundary id s = .next t ∧ s.store.Drains t.store := by
  refine ⟨_, rfl, ?_⟩
  split
  · exact .refl
  · split
    · split
      · split
        · exact .since (State.decideBoundary_drains ..) rfl
        · exact .refl
      all_goals exact .refl
    · exact .refl

theorem execCodeRetired_drains (i : SlotNo) (s : State) :
    ∃ t, execCodeRetired i s = .next t ∧ s.store.Drains t.store := by
  refine ⟨_, rfl, .of_eq ?_⟩
  split
  · split <;> rfl
  all_goals rfl

theorem execDecayStep_drains (z : ZoneNo) (s : State) : ∃ t, execDecayStep z s = .next t ∧ s.store.Drains t.store := by
  refine ⟨_, rfl, ?_⟩
  split
  · split
    · exact .since (State.checkPause_drains ..) (s.decay_store z)
    all_goals exact .of_eq (s.decay_store z)
  · exact .refl

theorem execRxRawEdge_stores (v : InputNo) (level : Level) (s : State) :
    ∃ t, execRxRawEdge v level s = .next t ∧ s.store.Moves t.store := by
  refine ⟨_, rfl, ?_⟩
  split
  · exact .refl
  · exact (s.acceptDue_stores v).trans (State.rawEdge_stores _ v level)

theorem execLearnDeadline_drains (s : State) : ∃ t, execLearnDeadline s = .next t ∧ s.store.Drains t.store := by
  refine ⟨_, rfl, ?_⟩
  split
  · split
    · exact s.endLearn_drains ..
    · exact .refl
  · exact .refl

theorem execRepeatWindowElapse_drains (v : InputNo) (s : State) :
    ∃ t, execRepeatWindowElapse v s = .next t ∧ s.store.Drains t.store := by
  refine ⟨_, rfl, .of_eq ?_⟩
  split
  · split <;> simp
  · rfl

theorem execHrxByte_drains (b : Byte) (stopHigh : Bool) (s : State) :
    ∃ t, execHrxByte b stopHigh s = .next t ∧ s.store.Drains t.store := by
  refine ⟨_, rfl, ?_⟩
  split
  · exact s.receiveByte_drains b
  · exact .refl

/-! ### Every command, and every step -/

/-- A command answers a next state that its effect leads to. -/
theorem next_of_act {i : Instr} {form : List Byte → Bool} {act : List Byte → State → Answer} (s : State)
    (h : ∀ (p : List Byte) (u : State), u.store.Moves (act p u).state.store) :
    ∃ t, Host.Outcome.next (s.takeCommand i form act) = (.next t : Host.Outcome State Fault Refusal) ∧
      s.store.Moves t.store :=
  ⟨_, rfl, State.takeCommand_stores h s⟩

/-- A command that opens, grows and closes no frame. -/
theorem next_of_draining_act {i : Instr} {form : List Byte → Bool} {act : List Byte → State → Answer} (s : State)
    (h : ∀ (p : List Byte) (u : State), u.store.Drains (act p u).state.store) :
    ∃ t, Host.Outcome.next (s.takeCommand i form act) = (.next t : Host.Outcome State Fault Refusal) ∧
      s.store.Moves t.store :=
  next_of_act s fun p u => (h p u).moves

/-- A command that leaves the store. -/
theorem next_of_inquiry {i : Instr} {form : List Byte → Bool} {act : List Byte → State → Answer} (s : State)
    (h : ∀ (p : List Byte) (u : State), (act p u).state.store = u.store) :
    ∃ t, Host.Outcome.next (s.takeCommand i form act) = (.next t : Host.Outcome State Fault Refusal) ∧
      s.store.Moves t.store :=
  next_of_act s fun p u => .of_eq (h p u)

/-- An event that opens, grows and closes no frame. -/
theorem next_of_draining {s : State} {o : Host.Outcome State Fault Refusal}
    (h : ∃ t, o = .next t ∧ s.store.Drains t.store) : ∃ t, o = .next t ∧ s.store.Moves t.store :=
  h.imp fun _ ht => ⟨ht.1, ht.2.moves⟩

/-- Every command answers a next state, to whose store a run of moves leads. -/
theorem exec_stores (i : Instr) (s : State) : ∃ t, exec i s = .next t ∧ s.store.Moves t.store := by
  cases i with
  | powerOn straps a b => exact ⟨_, rfl, State.powered_stores ..⟩
  | resetPin straps a b => exact ⟨_, rfl, State.powered_stores ..⟩
  | messageFrame f => exact ⟨_, rfl, (foldl_drains State.receiveByte_drains _ s).moves⟩
  | byteTimeout =>
    refine ⟨_, rfl, ?_⟩
    split
    · exact .of_eq s.discardPartial_store
    · exact .refl
  | badMessage => exact next_of_inquiry s fun _ _ => rfl
  | identify => exact next_of_inquiry s fun _ _ => rfl
  | time => exact next_of_inquiry s fun _ _ => rfl
  | setParam => exact next_of_draining_act s actSetParam_drains
  | getParam => exact next_of_inquiry s actGetParam_store
  | reportSelect => exact next_of_draining_act s actReportSelect_drains
  | restartLink => exact next_of_draining_act s actRestartLink_drains
  | restartActivity => exact next_of_act s actRestartActivity_stores
  | restartFull => exact next_of_act s actRestartFull_stores
  | codeOpen => exact next_of_inquiry s actCodeOpen_store
  | codeData => exact next_of_inquiry s actCodeData_store
  | codeClose => exact next_of_inquiry s actCodeClose_store
  | codeErase => exact next_of_draining_act s actCodeErase_drains
  | codeAmend => exact next_of_inquiry s actCodeAmend_store
  | codeInfo => exact next_of_inquiry s actCodeInfo_store
  | codeRead => exact next_of_inquiry s actCodeRead_store
  | poolInfo => exact next_of_inquiry s fun _ _ => rfl
  | emit => exact next_of_draining_act s actEmit_drains
  | jobKeep => exact next_of_inquiry s actJobKeep_store
  | jobRelease => exact next_of_inquiry s actJobRelease_store
  | jobCancel => exact next_of_draining_act s actJobCancel_drains
  | jobInfo => exact next_of_inquiry s actJobInfo_store
  | jobList => exact next_of_inquiry s fun _ _ => rfl
  | zoneEnable => exact next_of_inquiry s actZoneEnable_store
  | zoneDisable => exact next_of_draining_act s actZoneDisable_drains
  | zoneInfo => exact next_of_inquiry s actZoneInfo_store
  | derateSet => exact next_of_inquiry s actDerateSet_store
  | derateGet => exact next_of_inquiry s actDerateGet_store
  | inputMode => exact next_of_draining_act s actInputMode_drains
  | inputInfo => exact next_of_inquiry s actInputInfo_store
  | learn => exact next_of_inquiry s actLearn_store
  | learnCancel => exact next_of_draining_act s actLearnCancel_drains
  | htxFrameSent => exact ⟨_, rfl, .of_eq (by split <;> rfl)⟩
  | reportSend => exact ⟨_, rfl, .of_eq (by split <;> rfl)⟩
  | ackTimerExpiry => exact ⟨_, rfl, .of_eq (by split <;> rfl)⟩
  | loadIdleTimerExpiry => exact next_of_draining (execLoadIdleTimerExpiry_drains s)
  | keepTimerExpiry id => exact next_of_draining (execKeepTimerExpiry_drains id s)
  | holdLimitExpiry id => exact next_of_draining (execHoldLimitExpiry_drains id s)
  | pauseLimitExpiry id => exact next_of_draining (execPauseLimitExpiry_drains id s)
  | guardExpiry z => exact next_of_draining (execGuardExpiry_drains z s)
  | jobStart id => exact next_of_draining (execJobStart_drains id s)
  | cellEnd id => exact next_of_draining (execCellEnd_drains id s)
  | frameBoundary id => exact next_of_draining (execFrameBoundary_drains id s)
  | codeRetired k => exact next_of_draining (execCodeRetired_drains k s)
  | decayStep z => exact next_of_draining (execDecayStep_drains z s)
  | pauseClear id => exact ⟨_, rfl, (s.checkPause_drains id).moves⟩
  | rxRawEdge v level => exact execRxRawEdge_stores v level s
  | acceptedChange v => exact ⟨_, rfl, s.acceptDue_stores v⟩
  | endGapClose v => exact ⟨_, rfl, s.closeAtEndGap_stores v⟩
  | stuckMark v => exact ⟨_, rfl, s.closeStuck_stores v⟩
  | discardEnd v => exact ⟨_, rfl, s.endDiscard_stores v⟩
  | captureDispatch => exact ⟨_, rfl, s.dispatch_drains.moves⟩
  | verifyVerdict v => exact ⟨_, rfl, (s.checkSettled_drains v).moves.trans (Store.Moves.of_eq (State.arbiterAfter_store _ s))⟩
  | learnDeadline => exact next_of_draining (execLearnDeadline_drains s)
  | repeatWindowElapse v => exact next_of_draining (execRepeatWindowElapse_drains v s)
  | rxRunEnd v => exact ⟨_, rfl, .of_eq (s.retryRunEnd_store v)⟩
  | hrxByte b stopHigh => exact next_of_draining (execHrxByte_drains b stopHigh s)

theorem exec_next_stores {i : Instr} {s t : State} (h : exec i s = .next t) : s.store.Moves t.store := by
  obtain ⟨u, hu, hmoves⟩ := exec_stores i s
  obtain rfl : u = t := Host.Outcome.next.inj (hu.symm.trans h)
  exact hmoves

/-- A happening is chosen in a state with the same store. -/
theorem State.chooseDue_store {s t : State} {i : Instr} (h : s.chooseDue = some (i, t)) : t.store = s.store := by
  unfold State.chooseDue at h
  split at h <;> cases h <;> rfl

/-- A step, of a command or of the part itself, is a run of moves of the store. -/
theorem step_stores {s t : State} (h : step s = .next t) : s.store.Moves t.store := by
  unfold step at h
  split at h
  · rename_i c rest _
    exact exec_next_stores (s := { s with pending := rest }) h
  · split at h
    · rename_i c s' hdue
      exact State.chooseDue_store hdue ▸ exec_next_stores h
    · obtain rfl := Host.Outcome.next.inj h
      exact .of_eq rfl

end Sys2Proof.Machine

/-! ### The statement about the capture store -/

section

open Sys2Proof Sys2Proof.Machine

/-- Settles O59: a step is a run of moves of the capture store, and every move keeps its bounds. -/
theorem stepKeepsCaptureBounded : Obligations.StepKeepsCaptureBounded := fun s t hs h =>
  t.captureBounded_iff.mpr ((step_stores h).keeps_bounded (s.captureBounded_iff.mp hs))

end
end

section
/-! PROOFS. The commands that set and read the mode of an input (R125, R126, R136). -/

namespace Sys2Proof.Machine

/-! ### Inputs and modes named by bytes -/

theorem inputOf_eq_none {n : Nat} (h : 1 < n) : inputOf n = none :=
  dif_neg (Nat.not_lt.mpr h)

theorem inputOf_eq_some {n : Nat} {v : InputNo} (h : v.val = n) : inputOf n = some v := by
  subst h
  exact dif_pos v.isLt

theorem inputModeOf_eq_none {n : Nat} (h : 2 < n) : inputModeOf n = none := by
  match n, h with
  | n + 3, _ => rfl

/-- The mode that a byte names, and the byte that names it (R126). -/
theorem inputModeOf_toNat {m : Byte} (h : m.toNat ≤ 2) {new : InputMode}
    (hnew : new = if m = 0#8 then .off else if m = 1#8 then .matching else .raw) :
    inputModeOf m.toNat = some new ∧ u8 new.code = [m] := by
  obtain rfl | rfl | rfl : m = 0#8 ∨ m = 1#8 ∨ m = 2#8 := by bv_omega
  all_goals subst hnew; exact ⟨rfl, rfl⟩

/-! ### INPUT_MODE (R126) -/

/-- With no run there is nothing to check. -/
theorem State.checkRunEnd_of_no_run {s : State} {v : InputNo} (h : (s.input v).run = none) : s.checkRunEnd v = s := by
  simp only [State.checkRunEnd, h]

/-- An accepted INPUT_MODE, in one piece: the run context is cleared first, so that the discard has none to check. -/
theorem State.setMode_eq (s : State) (v : InputNo) (m : InputMode) (mask : ZoneSet) :
    s.setMode v m mask =
      { s with
        inputs :=
          s.inputs.set v.val
            { s.input v with
              mode := m, mask := mask, run := none
              engine :=
                if m = .off ∧ (s.input v).engine.isInFrame = true then .discarding (s.endGap v)
                else (s.input v).engine } v.isLt } := by
  unfold State.setMode State.discardOpen
  simp only [State.input_setInput_self, State.setInput_setInput]
  by_cases hoff : m = .off
  · cases (s.input v).engine.isInFrame with
    | true =>
      simp only [hoff, if_true, and_self]
      rw [State.checkRunEnd_of_no_run (by rw [State.input_setInput_self])]
      rfl
    | false =>
      simp only [hoff, if_true, Bool.false_eq_true, and_false, if_false]
      rfl
  · simp only [hoff, false_and, if_false]
    rfl

section Command

variable {s : State} {c : CommandFrame} {b m k : Byte}

theorem exec_inputMode_range (h : s.takes c .inputMode) (hp : c.payload = [b, m, k])
    (hbad : 1 < b.toNat ∨ 2 < m.toNat) : exec .inputMode s = .next (s.answered c [0x02#8]) := by
  refine congrArg Host.Outcome.next (State.takeCommand_answers h hp rfl ?_)
  have hb : byteAt [b, m, k] 0 = b.toNat := rfl
  have hm : byteAt [b, m, k] 1 = m.toNat := rfl
  unfold actInputMode
  rw [hb, hm]
  obtain hb | hm := hbad
  · rw [inputOf_eq_none hb]
    rfl
  · rw [inputModeOf_eq_none hm]
    cases inputOf b.toNat <;> rfl

/-- INPUT_MODE of an input and a mode that exist, by whether the input is taken (R126). -/
theorem exec_inputMode_named (h : s.takes c .inputMode) (hp : c.payload = [b, m, k]) {v : InputNo} (hv : v.val = b.toNat)
    {new : InputMode} (hmode : inputModeOf m.toNat = some new) (hbyte : u8 new.code = [m]) :
    exec .inputMode s =
      .next
        (if (s.input v).mode.isTaken then s.answered c ([0x10#8, b] ++ u8 (s.input v).mode.code)
        else (s.popCommand.setMode v new k).replied c ([0x00#8, b, m, k] ++ u8 (s.input v).mode.code)) := by
  have hb : byteAt [b, m, k] 0 = b.toNat := rfl
  have hm : byteAt [b, m, k] 1 = m.toNat := rfl
  have hfield : u8 v.val = [b] := hv ▸ u8_toNat b
  have hact : actInputMode [b, m, k] s.popCommand =
      if (s.input v).mode.isTaken then s.popCommand.refuse .inputBusy ([b] ++ u8 (s.input v).mode.code)
      else (s.popCommand.setMode v new k).answer (reply .ok ([b] ++ [m] ++ [k] ++ u8 (s.input v).mode.code)) := by
    unfold actInputMode
    rw [hb, hm, inputOf_eq_some hv, hmode]
    simp only [hfield, hbyte]
    rfl
  split
  · rw [if_pos ‹_›] at hact
    exact congrArg Host.Outcome.next (State.takeCommand_answers h hp rfl hact)
  · rw [if_neg ‹_›] at hact
    exact congrArg Host.Outcome.next (State.takeCommand_answers h hp rfl hact)

/-! ### INPUT_INFO (R136) -/

theorem exec_inputInfo_range (h : s.takes c .inputInfo) (hp : c.payload = [b]) (hb : 1 < b.toNat) :
    exec .inputInfo s = .next (s.answered c [0x02#8]) := by
  refine congrArg Host.Outcome.next (State.takeCommand_answers h hp rfl ?_)
  unfold actInputInfo
  rw [show inputOf (byteAt [b] 0) = none from inputOf_eq_none hb]
  rfl

theorem exec_inputInfo_input (h : s.takes c .inputInfo) (hp : c.payload = [b]) {v : InputNo} (hv : v.val = b.toNat)
    {r : RxInput} (hr : r = s.input v) :
    exec .inputInfo s =
      .next (s.answered c
        ([0x00#8, b] ++ u8 r.mode.code ++ optional8 (r.savedMode.map InputMode.code) ++ [r.mask] ++ u8 r.engine.code ++
          u32 (BitVec.ofNat 32 (r.engine.endGapInUse (s.endGap v))) ++ u16 r.frameNext ++ u16 r.drops ++
          u16 r.suppressed)) := by
  subst hr
  refine congrArg Host.Outcome.next (State.takeCommand_answers h hp rfl ?_)
  have hfield : u8 v.val = [b] := hv ▸ u8_toNat b
  unfold actInputInfo
  rw [show inputOf (byteAt [b] 0) = some v from inputOf_eq_some hv]
  simp only [hfield]
  rfl

end Command

end Sys2Proof.Machine

/-! ### The statement about modes -/

section

open Sys2Proof Sys2Proof.Machine

/-- Settles O40: one equation for the bytes that name nothing, one for an input by whether it is taken, and one for the
record read. -/
theorem inputModeAndInfoAnswer : Obligations.InputModeAndInfoAnswer := by
  refine fun s c b => ⟨fun m k h hp => ⟨exec_inputMode_range h hp, fun v new r hv hm hr hnew => ?_⟩, fun h hp =>
    ⟨exec_inputInfo_range h hp, fun v r hv hr => ?_⟩⟩
  · obtain ⟨hmode, hbyte⟩ := inputModeOf_toNat hm hnew
    have hexec := exec_inputMode_named h hp hv hmode hbyte
    subst hr
    refine ⟨fun htaken => ?_, fun hlearn hverify => ?_⟩
    · rw [hexec, if_pos ((InputMode.isTaken_iff _).mpr htaken)]
      rfl
    · have hfree : ¬(s.input v).mode.isTaken = true := fun ht => ((InputMode.isTaken_iff _).mp ht).elim hlearn hverify
      rw [hexec, if_neg hfree, State.setMode_eq]
      rfl
  · rw [exec_inputInfo_input h hp hv hr]
    cases r.engine <;> simp [Engine.endGapInUse, u8]

end
end

section
/-! PROOFS. The glitch filter and the mark start: raw edges, trials and accepted changes (R124), and what becomes of a mark
start in QUIET (R127, R130, R133). -/

namespace Sys2Proof.Machine

/-! ### Trials (R124) -/

section Trials

variable {s : State} {v : InputNo}

theorem State.acceptDue_of_not_due (h : ∀ t, (s.input v).trial = some t → s.clock < t.edge + t.limit) :
    s.acceptDue v = s := by
  unfold State.acceptDue
  split
  · next t ht => exact if_neg (Nat.not_le.mpr (h t ht))
  · rfl

theorem State.acceptDue_of_due {t : Trial} (ht : (s.input v).trial = some t) (hdue : t.edge + t.limit ≤ s.clock) :
    s.acceptDue v = s.acceptChange v t.edge := by
  simp only [State.acceptDue, ht, if_pos hdue]

theorem exec_acceptedChange_due {t : Trial} (ht : (s.input v).trial = some t) (hdue : t.edge + t.limit ≤ s.clock) :
    exec (.acceptedChange v) s = .next (s.acceptChange v t.edge) :=
  congrArg Host.Outcome.next (State.acceptDue_of_due ht hdue)

theorem exec_rxRawEdge_same : exec (.rxRawEdge v (s.input v).raw) s = .next s :=
  congrArg Host.Outcome.next (if_pos rfl)

/-- An edge is looked at when a trial that is due has been accepted (R124; log entry 13). -/
theorem exec_rxRawEdge_moves {l : Level} (hl : l ≠ (s.input v).raw) :
    exec (.rxRawEdge v l) s = .next ((s.acceptDue v).rawEdge v l) :=
  congrArg Host.Outcome.next (if_neg hl)

/-- An edge away from the accepted level starts a trial (R124). -/
theorem State.rawEdge_away {l : Level} (hl : l ≠ (s.input v).accepted) :
    s.rawEdge v l =
      (s.setInput v
        { s.input v with raw := l, trial := some { edge := s.clock, limit := s.params.glitchLimit } }).acceptDue v :=
  if_neg hl

/-- An edge back to the accepted level ends a trial without a change (R124). -/
theorem State.rawEdge_back :
    s.rawEdge v (s.input v).accepted =
      (s.setInput v { s.input v with raw := (s.input v).accepted, trial := none }).takeWaitingClosing v :=
  if_pos rfl

/-! ### What an accepted change leaves of the line (R124) -/

theorem State.closeFrame_line (f : OpenFrame) (flags : FrameFlags) (after : Engine) :
    ((s.closeFrame v f flags after).input v).raw = (s.input v).raw ∧
      ((s.closeFrame v f flags after).input v).trial = (s.input v).trial := by
  have hs : (s.store.setEngine v after).front v = { (s.input v).front with engine := after } :=
    Store.setFront_front_self ..
  obtain h | ⟨g, -, h⟩ := s.closeFrame_drains v f flags after
  · have hfront := (congrArg (Store.front · v) h).trans hs
    exact ⟨congrArg Front.raw hfront, congrArg Front.trial hfront⟩
  · obtain ⟨hraw, htrial⟩ := h.line v
    exact ⟨hraw.trans (congrArg Front.raw hs), htrial.trans (congrArg Front.trial hs)⟩

theorem State.storeCell_line (f : OpenFrame) (d : Nat) :
    ((s.storeCell v f d).input v).raw = (s.input v).raw ∧ ((s.storeCell v f d).input v).trial = (s.input v).trial := by
  unfold State.storeCell
  simp only []
  split
  · split
    · rw [State.input_setInput_self]
      exact ⟨rfl, rfl⟩
    · exact State.closeFrame_line ..
  · have hs : (s.store.setEngine v (.discarding (s.endGap v))).front v =
        { (s.input v).front with engine := .discarding (s.endGap v) } := Store.setFront_front_self ..
    obtain ⟨hraw, htrial⟩ := (s.dropOpen_drains v).line v
    exact ⟨hraw.trans (congrArg Front.raw hs), htrial.trans (congrArg Front.trial hs)⟩

theorem State.noteDrop_line (reason : DropReason) :
    ((s.noteDrop v reason).input v).raw = (s.input v).raw ∧
      ((s.noteDrop v reason).input v).trial = (s.input v).trial := by
  have hs : (s.noteDrop v reason).store.front v = { (s.input v).front with engine := .discarding (s.endGap v) } := by
    rw [State.noteDrop_store]
    exact Store.setFront_front_self ..
  exact ⟨congrArg Front.raw hs, congrArg Front.trial hs⟩

theorem State.markStart_line (edge : Nat) :
    ((s.markStart v edge).input v).raw = (s.input v).raw ∧ ((s.markStart v edge).input v).trial = (s.input v).trial := by
  unfold State.markStart
  simp only []
  split
  · exact ⟨rfl, rfl⟩
  · split
    · rw [State.input_setInput_self]
      exact ⟨rfl, rfl⟩
    · split
      · exact State.noteDrop_line _
      · split
        · exact State.noteDrop_line _
        · unfold State.openFrame
          simp only [State.input_setInput_self, and_self]

/-- An accepted change leaves the raw level, and no trial is pending after it. -/
theorem State.acceptChange_line (edge : Nat) :
    ((s.acceptChange v edge).input v).raw = (s.input v).raw ∧ ((s.acceptChange v edge).input v).trial = none := by
  have hs : ((s.setInput v ((s.input v).change edge)).input v).raw = (s.input v).raw ∧
      ((s.setInput v ((s.input v).change edge)).input v).trial = none := by
    rw [State.input_setInput_self]
    exact ⟨rfl, rfl⟩
  obtain ⟨hraw, htrial⟩ := hs
  unfold State.acceptChange
  simp only []
  split
  · split
    · obtain ⟨hraw', htrial'⟩ := State.markStart_line (s := s.setInput v ((s.input v).change edge)) (v := v) edge
      exact ⟨hraw'.trans hraw, htrial'.trans htrial⟩
    · exact ⟨hraw, htrial⟩
  · rename_i f _
    obtain ⟨hraw', htrial'⟩ := State.storeCell_line (s := s.setInput v ((s.input v).change edge)) (v := v) f
      (edge - (s.input v).levelSince)
    exact ⟨hraw'.trans hraw, htrial'.trans htrial⟩
  · exact ⟨hraw, htrial⟩

/-! ### Accepted changes (R124, R131) -/

theorem otherLevel_eq (l : Level) : otherLevel l = if l = .mark then .space else .mark := by
  cases l <;> rfl

/-- The record that an accepted change leaves, its level spelled out (R124). -/
theorem RxInput.change_eq (r : RxInput) (edge : Nat) :
    r.change edge =
      { r with
        accepted := if r.accepted = .mark then .space else .mark, levelSince := edge, trial := none
        lastMarkEnd := if r.accepted = .mark then some edge else r.lastMarkEnd } := by
  rw [RxInput.change, otherLevel_eq]

theorem RxInput.change_of_space {r : RxInput} (h : r.accepted = .space) (edge : Nat) :
    r.change edge = { r with accepted := .mark, levelSince := edge, trial := none } := by
  rw [RxInput.change_eq, h]
  rfl

/-- At a mark end in QUIET, and in DISCARDING, an accepted change does nothing more (R127, R131). -/
theorem State.acceptChange_of_rest
    (h : (s.input v).engine = .quiet ∧ (s.input v).accepted = .mark ∨ ∃ gap, (s.input v).engine = .discarding gap)
    (edge : Nat) : s.acceptChange v edge = s.setInput v ((s.input v).change edge) := by
  obtain ⟨hq, hmark⟩ | ⟨gap, hd⟩ := h
  · simp only [State.acceptChange, hq, hmark, reduceCtorEq, if_false]
  · simp only [State.acceptChange, hd]

theorem State.acceptChange_of_markStart (hq : (s.input v).engine = .quiet) (hspace : (s.input v).accepted = .space)
    (edge : Nat) : s.acceptChange v edge = (s.setInput v ((s.input v).change edge)).markStart v edge := by
  simp only [State.acceptChange, hq, hspace, if_true]

end Trials

/-! ### Mark starts (R127, R130, R133) -/

section MarkStart

variable {s : State} {v : InputNo} {r : RxInput}

theorem Zone.isActive_iff (x : Zone) : x.isActive = true ↔ ∃ o, x.state = .active o := by
  unfold Zone.isActive
  cases x.state <;> simp

theorem State.isSuppressed_iff :
    s.isSuppressed v = true ↔
      (s.input v).mode ≠ .verify ∧ ∃ z o, ZoneSet.has (s.input v).mask z = true ∧ (s.zone z).state = .active o := by
  simp only [State.isSuppressed, Bool.and_eq_true, decide_eq_true_eq, List.any_eq_true, mem_zonesOf, Zone.isActive_iff,
    exists_and_left]

/-- A drop on an input whose record has just been written (R133). -/
theorem State.noteDrop_eq (reason : DropReason) : (s.setInput v r).noteDrop v reason = s.dropped v r reason := by
  unfold State.noteDrop State.dropped
  simp only [State.input_setInput_self, State.setInput_setInput]
  cases r.episodeOpen <;> rfl

theorem State.markStart_off (h : (s.input v).mode = .off) (edge : Nat) : s.markStart v edge = s := by
  simp only [State.markStart, h, if_true]

theorem State.markStart_suppressed (hmode : (s.input v).mode ≠ .off) (h : s.isSuppressed v = true) (edge : Nat) :
    s.markStart v edge =
      s.setInput v
        { s.input v with suppressed := bump (s.input v).suppressed, engine := .discarding (s.endGap v) } := by
  simp only [State.markStart, hmode, h, if_true, if_false]

theorem State.markStart_noEntry (hmode : (s.input v).mode ≠ .off) (h : ¬s.isSuppressed v = true)
    (hentries : 8 ≤ s.entriesUsed) (edge : Nat) : s.markStart v edge = s.noteDrop v .queueFull := by
  have hentries : Config.captureEntries ≤ s.entriesUsed := hentries
  simp only [State.markStart, hmode, h, hentries, if_true, if_false, Bool.false_eq_true]

theorem State.markStart_noCell (hmode : (s.input v).mode ≠ .off) (h : ¬s.isSuppressed v = true)
    (hentries : s.entriesUsed < 8) (hcells : 2048 ≤ s.cellsUsed) (edge : Nat) :
    s.markStart v edge = s.noteDrop v .bufferFull := by
  have hentries : ¬Config.captureEntries ≤ s.entriesUsed := Nat.not_le.mpr hentries
  have hcells : Config.captureCells ≤ s.cellsUsed := hcells
  simp only [State.markStart, hmode, h, hentries, hcells, if_true, if_false, Bool.false_eq_true]

theorem State.markStart_opens (hmode : (s.input v).mode ≠ .off) (h : ¬s.isSuppressed v = true)
    (hentries : s.entriesUsed < 8) (hcells : s.cellsUsed < 2048) (edge : Nat) :
    s.markStart v edge = s.openFrame v edge := by
  have hentries : ¬Config.captureEntries ≤ s.entriesUsed := Nat.not_le.mpr hentries
  have hcells : ¬Config.captureCells ≤ s.cellsUsed := Nat.not_le.mpr hcells
  simp only [State.markStart, hmode, h, hentries, hcells, if_false, Bool.false_eq_true]

end MarkStart

end Sys2Proof.Machine

/-! ### The statement about raw edges -/

section

open Sys2Proof Sys2Proof.Machine

/-- Settles O43: the edges by the trial that is pending, the change by the engine, and the mark start by the cases of R127. -/
theorem rawEdgesAndChanges : Obligations.RawEdgesAndChanges := by
  intro s v r hr
  subst hr
  refine ⟨exec_rxRawEdge_same, fun hnot => ?_, ?_, ?_, ?_⟩
  · have hstay : s.acceptDue v = s := State.acceptDue_of_not_due hnot
    refine ⟨congrArg Host.Outcome.next hstay, fun l w hraw hlevel hw => ?_, fun w hraw hw => ?_⟩
    · rw [exec_rxRawEdge_moves hraw, hstay, State.rawEdge_away hlevel]
      subst hw
      refine ⟨fun hlimit => congrArg Host.Outcome.next (State.acceptDue_of_not_due fun t ht => ?_), fun _ => rfl⟩
      rw [State.input_setInput_self] at ht
      obtain rfl := Option.some_injective _ ht
      exact Nat.lt_add_of_pos_right hlimit
    · rw [exec_rxRawEdge_moves hraw, hstay, State.rawEdge_back]
      have hw : w = s.setInput v { s.input v with raw := (s.input v).accepted, trial := none } := hw
      subst hw
      refine ⟨fun hq => ?_, fun f hf => ?_, fun gap hd => ?_⟩
      · simp only [State.takeWaitingClosing, State.input_setInput_self, hq]
      · simp only [State.takeWaitingClosing, State.input_setInput_self, hf]
        split <;> rfl
      · simp only [State.takeWaitingClosing, State.input_setInput_self, hd]
        rfl
  · intro t l ht hdue hl
    refine ⟨_, exec_acceptedChange_due ht hdue, ?_⟩
    obtain ⟨hraw, htrial⟩ := State.acceptChange_line (s := s) (v := v) t.edge
    have hstay : (s.acceptChange v t.edge).acceptDue v = s.acceptChange v t.edge :=
      State.acceptDue_of_not_due fun u hu => nomatch htrial.symm.trans hu
    rw [exec_rxRawEdge_moves hl, exec_rxRawEdge_moves (hraw ▸ hl), hstay, State.acceptDue_of_due ht hdue]
  · intro t ht hdue hrest
    rw [exec_acceptedChange_due ht hdue, State.acceptChange_of_rest hrest, RxInput.change_eq]
    rfl
  · intro t marked suppressed ht hdue hq hspace hmarked hsuppressed
    have hchange : exec (.acceptedChange v) s = .next ((s.setInput v marked).markStart v t.edge) := by
      rw [exec_acceptedChange_due ht hdue, State.acceptChange_of_markStart hq hspace, RxInput.change_of_space hspace,
        ← hmarked]
    have hinput : (s.setInput v marked).input v = marked := State.input_setInput_self ..
    have hmode : ((s.setInput v marked).input v).mode = (s.input v).mode := by rw [hinput, hmarked]
    have hmask : ((s.setInput v marked).input v).mask = (s.input v).mask := by rw [hinput, hmarked]
    have hsupp : (s.setInput v marked).isSuppressed v = true ↔ suppressed := by
      rw [State.isSuppressed_iff, hmode, hmask, hsuppressed]
      rfl
    obtain ⟨hcells, hentries⟩ := State.setInput_used (s := s) (v := v) (r := marked) (by rw [hmarked])
    rw [hchange]
    refine ⟨fun hoff => ?_, fun hon hs => ?_, fun hon hs hfull => ?_, fun hon hs hroom hfull => ?_,
      fun hon hs hroom hfree => ?_⟩
    · rw [State.markStart_off (hmode.trans hoff)]
      rfl
    · rw [State.markStart_suppressed (hmode ▸ hon) (hsupp.mpr hs), hinput, State.setInput_setInput]
      subst hmarked
      rfl
    · rw [State.markStart_noEntry (hmode ▸ hon) (mt hsupp.mp hs) (hentries ▸ hfull), State.noteDrop_eq]
    · rw [State.markStart_noCell (hmode ▸ hon) (mt hsupp.mp hs) (hentries ▸ hroom) (hcells ▸ hfull), State.noteDrop_eq]
    · rw [State.markStart_opens (hmode ▸ hon) (mt hsupp.mp hs) (hentries ▸ hroom) (hcells ▸ hfree)]
      unfold State.openFrame
      rw [hinput, State.setInput_setInput]
      subst hmarked
      rfl

end
end

section
/-! PROOFS. Frames grow by cells, close or are dropped, and discarding ends (R128, R129, R131 to R133). -/

namespace Sys2Proof.Machine

/-! ### A frame that closes (R129, R132) -/

/-- Writing the record that an input has changes nothing. -/
@[simp] theorem State.setInput_self (s : State) (v : InputNo) : s.setInput v (s.input v) = s := by
  simp [State.setInput, State.setInputs, State.input]

/-- An open frame of an input has joined the capture queue, the rest of the input's record being as given: the engine has
moved on, the drop episode is closed and no run end is decided (R129, R132, R145). -/
def State.joined (s : State) (v : InputNo) (x : RxInput) (f : OpenFrame) (flags : FrameFlags) (c : Consumer)
    (after : Engine) : State :=
  { s with
    inputs :=
      s.inputs.set v.val
        { x with
          run := x.run.map fun q => { q with endDecided := none }
          engine := after, episodeOpen := false } v.isLt
    captures := s.captures ++ [f.close v flags c] }

section Frames

variable {s : State} {v : InputNo} {x : RxInput} {f : OpenFrame} {c : Consumer}

/-- A frame that closes joins the queue, and is dispatched at once into an empty one (R129, R134). -/
theorem State.closeFrame_of_consumer (h : x.mode.consumer? = some c) (flags : FrameFlags) (after : Engine) :
    (s.setInput v x).closeFrame v f flags after =
      if s.captures.isEmpty then (s.joined v x f flags c after).dispatch else s.joined v x f flags c after := by
  unfold State.closeFrame
  simp only [State.input_setInput_self, State.setInput_setInput, h]
  rfl

/-- What a closing answers, by whether the queue was empty (R134). -/
theorem next_of_closing {u w : State} (h : w = if s.captures.isEmpty then u.dispatch else u) :
    (s.captures ≠ [] → (.next w : Host.Outcome State Fault Refusal) = .next u) ∧
      (s.captures = [] → (.next w : Host.Outcome State Fault Refusal) = exec .captureDispatch u) := by
  subst h
  refine ⟨fun hfull => ?_, fun hempty => ?_⟩
  · rw [if_neg (by simpa using hfull)]
  · rw [if_pos (by simpa using hempty)]
    rfl

/-! ### A frame that is dropped (R128, R133) -/

/-- A frame is dropped on an input whose record has just been written. -/
theorem State.dropOpen_eq :
    (s.setInput v x).dropOpen v =
      (((s.dropped v x .bufferFull).checkRunEnd v).checkSettled v).arbitratedIfRemoved s := by
  unfold State.dropOpen
  rw [State.noteDrop_eq]
  rfl

/-! ### A cell that is stored (R128) -/

/-- A cell by the room for it and the cells before it (R128, R129). -/
theorem State.storeCell_eq (s : State) (v : InputNo) (f : OpenFrame) (d : Nat) :
    s.storeCell v f d =
      if s.cellsUsed < 2048 then
        if f.cells.length + 1 < 511 then s.setInput v { s.input v with engine := .inFrame (f.store d) }
        else
          s.closeFrame v (f.store d) { truncated := true, stuck := false, longMark := (f.store d).longMark }
            (.discarding (s.endGap v))
      else s.dropOpen v := by
  have hlen : (f.store d).cells.length = f.cells.length + 1 := by simp
  rw [← hlen]
  rfl

theorem State.acceptChange_inFrame (hf : (s.input v).engine = .inFrame f) (edge : Nat) :
    s.acceptChange v edge =
      (s.setInput v ((s.input v).change edge)).storeCell v f (edge - (s.input v).levelSince) := by
  simp only [State.acceptChange, hf]

/-! ### Levels that have lasted (R129, R131) -/

/-- A trial, the other level, or too short a time keeps a level from having lasted. -/
theorem State.lasted_eq_false {level : Level} {d : Nat}
    (h : (s.input v).trial.isSome = true ∨ (s.input v).accepted = otherLevel level ∨
      s.clock < (s.input v).levelSince + d) : s.lasted v level d = false := by
  refine Bool.eq_false_iff.mpr fun hlasted => ?_
  obtain ⟨htrial, hlevel, hreached⟩ := State.lasted_iff.mp hlasted
  obtain h | h | h := h
  · simp [htrial] at h
  · rw [hlevel] at h
    cases level <;> cases h
  · exact absurd hreached (Nat.not_le.mpr h)

theorem State.closeAtEndGap_inFrame (hf : (s.input v).engine = .inFrame f) :
    s.closeAtEndGap v =
      if s.lasted v .space f.endGap then
        s.closeFrame v f { truncated := false, stuck := false, longMark := f.longMark } .quiet
      else s := by
  simp only [State.closeAtEndGap, hf]

theorem State.closeStuck_inFrame (hf : (s.input v).engine = .inFrame f) :
    s.closeStuck v =
      if s.lasted v .mark 200000 then
        if s.cellsUsed < 2048 then
          s.closeFrame v { f with cells := f.cells ++ [65535], longMark := true }
            { truncated := false, stuck := true, longMark := true } (.discarding (s.endGap v))
        else s.dropOpen v
      else s := by
  simp only [State.closeStuck, hf]
  rfl

theorem State.endDiscard_discarding {gap : Nat} (hd : (s.input v).engine = .discarding gap) :
    s.endDiscard v =
      if s.lasted v .space gap then s.setInput v { s.input v with engine := .quiet } else s := by
  simp only [State.endDiscard, hd]

end Frames

end Sys2Proof.Machine

/-! ### The statement about frames -/

section

open Sys2Proof Sys2Proof.Machine

/-- Settles O44: the cell by the room for it and the cells before it, the closings by the level that has lasted. -/
theorem framesGrowAndClose : Obligations.FramesGrowAndClose := by
  intro s v r hr
  subst hr
  refine ⟨fun f lost closed hf hlost hclosed => ?_, fun gap hd => ⟨fun hearly => ?_, fun htrial hspace hreached => ?_⟩⟩
  · subst hlost hclosed
    refine ⟨fun t d changed cells long ht hdue hd hcells hlong hchanged => ?_, fun hearly => ?_, fun hearly => ?_,
      fun htrial hmark hreached hfull => ?_, fun c u hc htrial => ⟨fun hspace hreached hu => ?_,
        fun hmark hreached hroom hu => ?_⟩⟩
    · have hchange : exec (.acceptedChange v) s = .next ((s.setInput v changed).storeCell v f d) := by
        rw [exec_acceptedChange_due ht hdue, State.acceptChange_inFrame hf, RxInput.change_eq, ← hchanged, ← hd]
      obtain ⟨hused, -⟩ := State.setInput_used (s := s) (v := v) (r := changed) (by rw [hchanged])
      rw [hchange]
      refine ⟨fun hfull => ?_, fun hroom hshort => ?_, fun hroom hlast c u hc hu => ?_⟩
      · rw [State.storeCell_eq, if_neg (Nat.not_lt.mpr (hused ▸ hfull)), State.dropOpen_eq]
      · rw [State.storeCell_eq, if_pos (hused ▸ hroom), if_pos hshort, State.input_setInput_self,
          State.setInput_setInput]
        subst hcells hlong
        rfl
      · have hmode : changed.mode.consumer? = some c := by
          rw [hchanged]
          exact hc
        rw [State.storeCell_eq, if_pos (hused ▸ hroom), if_neg (Nat.not_lt.mpr hlast)]
        refine next_of_closing ((State.closeFrame_of_consumer hmode _ _).trans ?_)
        subst hu hcells hlong
        rfl
    · have hlasted : s.lasted v .space f.endGap = false := State.lasted_eq_false hearly
      have hstays : s.closeAtEndGap v = s := by
        rw [State.closeAtEndGap_inFrame hf, hlasted]
        rfl
      exact congrArg Host.Outcome.next hstays
    · have hlasted : s.lasted v .mark 200000 = false := State.lasted_eq_false hearly
      have hstays : s.closeStuck v = s := by
        rw [State.closeStuck_inFrame hf, hlasted]
        rfl
      exact congrArg Host.Outcome.next hstays
    · have hdrop := State.dropOpen_eq (s := s) (v := v) (x := s.input v)
      rw [State.setInput_self] at hdrop
      refine congrArg Host.Outcome.next (Eq.trans ?_ hdrop)
      rw [State.closeStuck_inFrame hf, if_pos (State.lasted_iff.mpr ⟨htrial, hmark, hreached⟩),
        if_neg (Nat.not_lt.mpr hfull)]
    · have hclose := State.closeFrame_of_consumer (s := s) (v := v) (f := f) hc
        { truncated := false, stuck := false, longMark := f.longMark } .quiet
      rw [State.setInput_self] at hclose
      subst hu
      refine next_of_closing (.trans ?_ hclose)
      rw [State.closeAtEndGap_inFrame hf, if_pos (State.lasted_iff.mpr ⟨htrial, hspace, hreached⟩)]
    · have hclose := State.closeFrame_of_consumer (s := s) (v := v)
        (f := { f with cells := f.cells ++ [65535], longMark := true }) hc
        { truncated := false, stuck := true, longMark := true } (.discarding (s.endGap v))
      rw [State.setInput_self] at hclose
      subst hu
      refine next_of_closing (.trans ?_ hclose)
      rw [State.closeStuck_inFrame hf, if_pos (State.lasted_iff.mpr ⟨htrial, hmark, hreached⟩), if_pos hroom]
  · have hlasted : s.lasted v .space gap = false := State.lasted_eq_false hearly
    have hstays : s.endDiscard v = s := by
      rw [State.endDiscard_discarding hd, hlasted]
      rfl
    exact congrArg Host.Outcome.next hstays
  · refine congrArg Host.Outcome.next ?_
    rw [State.endDiscard_discarding hd, if_pos (State.lasted_iff.mpr ⟨htrial, hspace, hreached⟩)]
    rfl

end
end

section
/-! PROOFS. The dispatch at the head of the capture queue: the reports of a RAW or MATCH frame, the room they need, and the
entry that leaves (R134, R135, R141, R143, R144). -/

namespace Sys2Proof.Machine

section Dispatch

variable {s : State} {f : CapturedFrame} {rest : List CapturedFrame}

/-! ### The head of the queue (R134) -/

theorem State.arbiterAfter_of_jobs {t : State} (h : t.jobs = s.jobs) : t.arbiterAfter s = t :=
  if_neg (by rw [h]; exact lt_irrefl _)

theorem State.dispatch_empty (hc : s.captures = []) : s.dispatch = s := by
  rw [State.dispatch, hc]
  exact State.arbiterAfter_of_jobs rfl

/-- A head that waits holds every entry behind it. -/
theorem State.dispatch_waits (hc : s.captures = f :: rest) (h : s.consume f = none) : s.dispatch = s := by
  have hhead : s.tryHead = none := by
    simp only [State.tryHead, hc, h, Option.map_none]
  rw [State.dispatch, hc, List.length_cons, tryHeads, hhead]
  exact State.arbiterAfter_of_jobs rfl

/-- A head that is consumed leaves, and with no job removed the rest of the queue is dispatched as from there. -/
theorem State.dispatch_consumes {u : State} (hc : s.captures = f :: rest) (h : s.consume f = some u)
    (hrest : (u.leaveQueue f).captures = rest) (hjobs : (u.leaveQueue f).jobs = s.jobs) :
    s.dispatch = (u.leaveQueue f).dispatch ∧ (rest = [] → s.dispatch = u.leaveQueue f) := by
  have hhead : s.tryHead = some (u.leaveQueue f) := by
    simp only [State.tryHead, hc, h, Option.map_some]
  have harbiter : ∀ w : State, w.arbiterAfter s = w.arbiterAfter (u.leaveQueue f) := fun w => by
    unfold State.arbiterAfter
    rw [hjobs]
  have hdispatch : s.dispatch = (u.leaveQueue f).dispatch := by
    rw [State.dispatch, hc, List.length_cons, tryHeads, hhead, State.dispatch, hrest, harbiter]
  exact ⟨hdispatch, fun hempty => hdispatch.trans (State.dispatch_empty (hrest.trans hempty))⟩

/-- An entry that is not the verifier's leaves, and the run-end check is made (R141, R145). -/
theorem State.leaveQueue_eq {u : State} (hconsumer : f.consumer ≠ .verifier) (hc : u.captures = f :: rest) :
    u.leaveQueue f = u.headLeft rest f.input := by
  unfold State.leaveQueue
  rw [hc]
  cases h : f.consumer with
  | verifier => exact absurd h hconsumer
  | recognizer | rawForwarder | learner => rfl

/-! ### Room for reports (R134, R170, R173) -/

theorem State.mayCreate_iff (s : State) (n : Nat) :
    s.mayCreate n = true ↔ s.line.categories.getLsbD 3 = false ∨ s.line.reports.length + n + 8 ≤ 32 := by
  simp [State.mayCreate, HostLine.selects, Category.selectedIn, HostLine.hasCaptureRoom, Config.captureReserve,
    Config.reportEntries]

theorem HostLine.joinCaptured_selected {l : HostLine} (h : l.categories.getLsbD 3 = true) (rs : List Report) :
    l.joinCaptured rs = rs.foldl HostLine.join l :=
  if_pos h

theorem State.joinCaptured_deselected {u : State} (h : u.line.categories.getLsbD 3 = false) (rs : List Report) :
    u.joinCaptured rs = u := by
  have hline : u.line.joinCaptured rs = u.line := if_neg (by simpa [HostLine.selects, Category.selectedIn] using h)
  unfold State.joinCaptured
  rw [hline]
  rfl

/-- What a block that makes reports does with a frame: it goes over to a state and creates them, or waits for room (R134). -/
def State.reportsFrom (s u : State) (rs : List Report) : Option State :=
  if s.mayCreate rs.length then some (u.joinCaptured rs) else none

/-- The dispatch of a head that makes reports: it waits while they lack room, and otherwise they join (with RX selected),
the entry leaves and the rest is dispatched (R134, R170, R173). -/
def State.DispatchedBy (s : State) (f : CapturedFrame) (rest : List CapturedFrame) (u : State) (rs : List Report) : Prop :=
  (s.line.categories.getLsbD 3 = true → 32 < s.line.reports.length + rs.length + 8 → s.dispatch = s) ∧
    ∀ t : State,
      (s.line.categories.getLsbD 3 = true ∧ s.line.reports.length + rs.length + 8 ≤ 32 ∧
          t = State.headLeft { u with line := rs.foldl HostLine.join s.line } rest f.input) ∨
        (s.line.categories.getLsbD 3 = false ∧ t = u.headLeft rest f.input) →
      s.dispatch = t.dispatch ∧ (rest = [] → s.dispatch = t)

/-- The head makes reports, in a state that differs from the one before in an input record only. -/
theorem State.dispatch_reports {u : State} {rs : List Report} (hc : s.captures = f :: rest)
    (hconsumer : f.consumer ≠ .verifier) (hconsume : s.consume f = s.reportsFrom u rs) (hline : u.line = s.line)
    (hcaptures : u.captures = s.captures) (hjobs : u.jobs = s.jobs) : s.DispatchedBy f rest u rs := by
  refine ⟨fun hselected hfull => ?_, fun t ht => ?_⟩
  · refine State.dispatch_waits hc (hconsume.trans (if_neg fun hroom => ?_))
    obtain hdeselected | hroom := (s.mayCreate_iff _).mp hroom
    · exact nomatch hselected.symm.trans hdeselected
    · omega
  · have hroom : s.mayCreate rs.length = true :=
      (s.mayCreate_iff _).mpr (ht.elim (fun h => .inr h.2.1) fun h => .inl h.1)
    have hleft : (u.joinCaptured rs).captures = f :: rest := by simp [hcaptures, hc]
    have hleave := State.leaveQueue_eq hconsumer hleft
    have htail : ((u.joinCaptured rs).leaveQueue f).captures = rest := by
      rw [hleave, State.headLeft]
      simp
    have hkept : ((u.joinCaptured rs).leaveQueue f).jobs = s.jobs := by
      rw [hleave, State.headLeft]
      simp [hjobs]
    have ht : t = (u.joinCaptured rs).leaveQueue f := by
      rw [hleave]
      obtain ⟨hselected, -, rfl⟩ | ⟨hdeselected, rfl⟩ := ht
      · rw [State.joinCaptured, hline, HostLine.joinCaptured_selected hselected]
        rfl
      · rw [State.joinCaptured_deselected (hline ▸ hdeselected)]
    subst ht
    exact State.dispatch_consumes hc (hconsume.trans (if_pos hroom)) htail hkept

/-! ### The reports of a frame (R135, R141, R143, R144) -/

/-- The RX_RAW parts of a frame, up to 112 cells each (R135). -/
theorem rawParts_eq (f : CapturedFrame) :
    rawParts f =
      (List.range ((f.cells.length + 111) / 112)).map fun n =>
        .rxRaw f n ((f.cells.length + 111) / 112) ((f.cells.drop (112 * n)).take 112) := rfl

theorem State.consume_raw (h : f.consumer = .rawForwarder) : s.consume f = s.reportsFrom s (rawParts f) := by
  have hlen : (rawParts f).length = partCount f.cells.length := by simp [rawParts]
  simp only [State.consume, h, State.forwardRaw, State.reportsFrom, hlen]

theorem State.consume_unknown (h : f.consumer = .recognizer) (hnone : s.bestMatch f = none) :
    s.consume f = s.reportsFrom s (if s.params.unknownForward = 1 then rawParts f else [.rxUnknown f]) := by
  simp only [State.consume, h, State.recognize, hnone]
  rfl

/-- A matched frame: RX_CODE with the run's new count, behind the RX_RUN_END of a run that it ends (R141, R144). -/
theorem State.consume_match (h : f.consumer = .recognizer) {k : Candidate} {score : Nat}
    (hmatch : s.bestMatch f = some (k, score)) :
    s.consume f =
      s.reportsFrom (s.setRun f.input (some (s.runAfter k.slot f)))
        (s.endedByMatch k.slot f ++
          [.rxCode f k.slot (s.label k.slot) k.kind score (s.runAfter k.slot f).count]) := by
  simp only [State.consume, h, State.recognize, hmatch]
  rfl

theorem State.continues_iff {r : Run} {i : SlotNo} :
    s.continues r i f = true ↔ r.slot = i ∧ ∃ g, f.gapBefore = some g ∧ g ≤ s.params.repeatWindow * 1000 := by
  simp only [State.continues, Bool.and_eq_true, decide_eq_true_eq, Option.any_eq_true]
  rfl

/-- A match in a run that it does not continue ends that run; with none, or in the run it continues, it ends nothing
(R144). -/
theorem State.run_of_match {i : SlotNo} {n : Nat} {c : Report} {rs : List Report}
    (h : ((s.input f.input).run = none ∧ n = 1 ∧ rs = [c]) ∨
      (∃ r g, (s.input f.input).run = some r ∧ r.slot = i ∧ f.gapBefore = some g ∧ g ≤ s.params.repeatWindow * 1000 ∧
        n = (if r.count < 65535 then r.count + 1 else r.count) ∧ rs = [c]) ∨
      ∃ r, (s.input f.input).run = some r ∧
        (r.slot ≠ i ∨ ∀ g, f.gapBefore = some g → s.params.repeatWindow * 1000 < g) ∧ n = 1 ∧
        rs = [.rxRunEnd f.input r.slot r.count s.now, c]) :
    s.runAfter i f =
        { slot := i, count := n, lastMarkEnd := f.endInstant, windowPassed := false, endDecided := none } ∧
      s.endedByMatch i f ++ [c] = rs := by
  unfold State.runAfter State.endedByMatch
  obtain ⟨hnone, rfl, rfl⟩ | ⟨r, g, hrun, hslot, hgap, hwindow, rfl, rfl⟩ | ⟨r, hrun, hends, rfl, rfl⟩ := h
  · rw [hnone]
    exact ⟨rfl, rfl⟩
  · have hcontinues : s.continues r i f = true := State.continues_iff.mpr ⟨hslot, g, hgap, hwindow⟩
    simp only [hrun, hcontinues, if_true]
    exact ⟨rfl, rfl⟩
  · have hcontinues : ¬s.continues r i f = true := fun hc => by
      obtain ⟨hslot, g, hgap, hwindow⟩ := State.continues_iff.mp hc
      obtain hother | hlate := hends
      · exact hother hslot
      · exact absurd hwindow (Nat.not_le.mpr (hlate g hgap))
    simp only [hrun, hcontinues, if_false, Bool.false_eq_true]
    exact ⟨trivial, rfl⟩

end Dispatch

end Sys2Proof.Machine

/-! ### The statement about dispatch -/

section

open Sys2Proof Sys2Proof.Machine

/-- Settles O45: the consumer fixes the reports and the state they are created in; the room for them decides whether the
head waits. -/
theorem capturesDispatched : Obligations.CapturesDispatched := by
  refine ⟨fun s hc => congrArg Host.Outcome.next (State.dispatch_empty hc), ?_⟩
  intro s f rest v leads hc hv hleads u parts rs hparts hreports
  subst hv hleads
  rw [← rawParts_eq] at hparts
  subst hparts
  have hdispatch : s.DispatchedBy f rest u rs := by
    obtain ⟨hraw, rfl, rfl⟩ | ⟨hrec, hnone, rfl, rfl⟩ | ⟨k, score, n, hrec, hmatch, rfl, hrun⟩ := hreports
    · exact State.dispatch_reports hc (by simp [hraw]) (State.consume_raw hraw) rfl rfl rfl
    · exact State.dispatch_reports hc (by simp [hrec]) (State.consume_unknown hrec hnone) rfl rfl rfl
    · obtain ⟨hafter, hends⟩ := State.run_of_match hrun
      have hconsume := State.consume_match hrec hmatch
      rw [hafter, hends] at hconsume
      exact State.dispatch_reports hc (by simp [hrec]) hconsume rfl rfl rfl
  obtain ⟨hwaits, hgoes⟩ := hdispatch
  refine ⟨fun hselected hfull => congrArg Host.Outcome.next (hwaits hselected hfull), fun hselected hroom => ?_,
    fun hdeselected => ?_⟩
  · obtain ⟨hnext, hlast⟩ := hgoes _ (.inl ⟨hselected, hroom, rfl⟩)
    exact ⟨congrArg Host.Outcome.next hnext, fun hempty => congrArg Host.Outcome.next (hlast hempty)⟩
  · obtain ⟨hnext, hlast⟩ := hgoes _ (.inr ⟨hdeselected, rfl⟩)
    exact ⟨congrArg Host.Outcome.next hnext, fun hempty => congrArg Host.Outcome.next (hlast hempty)⟩

end
end

section
/-! PROOFS. The run-end check and the events that make it (R145, R147). -/

namespace Sys2Proof.Machine

section RunEnd

variable {s : State} {v : InputNo} {r : Run}

/-! ### An input's run context -/

/-- Writing the run context that an input has changes nothing. -/
theorem State.setRun_self (h : (s.input v).run = some r) : s.setRun v (some r) = s := by
  rw [← h]
  exact s.setInput_self v

/-- Both conditions of a run's end, spelled out (R145). -/
theorem State.runEnds_iff :
    s.runEnds v r = true ↔
      r.lastMarkEnd + s.params.repeatWindow * 1000 ≤ s.clock ∧ (s.input v).engine.isInFrame = false ∧
        ∀ f ∈ s.captures, f.input ≠ v := by
  simp only [State.runEnds, State.queuedFrom, Bool.and_eq_true, decide_eq_true_eq, Bool.not_eq_true', List.any_eq_false,
    and_assoc]
  rfl

/-! ### A decided end (R145) -/

theorem State.decideRunEnd_deselected (h : s.line.categories.getLsbD 3 = false) :
    s.decideRunEnd v r = s.setRun v none := by
  unfold State.decideRunEnd
  rw [if_pos ((s.mayCreate_iff 1).mpr (.inl h)), State.joinCaptured_deselected h]

theorem State.decideRunEnd_reported (h : s.line.categories.getLsbD 3 = true) (hroom : s.line.reports.length + 9 ≤ 32) :
    s.decideRunEnd v r =
      { s.setRun v none with line := s.line.join (.rxRunEnd v r.slot r.count (r.endDecided.getD s.now)) } := by
  unfold State.decideRunEnd
  rw [if_pos ((s.mayCreate_iff 1).mpr (.inr hroom)), State.joinCaptured, HostLine.joinCaptured_selected h]
  rfl

theorem State.decideRunEnd_waits (h : s.line.categories.getLsbD 3 = true) (hfull : 32 < s.line.reports.length + 9) :
    s.decideRunEnd v r = s.setRun v (some { r with endDecided := some (r.endDecided.getD s.now) }) := by
  unfold State.decideRunEnd
  refine if_neg fun hroom => ?_
  obtain hdeselected | hroom := (s.mayCreate_iff 1).mp hroom
  · exact nomatch h.symm.trans hdeselected
  · omega

/-- What becomes of an end that has been decided, by the selection of RX and the room for the report (R145, R170). -/
theorem State.decideRunEnd_eq (h : s.line.categories.getLsbD 3 = true) :
    s.decideRunEnd v r =
      if s.line.reports.length + 9 ≤ 32 then
        { s.setRun v none with line := s.line.join (.rxRunEnd v r.slot r.count (r.endDecided.getD s.now)) }
      else s.setRun v (some { r with endDecided := some (r.endDecided.getD s.now) }) := by
  split
  · exact State.decideRunEnd_reported h ‹_›
  · exact State.decideRunEnd_waits h (Nat.lt_of_not_le ‹_›)

/-! ### The run-end check (R145) -/

/-- The check on an input whose run context has just been written. -/
theorem State.checkRunEnd_setRun (s : State) (v : InputNo) (r : Run) :
    (s.setRun v (some r)).checkRunEnd v =
      if s.runEnds v r then s.decideRunEnd v r else s.setRun v (some r.undecided) := by
  have hinput : (s.setRun v (some r)).input v = { s.input v with run := some r } := State.input_setInput_self ..
  have hends : (s.setRun v (some r)).runEnds v r = s.runEnds v r := by
    unfold State.runEnds
    rw [hinput]
    rfl
  have hwrite : ∀ q, (s.setRun v (some r)).setRun v q = s.setRun v q := fun q => by
    rw [State.setRun, hinput]
    exact State.setInput_setInput ..
  have hreport : ∀ rs : List Report, ((s.setRun v (some r)).joinCaptured rs).setRun v none =
      (s.joinCaptured rs).setRun v none := fun rs => by
    have hjoin : (s.setRun v (some r)).joinCaptured rs = (s.joinCaptured rs).setRun v (some r) := rfl
    rw [hjoin, State.setRun, State.setRun, State.input_setInput_self, State.setInput_setInput]
    rfl
  have hdecide : (s.setRun v (some r)).decideRunEnd v r = s.decideRunEnd v r := by
    unfold State.decideRunEnd
    simp only [hreport, hwrite]
    rfl
  simp only [State.checkRunEnd, hinput, hends, hdecide, hwrite]

theorem State.checkRunEnd_of_run (h : (s.input v).run = some r) :
    s.checkRunEnd v = if s.runEnds v r then s.decideRunEnd v r else s.setRun v (some r.undecided) := by
  have hcheck := s.checkRunEnd_setRun v r
  rwa [State.setRun_self h] at hcheck

theorem State.checkRunEnd_met (h : (s.input v).run = some r) (hends : s.runEnds v r = true) :
    s.checkRunEnd v = s.decideRunEnd v r := by
  rw [State.checkRunEnd_of_run h, if_pos hends]

theorem State.checkRunEnd_unmet (h : (s.input v).run = some r) (hends : ¬s.runEnds v r = true) :
    s.checkRunEnd v = s.setRun v (some { r with endDecided := none }) := by
  rw [State.checkRunEnd_of_run h, if_neg hends]
  rfl

/-! ### REPEAT_WINDOW and REPEAT_WINDOW_ELAPSE (R145) -/

theorem State.moveWindow_ahead (h : (s.input v).run = some r)
    (hahead : s.clock < r.lastMarkEnd + s.params.repeatWindow * 1000) :
    s.moveWindow v = s.setRun v (some { r with windowPassed := false, endDecided := none }) := by
  have hahead : ¬r.lastMarkEnd + s.window ≤ s.clock := Nat.not_le.mpr hahead
  simp only [State.moveWindow, h, if_neg hahead]

theorem State.moveWindow_passed (h : (s.input v).run = some r)
    (hpassed : r.lastMarkEnd + s.params.repeatWindow * 1000 ≤ s.clock) :
    s.moveWindow v = (s.setRun v (some { r with windowPassed := true })).checkRunEnd v := by
  have hpassed : r.lastMarkEnd + s.window ≤ s.clock := hpassed
  simp only [State.moveWindow, h, if_pos hpassed]

theorem exec_repeatWindowElapse_due (h : (s.input v).run = some r) (hunmade : r.windowPassed = false)
    (hpassed : r.lastMarkEnd + s.params.repeatWindow * 1000 ≤ s.clock) :
    exec (.repeatWindowElapse v) s = .next ((s.setRun v (some { r with windowPassed := true })).checkRunEnd v) := by
  have hpassed : r.lastMarkEnd + s.window ≤ s.clock := hpassed
  have hdue : (!r.windowPassed && decide (r.lastMarkEnd + s.window ≤ s.clock)) = true := by simp [hunmade, hpassed]
  change execRepeatWindowElapse v s = _
  simp only [execRepeatWindowElapse, h, if_pos hdue]

theorem exec_repeatWindowElapse_idle (h : (s.input v).run = some r)
    (hidle : r.windowPassed = true ∨ s.clock < r.lastMarkEnd + s.params.repeatWindow * 1000) :
    exec (.repeatWindowElapse v) s = .next s := by
  have hidle : r.windowPassed = true ∨ s.clock < r.lastMarkEnd + s.window := hidle
  have hnot : ¬(!r.windowPassed && decide (r.lastMarkEnd + s.window ≤ s.clock)) = true := by
    simp only [Bool.and_eq_true, Bool.not_eq_true', decide_eq_true_eq, not_and, Nat.not_le]
    exact fun hunmade => hidle.resolve_left (by simp [hunmade])
  change execRepeatWindowElapse v s = _
  simp only [execRepeatWindowElapse, h, if_neg hnot]

/-! ### A decided end that waits for space (R145, R147) -/

theorem State.recheckRunEnd_of_no_run (h : (s.input v).run = none) : s.recheckRunEnd v = s := by
  simp only [State.recheckRunEnd, h]

theorem State.moveWindow_of_no_run (h : (s.input v).run = none) : s.moveWindow v = s := by
  simp only [State.moveWindow, h]

theorem State.recheckRunEnd_of_undecided (h : (s.input v).run = some r) (hnone : r.endDecided = none) :
    s.recheckRunEnd v = s := by
  simp [State.recheckRunEnd, h, hnone]

theorem State.recheckRunEnd_of_decided (h : (s.input v).run = some r) (hsome : r.endDecided ≠ none) :
    s.recheckRunEnd v = s.checkRunEnd v := by
  simp only [State.recheckRunEnd, h, if_pos (Option.isSome_iff_ne_none.mpr hsome)]

/-- Entries freed while no decision stands: the check is made again (R145). -/
theorem State.retryRunEnd_rechecks (h : (s.input v).run = some r) (hnot : r.endDecided = none ∨ s.endStands v = false) :
    s.retryRunEnd v = s.recheckRunEnd v := by
  have hnot : ¬(r.endDecided.isSome && s.endStands v) = true := by
    rw [Bool.and_eq_true]
    rintro ⟨hsome, hstands⟩
    obtain hnone | hfalse := hnot
    · exact Option.isSome_iff_ne_none.mp hsome hnone
    · exact nomatch hstands.symm.trans hfalse
  simp only [State.retryRunEnd, h, if_neg hnot]

/-- A decision that stands while a frame of the input is open is carried out (R147, last row). -/
theorem State.retryRunEnd_stands (h : (s.input v).run = some r) (hsome : r.endDecided ≠ none)
    (hstands : s.endStands v = true) : s.retryRunEnd v = s.decideRunEnd v r := by
  have hboth : (r.endDecided.isSome && s.endStands v) = true := by
    rw [Bool.and_eq_true]
    exact ⟨Option.isSome_iff_ne_none.mpr hsome, hstands⟩
  simp only [State.retryRunEnd, h, if_pos hboth]

/-- Whether a decision stands while a frame of the input is open: the free value and the selection of RX (log entry 28). -/
theorem State.endStands_of_open (h : (s.input v).engine.isInFrame = true) :
    s.endStands v = (s.line.categories.getLsbD 3 && Config.runEndStands) := by
  unfold State.endStands
  rw [h, Bool.true_and]
  rfl

theorem exec_rxRunEnd_undecided (h : (s.input v).run = some r) (hnone : r.endDecided = none) :
    exec (.rxRunEnd v) s = .next s :=
  congrArg Host.Outcome.next
    ((State.retryRunEnd_rechecks h (.inl hnone)).trans (State.recheckRunEnd_of_undecided h hnone))

theorem exec_rxRunEnd_closed (h : (s.input v).run = some r) (hsome : r.endDecided ≠ none)
    (hclosed : (s.input v).engine.isInFrame = false) : exec (.rxRunEnd v) s = .next (s.checkRunEnd v) := by
  have hnot : s.endStands v = false := by simp [State.endStands, hclosed]
  exact congrArg Host.Outcome.next
    ((State.retryRunEnd_rechecks h (.inr hnot)).trans (State.recheckRunEnd_of_decided h hsome))

/-- RX_RUN_END while a frame of the input is open: the end that was decided is undone or carried out, as the free value has
it (R145, R147; log entry 28). -/
theorem exec_rxRunEnd_open {t : Word32} (h : (s.input v).run = some r) (ht : r.endDecided = some t)
    (hopen : (s.input v).engine.isInFrame = true) :
    exec (.rxRunEnd v) s =
      .next
        (if Config.runEndStands = false ∨ s.line.categories.getLsbD 3 = false then
          s.setRun v (some { r with endDecided := none })
        else if s.line.reports.length + 9 ≤ 32 then
          { s.setRun v none with line := s.line.join (.rxRunEnd v r.slot r.count t) }
        else s) := by
  have hsome : r.endDecided ≠ none := by simp [ht]
  refine congrArg Host.Outcome.next ?_
  split
  · next hnot =>
    have hfalls : s.endStands v = false := by
      rw [State.endStands_of_open hopen, Bool.and_eq_false_iff]
      exact hnot.symm
    have hunmet : ¬s.runEnds v r = true := fun hends => by
      obtain ⟨-, hclosed, -⟩ := State.runEnds_iff.mp hends
      exact nomatch hopen.symm.trans hclosed
    rw [State.retryRunEnd_rechecks h (.inr hfalls), State.recheckRunEnd_of_decided h hsome,
      State.checkRunEnd_unmet h hunmet]
  · next hstands =>
    obtain ⟨hfree, hselected⟩ : Config.runEndStands = true ∧ s.line.categories.getLsbD 3 = true := by
      simpa using hstands
    have hstands : s.endStands v = true := by rw [State.endStands_of_open hopen, hfree, hselected, Bool.true_and]
    have hstays : s.setRun v (some { r with endDecided := some t }) = s := by
      rw [← ht]
      exact State.setRun_self h
    rw [State.retryRunEnd_stands h hsome hstands, State.decideRunEnd_eq hselected, ht, Option.getD_some, hstays]

end RunEnd

end Sys2Proof.Machine

/-! ### The statement about run ends -/

section

open Sys2Proof Sys2Proof.Machine

/-- Settles O47: the check by its conditions, what is decided by the selection and the room, and the events by the run's
window and its decided end. -/
theorem runsEnd : Obligations.RunsEnd := by
  refine ⟨fun s v h => ⟨State.checkRunEnd_of_no_run h, State.moveWindow_of_no_run h, State.recheckRunEnd_of_no_run h⟩,
    fun s v r x ends h hx hends => ?_, fun s v r h => ⟨exec_repeatWindowElapse_idle h, exec_rxRunEnd_undecided h,
      fun hpassed hclosed hdrained hselected => ?_⟩⟩
  · have hends : s.runEnds v r = true ↔ ends := State.runEnds_iff.trans hends.symm
    subst hx
    exact ⟨fun hnot => State.checkRunEnd_unmet h (mt hends.mp hnot),
      fun hmet hd => (State.checkRunEnd_met h (hends.mpr hmet)).trans (State.decideRunEnd_deselected hd),
      fun hmet hs hroom => (State.checkRunEnd_met h (hends.mpr hmet)).trans (State.decideRunEnd_reported hs hroom),
      fun hmet hs hfull => (State.checkRunEnd_met h (hends.mpr hmet)).trans (State.decideRunEnd_waits hs hfull),
      State.moveWindow_ahead h,
      fun hpassed => ⟨State.moveWindow_passed h hpassed, fun hunmade => exec_repeatWindowElapse_due h hunmade hpassed⟩,
      State.recheckRunEnd_of_undecided h, State.recheckRunEnd_of_decided h, exec_rxRunEnd_closed h,
      fun t => exec_rxRunEnd_open h⟩
  · have hends : ∀ w : Bool, s.runEnds v { r with windowPassed := w } = true := fun _ =>
      State.runEnds_iff.mpr ⟨hpassed, hclosed, hdrained⟩
    refine ⟨fun hroom => ⟨fun hunmade hnone => ?_, fun t ht => ?_⟩, fun hfull hunmade hnone => ?_⟩
    · rw [exec_repeatWindowElapse_due h hunmade hpassed, State.checkRunEnd_setRun, if_pos (hends true),
        State.decideRunEnd_reported hselected hroom, hnone]
      rfl
    · rw [exec_rxRunEnd_closed h (by simp [ht]) hclosed, State.checkRunEnd_met h (hends r.windowPassed),
        State.decideRunEnd_reported hselected hroom, ht]
      rfl
    · rw [exec_repeatWindowElapse_due h hunmade hpassed, State.checkRunEnd_setRun, if_pos (hends true),
        State.decideRunEnd_waits hselected hfull, hnone]
      rfl

end
end

section
/-! PROOFS. The recognizer's choice: the tolerance test, the candidates in order and the best of those that match (R138 to
R140). -/

namespace Sys2Proof.Machine

/-! ### Distances, matches and scores (R138, R140) -/

theorem distance_eq (m s : Nat) : distance m s = ((m : Int) - s).natAbs := by
  unfold distance
  omega

theorem withinTolerance_iff {t m s : Nat} :
    withinTolerance t m s = true ↔ ((m : Int) - s).natAbs * 100 ≤ s * t + 4000 := by
  rw [withinTolerance, decide_eq_true_iff, distance_eq]

theorem matchesPattern_iff {t : Nat} {cells pattern : List Nat} :
    matchesPattern t cells pattern = true ↔
      cells.length = pattern.length ∧
        ∀ p ∈ cells.zip pattern, ((p.1 : Int) - p.2).natAbs * 100 ≤ p.2 * t + 4000 := by
  simp only [matchesPattern, Bool.and_eq_true, decide_eq_true_eq, List.all_eq_true, withinTolerance_iff]

theorem scoreOf_eq (cells pattern : List Nat) :
    scoreOf cells pattern =
      ((cells.zip pattern).map fun p => ((p.1 : Int) - p.2).natAbs).sum * 1000 / pattern.sum := by
  simp only [scoreOf, distance_eq]

theorem FrameFlags.any_iff (x : FrameFlags) :
    x.any = true ↔ x ≠ { truncated := false, stuck := false, longMark := false } := by
  obtain ⟨a, b, c⟩ := x
  simp [FrameFlags.any, or_iff_not_imp_left]

/-! ### The candidates in order (R139) -/

/-- The order of the table: lower slots first, and the lead section of a slot before its repeat section (R139). -/
def Candidate.upTo (a b : Candidate) : Prop :=
  a.slot < b.slot ∨ (a.slot = b.slot ∧ (a.kind = .lead ∨ b.kind = .rep))

/-- The tolerance of a code in per cent: its own, or MATCH_TOLERANCE (R138). -/
def State.toleranceOf (s : State) (code : Code) : Nat :=
  if code.header.tolerance = 0 then s.params.matchTolerance else code.header.tolerance

theorem Candidate.upTo_rfl (k : Candidate) : k.upTo k := by
  refine .inr ⟨rfl, ?_⟩
  cases k.kind <;> simp

section Candidates

variable {s : State} {i : SlotNo} {k : Candidate}

theorem mem_candidatesOf :
    k ∈ s.candidatesOf i ↔
      k.slot = i ∧ ∃ code, s.slot i = .ready code ∧ code.header.matchable = true ∧ k.cells = code.section k.kind ∧
        k.cells ≠ [] ∧ k.tolerance = s.toleranceOf code := by
  obtain ⟨slot, kind, cells, tolerance⟩ := k
  unfold State.candidatesOf
  split
  · next code hcode =>
    split
    · next hmatchable =>
      have hkind : kind ∈ [FrameKind.lead, FrameKind.rep] := by cases kind <;> simp
      simp only [List.mem_map, List.mem_filter, Bool.not_eq_true', List.isEmpty_eq_false_iff, Candidate.mk.injEq, hcode,
        Slot.ready.injEq, exists_eq_left', hmatchable, true_and]
      constructor
      · rintro ⟨kind', ⟨-, hne⟩, rfl, rfl, rfl, rfl⟩
        exact ⟨rfl, rfl, hne, rfl⟩
      · rintro ⟨rfl, rfl, hne, rfl⟩
        exact ⟨kind, ⟨hkind, hne⟩, rfl, rfl, rfl, rfl⟩
    · next hmatchable => simp [hcode, hmatchable]
  all_goals simp_all

/-- A candidate is a non-empty section of a READY, matchable code, with that code's tolerance (R6, R139). -/
theorem mem_candidates :
    k ∈ s.candidates ↔
      ∃ code, s.slot k.slot = .ready code ∧ code.header.matchable = true ∧ k.cells = code.section k.kind ∧
        k.cells ≠ [] ∧ k.tolerance = s.toleranceOf code := by
  simp only [State.candidates, allSlots, List.mem_flatMap, List.mem_finRange, true_and, mem_candidatesOf,
    exists_eq_left']

theorem candidatesOf_ordered (s : State) (i : SlotNo) : (s.candidatesOf i).Pairwise Candidate.upTo := by
  unfold State.candidatesOf
  split
  · split
    · have hkinds : [FrameKind.lead, FrameKind.rep].Pairwise fun a b => a = .lead ∨ b = .rep := by simp
      exact List.pairwise_map.mpr ((hkinds.filter _).imp fun h => .inr ⟨rfl, h⟩)
    · exact .nil
  all_goals exact .nil

theorem candidates_ordered (s : State) : s.candidates.Pairwise Candidate.upTo := by
  refine List.pairwise_flatMap.mpr ⟨fun i _ => candidatesOf_ordered s i, ?_⟩
  refine (List.pairwise_lt_finRange 128).imp fun {i j} hlt a ha b hb => .inl ?_
  obtain ⟨ha, -⟩ := mem_candidatesOf.mp ha
  obtain ⟨hb, -⟩ := mem_candidatesOf.mp hb
  rwa [ha, hb]

end Candidates

/-! ### The best of them (R140) -/

section Best

variable {cells : List Nat}

/-- Whether a frame of some cells matches a candidate (R139). -/
def Candidate.fits (cells : List Nat) (k : Candidate) : Prop :=
  matchesPattern k.tolerance cells k.cells = true

/-- The best match of a frame among some candidates: none when it matches none of them, and otherwise one with the lowest
score, the first of those in the order of the table (R140). -/
def IsBest (cells : List Nat) (ks : List Candidate) : Option (Candidate × Nat) → Prop
  | none => ∀ c ∈ ks, ¬c.fits cells
  | some (k, n) =>
    k ∈ ks ∧ k.fits cells ∧ n = scoreOf cells k.cells ∧
      ∀ c ∈ ks, c.fits cells → n < scoreOf cells c.cells ∨ (n = scoreOf cells c.cells ∧ k.upTo c)

theorem betterMatch_of_not_fits {c : Candidate} (h : ¬c.fits cells) (best : Option (Candidate × Nat)) :
    betterMatch cells best c = best :=
  if_neg h

theorem betterMatch_none {c : Candidate} (h : c.fits cells) :
    betterMatch cells none c = some (c, scoreOf cells c.cells) :=
  if_pos h

theorem betterMatch_some {c b : Candidate} {n : Nat} (h : c.fits cells) :
    betterMatch cells (some (b, n)) c =
      if scoreOf cells c.cells < n then some (c, scoreOf cells c.cells) else some (b, n) :=
  if_pos h

/-- One candidate more, behind the others in the table. -/
theorem IsBest.betterMatch {ks : List Candidate} {c : Candidate} (hlast : ∀ k ∈ ks, k.upTo c)
    {best : Option (Candidate × Nat)} (h : IsBest cells ks best) :
    IsBest cells (ks ++ [c]) (betterMatch cells best c) := by
  by_cases hc : c.fits cells
  · cases best with
    | none =>
      rw [betterMatch_none hc]
      refine ⟨by simp, hc, rfl, fun d hd hfits => ?_⟩
      obtain hd | rfl : d ∈ ks ∨ d = c := by simpa using hd
      · exact absurd hfits (h d hd)
      · exact .inr ⟨rfl, d.upTo_rfl⟩
    | some b =>
      obtain ⟨b, n⟩ := b
      obtain ⟨hb, hfitsb, hn, hlowest⟩ := h
      rw [betterMatch_some hc]
      split
      · next hlower =>
        refine ⟨by simp, hc, rfl, fun d hd hfits => ?_⟩
        obtain hd | rfl : d ∈ ks ∨ d = c := by simpa using hd
        · have := hlowest d hd hfits
          exact .inl (by omega)
        · exact .inr ⟨rfl, d.upTo_rfl⟩
      · next hnot =>
        refine ⟨by simp [hb], hfitsb, hn, fun d hd hfits => ?_⟩
        obtain hd | rfl : d ∈ ks ∨ d = c := by simpa using hd
        · exact hlowest d hd hfits
        · exact (Nat.lt_or_eq_of_le (Nat.not_lt.mp hnot)).imp_right fun heq => ⟨heq, hlast b hb⟩
  · rw [betterMatch_of_not_fits hc]
    cases best with
    | none =>
      intro d hd
      obtain hd | rfl : d ∈ ks ∨ d = c := by simpa using hd
      · exact h d hd
      · exact hc
    | some b =>
      obtain ⟨b, n⟩ := b
      obtain ⟨hb, hfitsb, hn, hlowest⟩ := h
      refine ⟨by simp [hb], hfitsb, hn, fun d hd hfits => ?_⟩
      obtain hd | rfl : d ∈ ks ∨ d = c := by simpa using hd
      · exact hlowest d hd hfits
      · exact absurd hfits hc

theorem isBest_foldl {ks : List Candidate} (h : ks.Pairwise Candidate.upTo) :
    IsBest cells ks (ks.foldl (betterMatch cells) none) := by
  induction ks using List.reverseRecOn with
  | nil => exact fun c hc => nomatch hc
  | append_singleton ks c ih =>
    obtain ⟨hks, -, hlast⟩ := List.pairwise_append.mp h
    rw [List.foldl_append, List.foldl_cons, List.foldl_nil]
    exact (ih hks).betterMatch fun k hk => hlast k hk c (List.mem_singleton_self c)

end Best

section Choice

variable {s : State} {f : CapturedFrame}

/-- A flagged frame matches nothing (R139). -/
theorem State.bestMatch_flagged (h : f.flags ≠ { truncated := false, stuck := false, longMark := false }) :
    s.bestMatch f = none :=
  if_pos ((FrameFlags.any_iff _).mpr h)

theorem State.bestMatch_isBest (h : f.flags = { truncated := false, stuck := false, longMark := false }) :
    IsBest f.cells s.candidates (s.bestMatch f) := by
  have hbest : s.bestMatch f = s.candidates.foldl (betterMatch f.cells) none :=
    if_neg fun hany => (FrameFlags.any_iff _).mp hany h
  rw [hbest]
  exact isBest_foldl (candidates_ordered s)

/-- What is chosen is a candidate that the frame matches, with its score. -/
theorem State.bestMatch_sound {k : Candidate} {n : Nat} (h : s.bestMatch f = some (k, n)) :
    k ∈ s.candidates ∧ k.fits f.cells ∧ n = scoreOf f.cells k.cells := by
  have hclean : f.flags = { truncated := false, stuck := false, longMark := false } := by
    by_contra hflagged
    exact nomatch h.symm.trans (State.bestMatch_flagged hflagged)
  have hbest := State.bestMatch_isBest (s := s) hclean
  rw [h] at hbest
  obtain ⟨hmem, hfits, hn, -⟩ := hbest
  exact ⟨hmem, hfits, hn⟩

/-- A candidate that an unflagged frame matches is not passed over (R140). -/
theorem State.bestMatch_complete (h : f.flags = { truncated := false, stuck := false, longMark := false })
    {c : Candidate} (hc : c ∈ s.candidates) (hfits : c.fits f.cells) :
    ∃ k n, s.bestMatch f = some (k, n) ∧
      (n < scoreOf f.cells c.cells ∨ (n = scoreOf f.cells c.cells ∧ k.upTo c)) := by
  have hbest := State.bestMatch_isBest (s := s) h
  cases hmatch : s.bestMatch f with
  | none =>
    rw [hmatch] at hbest
    exact absurd hfits (hbest c hc)
  | some b =>
    obtain ⟨k, n⟩ := b
    rw [hmatch] at hbest
    obtain ⟨-, -, -, hlowest⟩ := hbest
    exact ⟨k, n, rfl, hlowest c hc hfits⟩

end Choice

end Sys2Proof.Machine

/-! ### The statement about the best match -/

section

open Sys2Proof Sys2Proof.Machine

/-- Settles O46: the best of the candidates in order, found by the fold over them. -/
theorem bestMatchIsWithinTolerance : Obligations.BestMatchIsWithinTolerance := by
  intro s f tolerance fits scored htolerance hfits hscored
  have hscore : ∀ cells, scoreOf f.cells cells = scored cells := fun cells => by rw [scoreOf_eq, hscored]
  have htol : s.toleranceOf = tolerance := htolerance.symm
  have hfit : ∀ k : Candidate, fits k.tolerance k.cells ↔ k.cells ≠ [] ∧ k.fits f.cells := fun k => by
    rw [hfits, Candidate.fits, matchesPattern_iff]
  refine ⟨State.bestMatch_flagged, fun k n hbest => ?_, fun hclean i code kind hslot hmatchable hsection => ?_⟩
  · obtain ⟨hmem, hkfits, rfl⟩ := State.bestMatch_sound hbest
    obtain ⟨code, hslot, hmatchable, hcells, hne, htolk⟩ := mem_candidates.mp hmem
    exact ⟨⟨code, hslot, hmatchable, hcells, htol ▸ htolk⟩, (hfit k).mpr ⟨hne, hkfits⟩, hscore k.cells⟩
  · obtain ⟨hne, hcfits⟩ :=
      (hfit { slot := i, kind := kind, cells := code.section kind, tolerance := tolerance code }).mp hsection
    have hmem := mem_candidates.mpr ⟨code, hslot, hmatchable, rfl, hne, congrFun htol.symm code⟩
    obtain ⟨k, n, hbest, hlowest⟩ := State.bestMatch_complete hclean hmem hcfits
    rw [hscore] at hlowest
    exact ⟨k, n, hbest, hlowest⟩

end
end

section
/-! PROOFS. LEARN: its checks in order and the learn that it starts (R149). -/

namespace Sys2Proof.Machine

/-! ### The checks (R149) -/

/-- Check 3, spelled out. -/
theorem State.learnable_iff {s : State} {v : InputNo} :
    s.learnable v = true ↔
      (s.input v).mode ≠ .learn ∧ (s.input v).mode ≠ .verify ∧ ∀ j ∈ s.jobs, j.verifyInput ≠ some v := by
  simp only [State.learnable, State.namedByJob, Bool.and_eq_true, Bool.not_eq_true', InputMode.not_isTaken_iff,
    List.any_eq_false, decide_eq_true_eq, and_assoc, ne_eq]

/-- Check 4, spelled out. -/
theorem learnFieldsInRange_iff {p : List Byte} :
    learnFieldsInRange p = true ↔
      (longAt p 2 = 0 ∨ (15000 ≤ longAt p 2 ∧ longAt p 2 ≤ 500000)) ∧
        (byteAt p 6 = 25 ∨ byteAt p 6 = 33 ∨ byteAt p 6 = 50) ∧ 2 ≤ byteAt p 7 ∧ byteAt p 7 ≤ 6 := by
  simp only [learnFieldsInRange, frequencyInRange, dutyInRange, Bool.and_eq_true, Bool.or_eq_true, decide_eq_true_eq,
    and_assoc, or_assoc]

section Checks

variable {s : State} {p : List Byte} {v : InputNo} {i : SlotNo}

theorem State.learnOn_slotState (h : s.slot i ≠ .empty) :
    s.learnOn p v i = s.refuse .slotState (u8 i.val ++ u8 (s.slot i).code) :=
  if_pos h

theorem State.learnOn_busy (h : s.slot i = .empty) {x : LearnContext} (hx : s.table.learn = some x) :
    s.learnOn p v i = s.refuse .busy (u8 x.slot.val ++ u8 x.input.val) := by
  simp only [State.learnOn, if_neg (not_not.mpr h), hx]

theorem State.learnOn_inputBusy (h : s.slot i = .empty) (hx : s.table.learn = none) (hv : ¬s.learnable v = true) :
    s.learnOn p v i = s.refuse .inputBusy (u8 v.val ++ u8 (s.input v).mode.code) := by
  have hv : (!s.learnable v) = true := by simpa using hv
  simp only [State.learnOn, if_neg (not_not.mpr h), hx, if_pos hv]

/-- A learn on an EMPTY slot, with none in progress and an input that may be taken: by its fields (R149). -/
theorem State.learnOn_free (h : s.slot i = .empty) (hx : s.table.learn = none) (hv : s.learnable v = true) :
    s.learnOn p v i =
      if learnFieldsInRange p then
        (s.startLearn (s.newLearn p v i)).answer
          (reply .ok (u8 i.val ++ u8 v.val ++ u32 (s.newLearn p v i).deadline.expiry))
      else s.refuse .range (u8 i.val) := by
  have hv : ¬(!s.learnable v) = true := by simp [hv]
  simp only [State.learnOn, if_neg (not_not.mpr h), hx, if_neg hv]
  cases learnFieldsInRange p <;> rfl

end Checks

/-! ### The learn that starts (R149) -/

/-- A learn starts on an EMPTY slot, which leaves the pool. -/
theorem State.startLearn_of_empty {s : State} {x : LearnContext} (h : s.slot x.slot = .empty) :
    s.startLearn x =
      { s with
        table :=
          { s.table with slots := s.table.slots.set x.slot.val .learning x.slot.isLt, learn := some x }
        inputs :=
          s.inputs.set x.input.val
            { s.input x.input with mode := .learn, savedMode := some (s.input x.input).mode } x.input.isLt } := by
  unfold State.startLearn
  rw [State.putSlot_of_blocks_eq (by rw [h]; rfl)]
  rfl

section Command

variable {s : State} {c : CommandFrame} {p : List Byte}

theorem exec_learn_range (h : s.takes c .learn) (hp : c.payload = p) (hlen : p.length = 8)
    (hbad : 1 < byteAt p 0 ∨ 127 < byteAt p 1) :
    exec .learn s = .next (s.answered c (reply .range (u8 (byteAt p 1)))) := by
  refine congrArg Host.Outcome.next (State.takeCommand_answers h hp (decide_eq_true hlen) ?_)
  unfold actLearn
  obtain hv | hi := hbad
  · rw [inputOf_eq_none hv]
    rfl
  · rw [slotOf_eq_none hi]
    cases inputOf (byteAt p 0) <;> rfl

/-- LEARN of an input and a slot that exist answers as its checks decide. -/
theorem exec_learn_named (h : s.takes c .learn) (hp : c.payload = p) (hlen : p.length = 8) {v : InputNo}
    (hv : v.val = byteAt p 0) {i : SlotNo} (hi : i.val = byteAt p 1) {u : State} {fields : List Byte}
    (hlearn : s.popCommand.learnOn p v i = u.answer fields) : exec .learn s = .next (u.replied c fields) := by
  refine congrArg Host.Outcome.next (State.takeCommand_answers h hp (decide_eq_true hlen) (.trans ?_ hlearn))
  unfold actLearn
  rw [inputOf_eq_some hv, slotOf_eq_some hi]

end Command

end Sys2Proof.Machine

/-! ### The statement about LEARN -/

section

open Sys2Proof Sys2Proof.Machine

/-- Settles O41: a slot and an input that exist are learnt on by the checks in their order. -/
theorem learnAnswers : Obligations.LearnAnswers := by
  intro s c b sl f3 f2 f1 f0 d n f h hp hf
  refine ⟨fun hbad => ?_, fun v i r hv hi hr inRange hrange => ?_⟩
  · rw [exec_learn_range h hp rfl hbad]
    exact congrArg (fun x => Host.Outcome.next (s.answered c (0x02#8 :: x))) (u8_toNat sl)
  · subst hr
    have hslot : u8 i.val = [sl] := hi ▸ u8_toNat sl
    have hinput : u8 v.val = [b] := hv ▸ u8_toNat b
    have hfrequency : longAt [b, sl, f3, f2, f1, f0, d, n] 2 = f := (longAt_eq _ 2).trans hf.symm
    have hfields : learnFieldsInRange [b, sl, f3, f2, f1, f0, d, n] = true ↔ inRange := by
      have hd : ∀ m : Byte, d.toNat = m.toNat ↔ d = m := fun m => BitVec.toNat_inj
      rw [learnFieldsInRange_iff, hfrequency, hrange, ← hd, ← hd, ← hd]
      rfl
    have hlearn : ∀ {u : State} {fields : List Byte},
        s.popCommand.learnOn [b, sl, f3, f2, f1, f0, d, n] v i = u.answer fields →
          exec .learn s = .next (u.replied c fields) := exec_learn_named h hp rfl hv hi
    refine ⟨fun hne => ?_, fun x he hx => ?_, fun he hx htaken => ?_, fun he hx hl hv' hj => ?_⟩
    · have := hlearn (State.learnOn_slotState hne)
      rwa [hslot] at this
    · exact hlearn (State.learnOn_busy (s := s.popCommand) he hx)
    · have := hlearn (State.learnOn_inputBusy he hx fun hfree => by
        obtain ⟨hl, hv', hj⟩ := State.learnable_iff.mp hfree
        obtain ht | ht | ⟨j, hjm, ht⟩ := htaken
        · exact hl ht
        · exact hv' ht
        · exact hj j hjm ht)
      rwa [hinput] at this
    · have hfree := State.learnOn_free (p := [b, sl, f3, f2, f1, f0, d, n]) (s := s.popCommand) he hx
        (State.learnable_iff.mpr ⟨hl, hv', hj⟩)
      rw [hslot, hinput] at hfree
      refine ⟨fun hbad => ?_, fun hgood => ?_⟩
      · rw [if_neg (mt hfields.mp hbad)] at hfree
        exact hlearn hfree
      · rw [if_pos (hfields.mpr hgood), State.startLearn_of_empty he] at hfree
        rw [hlearn hfree, ← hfrequency]
        rfl

end
end

section
/-! PROOFS. How a learn ends, and what the learner does with a frame at the head of the capture queue (R148, R150 to
R154). -/

namespace Sys2Proof.Machine

/-! ### The end of a learn (R153) -/

section End

variable {s : State} {x : LearnContext}

/-- An input given back, in one piece: its mode is the saved one, and an open frame is discarded when that is OFF (R125,
R126). -/
def State.returned (s : State) (v : InputNo) : State :=
  let r := s.input v
  let back := r.savedMode.getD r.mode
  let discards := decide (back = .off) && r.engine.isInFrame
  let u :=
    s.setInput v
      { r with
        mode := back, savedMode := none
        engine := if discards then .discarding (s.endGap v) else r.engine }
  if discards then u.checkRunEnd v else u

theorem State.giveBackInput_eq_returned (s : State) (v : InputNo) : s.giveBackInput v = s.returned v := by
  unfold State.giveBackInput State.returned State.discardOpen
  simp only [State.input_setInput_self, State.setInput_setInput, Bool.and_eq_true, decide_eq_true_eq]
  by_cases hoff : (s.input v).savedMode.getD (s.input v).mode = .off
  · simp only [hoff, true_and, if_true]
    cases (s.input v).engine.isInFrame <;> rfl
  · simp only [hoff, false_and, if_false]

/-- The steps of a learn's end on a slot that was LEARNING, in one piece. -/
theorem State.learnEnded_eq (h : s.slot x.slot = .learning) (slot : Slot) (result : LearnResult) (lead rep : Nat) :
    (((s.putSlot x.slot slot).produce (.learnEnd x.slot x.input result x.taken lead rep)).setLearn none).giveBackInput
        x.input =
      s.learnEnded x slot result lead rep := by
  have hpool : s.table.freeBlocks + (s.slot x.slot).blocks = s.table.freeBlocks := by
    rw [h]
    rfl
  unfold State.putSlot
  rw [hpool, State.giveBackInput_eq_returned]
  rfl

/-- A learn that stores no code empties its slot. -/
theorem State.endLearn_empties (h : s.slot x.slot = .learning) (result : LearnResult) (lead rep : Nat) :
    s.endLearn x result lead rep = s.learnEnded x .empty result lead rep := by
  rw [← State.learnEnded_eq h]
  simp only [State.endLearn, h]

/-- A learn whose code has been stored leaves the slot READY. -/
theorem State.endLearn_stored (h : s.slot x.slot = .learning) (code : Code) (lead rep : Nat) :
    (s.putSlot x.slot (.ready code)).endLearn x .stored lead rep = s.learnEnded x (.ready code) .stored lead rep := by
  rw [← State.learnEnded_eq h]
  simp only [State.endLearn, State.slot_putSlot_self]

/-! ### LEARN_CANCEL and LEARN_DEADLINE (R154) -/

theorem exec_learnDeadline_none (h : s.table.learn = none) : exec .learnDeadline s = .next s := by
  change execLearnDeadline s = _
  simp only [execLearnDeadline, h]

theorem exec_learnDeadline_some (h : s.table.learn = some x) :
    exec .learnDeadline s = .next (if x.deadline.reached s.now then s.endLearn x .timeout 0 0 else s) := by
  change execLearnDeadline s = _
  simp only [execLearnDeadline, h]

theorem exec_learnDeadline_early (h : s.table.learn = some x)
    (hearly : (s.now - x.deadline.start).toNat < x.deadline.length) : exec .learnDeadline s = .next s := by
  have hnot : x.deadline.reached s.now = false := decide_eq_false (Nat.not_le.mpr hearly)
  rw [exec_learnDeadline_some h, hnot]
  rfl

theorem exec_learnDeadline_reached (h : s.table.learn = some x) (hslot : s.slot x.slot = .learning)
    (hreached : x.deadline.length ≤ (s.now - x.deadline.start).toNat) :
    exec .learnDeadline s = .next (s.learnEnded x .empty .timeout 0 0) := by
  have hreached : x.deadline.reached s.now = true := decide_eq_true hreached
  rw [exec_learnDeadline_some h, if_pos hreached, State.endLearn_empties hslot]

theorem exec_learnCancel_none {c : CommandFrame} (h : s.table.learn = none) (ht : s.takes c .learnCancel)
    (hp : c.payload = []) : exec .learnCancel s = .next (s.answered c [0x03#8]) := by
  refine congrArg Host.Outcome.next (State.takeCommand_answers ht hp rfl ?_)
  simp only [actLearnCancel, State.popCommand_table, h]
  rfl

theorem exec_learnCancel_some {c : CommandFrame} (h : s.table.learn = some x) (hslot : s.slot x.slot = .learning)
    (ht : s.takes c .learnCancel) (hp : c.payload = []) :
    exec .learnCancel s =
      .next ((s.popCommand.learnEnded x .empty .cancelled 0 0).replied c
        [0x00#8, BitVec.ofNat 8 x.slot.val, BitVec.ofNat 8 x.input.val]) := by
  refine congrArg Host.Outcome.next (State.takeCommand_answers ht hp rfl ?_)
  simp only [actLearnCancel, State.popCommand_table, h]
  rw [State.endLearn_empties (s := s.popCommand) hslot]
  rfl

end End

/-! ### Patterns (R148, R151) -/

section Patterns

variable {x : LearnContext} {t : Nat} {cells : List Nat}

/-- Whether cells match the average of a pattern, in the pattern's sums (R138, R148). -/
theorem matchesPattern_average_iff {p : Pattern} :
    matchesPattern t cells p.average = true ↔
      cells.length = p.sums.length ∧
        ∀ q ∈ cells.zip p.average, ((q.1 : Int) - q.2).natAbs * 100 ≤ q.2 * t + 4000 := by
  rw [matchesPattern_iff, Pattern.average, List.length_map]

theorem LearnContext.sort_first (h : x.patternA = none) :
    x.sort t cells = some { x with patternA := some (.ofCells cells) } := by
  simp only [LearnContext.sort, h]

/-- A frame that fits pattern A joins it, until one has been put in B. -/
theorem LearnContext.sort_intoA {a : Pattern} (h : x.patternA = some a) (hfits : matchesPattern t cells a.average = true) :
    x.sort t cells = if x.phase = .aOnly then some { x with patternA := some (a.add cells) } else none := by
  simp only [LearnContext.sort, h, if_pos hfits]
  cases x.phase <;> rfl

theorem LearnContext.sort_opensB {a : Pattern} (h : x.patternA = some a)
    (hmisfits : ¬matchesPattern t cells a.average = true) (hb : x.patternB = none) :
    x.sort t cells = some { x with patternB := some (.ofCells cells), phase := .bSeen } := by
  simp only [LearnContext.sort, h, if_neg hmisfits, LearnContext.sortIntoB, hb]

theorem LearnContext.sort_intoB {a b : Pattern} (h : x.patternA = some a)
    (hmisfits : ¬matchesPattern t cells a.average = true) (hb : x.patternB = some b) :
    x.sort t cells =
      if matchesPattern t cells b.average then some { x with patternB := some (b.add cells) } else none := by
  simp only [LearnContext.sort, h, if_neg hmisfits, LearnContext.sortIntoB, hb]

/-- Sorting a frame writes the patterns and the phase only. -/
theorem LearnContext.sort_writes {y : LearnContext} (h : x.sort t cells = some y) :
    y = { x with patternA := y.patternA, patternB := y.patternB, phase := y.phase } := by
  unfold LearnContext.sort LearnContext.sortIntoB at h
  repeat' split at h
  all_goals cases h <;> rfl

/-- Every frame but the first enters the minimum gap (R151, step 5). -/
theorem LearnContext.noteGap_eq (x y : LearnContext) (gap : Option Nat) :
    x.noteGap y gap =
      { y with minimumGap := if x.taken = 0 then y.minimumGap else smallerGap y.minimumGap gap } := by
  unfold LearnContext.noteGap
  split <;> rfl

end Patterns

/-! ### The code that is built (R152) -/

section Built

variable {s : State} {x : LearnContext}

theorem storedCells_eq {stored : Option Pattern → List Nat} (hnone : stored none = [])
    (hsome : ∀ p : Pattern, stored (some p) = p.average.map (max 8)) : storedCells = stored := by
  funext p
  cases p with
  | none => exact hnone.symm
  | some p => exact (hsome p).symm

theorem LearnContext.leadSection_eq (x : LearnContext) :
    x.leadSection = if x.patternB = none then [] else storedCells x.patternA := by
  unfold LearnContext.leadSection
  cases x.patternB <;> rfl

theorem LearnContext.repeatSection_eq (x : LearnContext) :
    x.repeatSection = if x.patternB = none then storedCells x.patternA else storedCells x.patternB := by
  unfold LearnContext.repeatSection
  cases x.patternB <;> rfl

/-- A code without pattern B is a COUNT code, one with it a HOLD code. -/
theorem LearnContext.code_eq (x : LearnContext) :
    x.code =
      { header :=
          { label := 0#32, frequency := x.frequency, duty := x.duty
            mode := if x.patternB = none then .count else .hold
            repeatFigure := 1, leadCells := x.leadSection.length, repeatCells := x.repeatSection.length
            trailGap := max 1000 (min 500000 (x.minimumGap.getD 0)), matchable := true, tolerance := 0 }
        cells := x.leadSection ++ x.repeatSection
        checksum := crcCells 0xFFFF#16 (x.leadSection ++ x.repeatSection), refs := 0 } := by
  unfold LearnContext.code
  cases x.patternB <;> rfl

theorem LearnContext.code_blocks (x : LearnContext) :
    x.code.header.blocks = (x.leadSection.length + x.repeatSection.length + 15) / 16 := rfl

theorem State.buildLearned_fits (h : s.slot x.slot = .learning) (hroom : x.code.header.blocks ≤ s.table.freeBlocks) :
    s.buildLearned x =
      s.learnEnded x (.ready x.code) .stored x.leadSection.length x.repeatSection.length := by
  simp only [State.buildLearned, if_pos hroom, h]
  exact State.endLearn_stored h ..

theorem State.buildLearned_full (h : s.slot x.slot = .learning) (hfull : s.table.freeBlocks < x.code.header.blocks) :
    s.buildLearned x = s.learnEnded x .empty .poolFull x.leadSection.length x.repeatSection.length := by
  simp only [State.buildLearned, if_neg (Nat.not_le.mpr hfull)]
  exact State.endLearn_empties h ..

end Built

/-! ### The frame that the learner takes or declines (R150, R151) -/

section Frame

variable {s : State} {x : LearnContext} {f : CapturedFrame}

theorem State.offerLearner_none (h : s.table.learn = none) : s.offerLearner f = s := by
  simp only [State.offerLearner, h]

theorem State.offerLearner_declines (h : s.table.learn = some x)
    (hnot : x.input ≠ f.input ∨ 32768 ≤ (f.number + 65536 - x.firstFrame) % 65536) : s.offerLearner f = s := by
  simp only [State.offerLearner, h]
  refine if_neg ?_
  rintro ⟨hinput, hnumber⟩
  exact hnot.elim (fun hne => hne hinput.symm) fun hearlier => Nat.not_lt.mpr hearlier (of_decide_eq_true hnumber)

theorem State.offerLearner_takes (h : s.table.learn = some x) (hinput : x.input = f.input)
    (hnumber : (f.number + 65536 - x.firstFrame) % 65536 < 32768) : s.offerLearner f = s.learnFrame x f := by
  simp only [State.offerLearner, h]
  exact if_pos ⟨hinput.symm, decide_eq_true hnumber⟩

theorem State.learnFrame_flagged (h : f.flags ≠ { truncated := false, stuck := false, longMark := false }) :
    s.learnFrame x f = s.endLearn x .badFrame 0 0 :=
  if_pos ((FrameFlags.any_iff _).mpr h)

theorem State.learnFrame_inconsistent (h : f.flags = { truncated := false, stuck := false, longMark := false })
    (hsort : x.sort s.params.matchTolerance f.cells = none) :
    s.learnFrame x f = s.endLearn x .inconsistent 0 0 := by
  have hclean : ¬f.flags.any = true := fun hany => (FrameFlags.any_iff _).mp hany h
  simp only [State.learnFrame, if_neg hclean, hsort]

/-- A frame that is sorted enters the context, and the last one wanted has the code built. -/
theorem State.learnFrame_sorted (h : f.flags = { truncated := false, stuck := false, longMark := false })
    {y z : LearnContext} (hsort : x.sort s.params.matchTolerance f.cells = some y) (hz : x.noteGap y f.gapBefore = z) :
    s.learnFrame x f =
      if z.wanted ≤ z.taken then (s.setLearn (some z)).buildLearned z else s.setLearn (some z) := by
  have hclean : ¬f.flags.any = true := fun hany => (FrameFlags.any_iff _).mp hany h
  subst hz
  simp only [State.learnFrame, if_neg hclean, hsort]

/-- The dispatch of a head that is the learner's: it is offered to it, the entry leaves and the rest is dispatched (R134,
R150). -/
theorem State.dispatch_learner {rest : List CapturedFrame} (hc : s.captures = f :: rest) (h : f.consumer = .learner) :
    s.dispatch = ((s.offerLearner f).headLeft rest f.input).dispatch ∧
      (rest = [] → s.dispatch = (s.offerLearner f).headLeft rest f.input) := by
  have hconsume : s.consume f = some (s.offerLearner f) := by simp only [State.consume, h]
  have hcaptures : (s.offerLearner f).captures = f :: rest := by simp [hc]
  have hleave := State.leaveQueue_eq (f := f) (by simp [h]) hcaptures
  have hrest : ((s.offerLearner f).leaveQueue f).captures = rest := by
    rw [hleave, State.headLeft]
    simp
  have hjobs : ((s.offerLearner f).leaveQueue f).jobs = s.jobs := by
    rw [hleave, State.headLeft]
    simp
  rw [← hleave]
  exact State.dispatch_consumes hc hconsume hrest hjobs

end Frame

end Sys2Proof.Machine

/-! ### The statement about the end of a learn -/

section

open Sys2Proof Sys2Proof.Machine

/-- Settles O42: the two commands by the learn in progress; the head is offered to the learner, and its frame is declined,
ends the learn, or enters its context. -/
theorem learnsEnd : Obligations.LearnsEnd := by
  refine ⟨fun s c => ⟨fun h => ⟨exec_learnDeadline_none h, exec_learnCancel_none h⟩, fun x h hslot =>
    ⟨exec_learnDeadline_early h, exec_learnDeadline_reached h hslot, exec_learnCancel_some h hslot⟩⟩, ?_⟩
  intro s f rest v leads hc hv hconsumer hleads
  subst hv
  have hlead : ∀ u, s.offerLearner f = u → leads (u.headLeft rest f.input) := by
    rintro _ rfl
    obtain ⟨hnext, hlast⟩ := State.dispatch_learner hc hconsumer
    rw [hleads]
    exact ⟨congrArg Host.Outcome.next hnext, fun hempty => congrArg Host.Outcome.next (hlast hempty)⟩
  refine ⟨fun h => hlead _ (State.offerLearner_none h), fun x hx =>
    ⟨fun hnot => hlead _ (State.offerLearner_declines hx hnot), fun hinput hnumber hslot => ?_⟩⟩
  have htake := State.offerLearner_takes hx hinput hnumber
  refine ⟨fun hflagged => hlead _ ?_, fun hclean average fits sorted haverage hfits hsorted => ?_⟩
  · rw [htake, State.learnFrame_flagged hflagged, State.endLearn_empties hslot]
  have hfit : fits = fun p => matchesPattern s.params.matchTolerance f.cells p.average := by
    rw [hfits, haverage]
    funext p
    rw [Bool.eq_iff_iff, matchesPattern_average_iff, decide_eq_true_iff]
    rfl
  have hsort : x.sort s.params.matchTolerance f.cells = sorted := by
    rw [hsorted, hfit]
    cases hA : x.patternA with
    | none => exact LearnContext.sort_first hA
    | some a =>
      by_cases ha : matchesPattern s.params.matchTolerance f.cells a.average = true
      · rw [LearnContext.sort_intoA hA ha]
        exact (if_pos ha).symm
      · refine .trans ?_ (if_neg ha).symm
        cases hB : x.patternB with
        | none => rw [LearnContext.sort_opensB hA ha hB, hA]; rfl
        | some b => rw [LearnContext.sort_intoB hA ha hB, hA]; rfl
  refine ⟨fun hnone => hlead _ ?_, fun y z t hy hz ht => ?_⟩
  · rw [htake, State.learnFrame_inconsistent hclean (hsort.trans hnone), State.endLearn_empties hslot]
  have hkeeps := LearnContext.sort_writes (hsort.trans hy)
  have hnote : x.noteGap y f.gapBefore = z := by
    have hgap : y.minimumGap = x.minimumGap := by rw [hkeeps]
    rw [LearnContext.noteGap_eq, hz, hgap]
    unfold smallerGap
    cases x.minimumGap <;> cases f.gapBefore <;> rfl
  have hframe := htake.trans (State.learnFrame_sorted hclean (hsort.trans hy) hnote)
  have ht : s.setLearn (some z) = t := ht.symm
  rw [ht] at hframe
  refine ⟨fun hmore => hlead _ (hframe.trans (if_neg (Nat.not_le.mpr hmore))),
    fun hlast stored lead rep code hstored hleadcells hrep hcode => ?_⟩
  rw [if_pos hlast] at hframe
  obtain ⟨hsame, hfrequency, hduty⟩ : z.slot = x.slot ∧ z.frequency = x.frequency ∧ z.duty = x.duty := by
    rw [hz, hkeeps]
    exact ⟨rfl, rfl, rfl⟩
  have hzslot : t.slot z.slot = .learning := by
    rw [← ht, hsame]
    exact hslot
  have hcells : storedCells = stored := by
    subst hstored haverage
    exact storedCells_eq rfl fun _ => rfl
  have hl : z.leadSection = lead := by rw [LearnContext.leadSection_eq, hcells, hleadcells]
  have hr : z.repeatSection = rep := by rw [LearnContext.repeatSection_eq, hcells, hrep]
  have hbuilt : z.code = code := by rw [LearnContext.code_eq, hl, hr, hfrequency, hduty, hcode]
  have hblocks := z.code_blocks
  rw [hl, hr] at hblocks
  have hpool : t.table.freeBlocks = s.table.freeBlocks := ht ▸ rfl
  refine ⟨fun hroom => hlead _ ?_, fun hfull => hlead _ ?_⟩
  · rw [hframe, State.buildLearned_fits hzslot (by rwa [hblocks, hpool]), hbuilt, hl, hr]
  · rw [hframe, State.buildLearned_full hzslot (by rwa [hblocks, hpool]), hl, hr]

end
end

section
/-! PROOFS. The settling check and its verdict (R158, R159), and the VERIFY frame at the head of the capture queue, which the
verifier takes or declines (R134, R157). -/

namespace Sys2Proof.Machine

/-! ### The settling check (R158) -/

section Settling

variable {s : State} {v : InputNo} {r : VerifyRecord} {j : Job}

theorem exec_verifyVerdict_eq (s : State) (v : InputNo) :
    exec (.verifyVerdict v) s = .next ((s.checkSettled v).arbiterAfter s) := rfl

theorem State.checkSettled_of_no_record (h : (s.input v).verify = none) : s.checkSettled v = s := by
  simp only [State.checkSettled, h]

theorem State.checkSettled_of_record (h : (s.input v).verify = some r) :
    s.checkSettled v = if s.settled v r then s.giveVerdict v r else s := by
  simp only [State.checkSettled, h]

/-- The conditions of the verdict on a live job, spelled out (R158). -/
theorem State.settled_iff (hj : s.job? r.job = some j) :
    s.settled v r = true ↔
      j.state = .settling ∧ (s.input v).engine.isInFrame = false ∧
        ∀ f ∈ s.captures, f.input = v → f.consumer ≠ .verifier := by
  simp only [State.settled, State.verifierEntry, hj, Bool.and_eq_true, decide_eq_true_eq, Bool.not_eq_true',
    List.any_eq_false, not_and, and_assoc]

/-- A job that is not SETTLING, or whose input has not drained, gets no verdict (R158). -/
theorem State.checkSettled_waits (hr : (s.input v).verify = some r) (hj : s.job? r.job = some j)
    (h : j.state ≠ .settling ∨ (s.input v).engine.isInFrame = true ∨
      ∃ f ∈ s.captures, f.input = v ∧ f.consumer = .verifier) : s.checkSettled v = s := by
  rw [State.checkSettled_of_record hr]
  refine if_neg fun hsettled => ?_
  obtain ⟨hstate, hclosed, hdrained⟩ := (State.settled_iff hj).mp hsettled
  obtain hother | hopen | ⟨f, hf, hinput, hconsumer⟩ := h
  · exact hother hstate
  · exact nomatch hopen.symm.trans hclosed
  · exact hdrained f hf hinput hconsumer

theorem State.checkSettled_gives (hr : (s.input v).verify = some r) (hj : s.job? r.job = some j)
    (hstate : j.state = .settling) (hclosed : (s.input v).engine.isInFrame = false)
    (hdrained : ∀ f ∈ s.captures, f.input = v → f.consumer ≠ .verifier) : s.checkSettled v = s.giveVerdict v r := by
  rw [State.checkSettled_of_record hr]
  exact if_pos ((State.settled_iff hj).mpr ⟨hstate, hclosed, hdrained⟩)

/-- A settling check that gives no verdict removes no job, so that the arbiter does not run (R69, R158). -/
theorem exec_verifyVerdict_idle (h : s.checkSettled v = s) : exec (.verifyVerdict v) s = .next s := by
  rw [exec_verifyVerdict_eq, h, State.arbiterAfter_of_jobs rfl]

/-! ### The verdict (R159) -/

theorem VerifyRecord.verdict_eq (r : VerifyRecord) :
    r.verdict =
      if r.mismatch ≠ none then .fail else if r.seen = 0 then .noSignal
      else if r.seen < r.emitted then .partly else .pass := by
  simp only [VerifyRecord.verdict, Option.isSome_iff_ne_none]

/-- A job's record with the verdict placed in it (R159). -/
def Job.judged (j : Job) (r : VerifyRecord) : Job :=
  { j with verify := { result := r.verdict, seen := r.seen, matched := r.matched, mismatch := r.mismatch } }

/-- An input with its verify record dropped and its saved mode back (R125, R159). -/
def RxInput.unbound (x : RxInput) : RxInput :=
  { x with verify := none, mode := x.savedMode.getD x.mode, savedMode := none }

/-- With no frame open, an input that is given back has nothing to discard (R126). -/
theorem State.givenBack_of_closed (h : (s.input v).engine.isInFrame = false) :
    s.givenBack v = s.setInput v (s.input v).unbound := by
  simp only [State.givenBack, h, Bool.and_false, Bool.false_eq_true, if_false]
  rfl

/-- The verdict on a drained input: the job is removed with the verdict in its record. -/
theorem State.giveVerdict_of_closed (hid : r.job = j.id) (h : (s.input v).engine.isInFrame = false) :
    s.giveVerdict v r =
      ((s.setInput v (s.input v).unbound).updateJob j.id fun k => k.judged r).finishJob j.id := by
  rw [← State.givenBack_of_closed h, ← State.updateJob_givenBack, ← State.unbind_eq_givenBack, ← hid]
  rfl

/-- The record with which a SETTLING job is reported. -/
theorem State.job?_judged (hj : s.job? j.id = some j) (x : RxInput) :
    ((s.setInput v x).updateJob j.id fun k => k.judged r).job? j.id = some (j.judged r) :=
  State.job?_updateJob (s := s.setInput v x) hj fun _ => rfl

section Given

variable (hid : r.job = j.id) (h : (s.input v).engine.isInFrame = false)
include hid h

/-- The verdict writes the input it is given on, and no other (R125, R159). -/
theorem State.giveVerdict_input (w : InputNo) :
    (s.giveVerdict v r).input w = if w = v then (s.input v).unbound else s.input w := by
  have hinputs : (s.giveVerdict v r).inputs = (s.setInput v (s.input v).unbound).inputs := by
    rw [State.giveVerdict_of_closed hid h]
    simp only [State.finishJob_keeps, State.updateJob_keeps]
  exact (congrArg (·[w]) hinputs).trans (State.input_setInput ..)

variable (hj : s.job? j.id = some j)
include hj

/-- A SETTLING job that is given its verdict leaves the queue and gives up its reference (R106, R159). -/
theorem State.giveVerdict_removes :
    (s.giveVerdict v r).jobs = s.jobs.filter (fun m => decide (m.id ≠ j.id)) ∧
      ∀ i, (s.giveVerdict v r).slot i = if i = j.slot then (s.slot i).withoutReference else s.slot i := by
  have hlive := State.job?_judged (v := v) (r := r) hj (s.input v).unbound
  have hslots := State.finishJob_slot hlive
  rw [State.giveVerdict_of_closed hid h]
  exact ⟨(State.finishJob_jobs hlive).trans (filter_map_ite_id (f := fun k => k.judged r) (fun _ => rfl) s.jobs j.id),
    hslots⟩

/-- JOB_END carries the verdict (R107, R159). -/
theorem State.giveVerdict_endReported : s.endReported (j.judged r) (s.giveVerdict v r) := by
  rw [State.giveVerdict_of_closed hid h]
  exact State.finishJob_endReported (State.job?_judged hj _) rfl rfl

/-- On a READY slot, with JOB selected and an entry free, the verdict's JOB_END joins and nothing else does (R106, R170). -/
theorem State.giveVerdict_line {k : Code} (hslot : s.slot j.slot = .ready k) (hselected : s.line.categories.getLsbD 1 = true)
    (hroom : s.line.reports.length < 32) :
    (s.giveVerdict v r).line = s.line.join (.jobEnd (j.judged r) k.header.label) := by
  have hcode : s.code? (j.judged r).slot = some k := congrArg Slot.code? hslot
  have hready : s.slot (j.judged r).slot = .ready k := hslot
  have hreported := State.giveVerdict_endReported hid h hj k _ hcode rfl
  rw [hready, if_neg (by simp [hselected]), if_pos hroom] at hreported
  exact hreported

theorem State.giveVerdict_fewer : (s.giveVerdict v r).jobs.length < s.jobs.length := by
  rw [(State.giveVerdict_removes hid h hj).1, List.length_filter_lt_length_iff_exists]
  exact ⟨j, List.mem_of_find?_eq_some hj, by simp⟩

end Given

end Settling

/-! ### Jobs that dispatch removes (R69, R134) -/

theorem State.finishJob_jobs_length_le (s : State) (id : Nat) : (s.finishJob id).jobs.length ≤ s.jobs.length := by
  cases hj : s.job? id with
  | none => simp only [State.finishJob, hj, le_refl]
  | some j =>
    rw [State.finishJob_jobs hj]
    exact List.length_filter_le ..

theorem State.updateJob_jobs_length (s : State) (id : Nat) (f : Job → Job) :
    (s.updateJob id f).jobs.length = s.jobs.length :=
  List.length_map ..

theorem State.checkSettled_jobs_length_le (s : State) (v : InputNo) : (s.checkSettled v).jobs.length ≤ s.jobs.length := by
  unfold State.checkSettled
  split
  · exact le_refl _
  · split
    · refine (State.finishJob_jobs_length_le ..).trans (le_of_eq ?_)
      simp [State.updateJob_jobs_length]
    · exact le_refl _

theorem State.leaveQueue_jobs_length_le (s : State) (f : CapturedFrame) :
    (s.leaveQueue f).jobs.length ≤ s.jobs.length := by
  have hkeeps : ((s.setCaptures s.captures.tail).checkRunEnd f.input).jobs = s.jobs := by simp
  have hsettled := State.checkSettled_jobs_length_le ((s.setCaptures s.captures.tail).checkRunEnd f.input) f.input
  unfold State.leaveQueue
  cases f.consumer with
  | verifier => exact hkeeps ▸ hsettled
  | recognizer | rawForwarder | learner => exact (congrArg List.length hkeeps).le

theorem tryHeads_jobs_length_le (n : Nat) (s : State) : (tryHeads n s).jobs.length ≤ s.jobs.length := by
  induction n generalizing s with
  | zero => exact le_refl _
  | succ n ih =>
    unfold tryHeads
    split
    · next t hhead =>
      refine (ih t).trans ?_
      unfold State.tryHead at hhead
      split at hhead
      · cases hhead
      · obtain ⟨u, hu, rfl⟩ := Option.map_eq_some_iff.mp hhead
        obtain ⟨-, -, -, hjobs, -⟩ := State.consume_keeps hu
        exact hjobs ▸ u.leaveQueue_jobs_length_le _
    · exact le_refl _

theorem State.startJob_jobs_length (s : State) (j : Job) (h : Header) (g : Option (Fin 4)) :
    (s.startJob j h g).jobs.length = s.jobs.length := by
  simp [State.startJob, State.beginFrame, State.updateJob_jobs_length]

theorem arbiterScan_jobs_length (js : List Job) (blocked : ZoneSet) (s : State) :
    (arbiterScan js blocked s).jobs.length = s.jobs.length := by
  induction js generalizing blocked s with
  | nil => rfl
  | cons j js ih =>
    unfold arbiterScan
    split
    · split
      · exact (ih ..).trans (s.startJob_jobs_length ..)
      · exact ih ..
    · exact ih ..

/-- The start arbiter neither admits nor removes a job (R70). -/
theorem State.runArbiter_jobs_length (s : State) : s.runArbiter.jobs.length = s.jobs.length :=
  arbiterScan_jobs_length ..

/-! ### A head that leaves (R69, R134) -/

section Head

variable {s t u : State} {f : CapturedFrame} {rest : List CapturedFrame}

theorem State.arbiterAfter_of_length (h : t.jobs.length = s.jobs.length) (w : State) :
    w.arbiterAfter s = w.arbiterAfter t := by
  unfold State.arbiterAfter
  rw [h]

/-- A head that is consumed leaves, the entries behind it are tried, and the arbiter runs at the end of it all. -/
theorem State.dispatch_cons (hc : s.captures = f :: rest) (hconsume : s.consume f = some u) :
    s.dispatch = (tryHeads rest.length (u.leaveQueue f)).arbiterAfter s := by
  have hhead : s.tryHead = some (u.leaveQueue f) := by
    simp only [State.tryHead, hc, hconsume, Option.map_some]
  rw [State.dispatch, hc, List.length_cons, tryHeads, hhead]

/-- The arbiter that a removal calls for runs once: in the dispatch of the rest when that removes a job too, and otherwise
behind it. -/
theorem State.arbiterAfter_removal (h : t.jobs.length < s.jobs.length) {w : State} (hw : w.jobs.length ≤ t.jobs.length) :
    w.arbiterAfter s =
      if (w.arbiterAfter t).jobs.length = t.jobs.length then (w.arbiterAfter t).runArbiter else w.arbiterAfter t := by
  have hruns : w.arbiterAfter s = w.runArbiter := if_pos (hw.trans_lt h)
  rw [hruns]
  obtain hfewer | hsame := hw.lt_or_eq
  · have hran : w.arbiterAfter t = w.runArbiter := if_pos hfewer
    rw [hran, w.runArbiter_jobs_length, if_neg hfewer.ne]
  · have hnot : w.arbiterAfter t = w := if_neg hsame.not_lt
    rw [hnot, if_pos hsame]

end Head

/-! ### The verifier's head (R134, R157) -/

section Verifier

variable {s : State} {f : CapturedFrame} {rest : List CapturedFrame}

/-- A VERIFY frame is offered to the verifier and leaves; the run-end check and then the settling check follow (R134, R158;
log entry 27). -/
theorem State.leaveQueue_verifier {u : State} (hconsumer : f.consumer = .verifier) (hc : u.captures = f :: rest) :
    u.leaveQueue f = (u.headLeft rest f.input).checkSettled f.input := by
  simp only [State.leaveQueue, hc, hconsumer]
  rfl

/-- The dispatch of a head that is the verifier's, by the jobs that its settling check removes: the entries behind it are
tried in the same happening, and the arbiter runs at the end of it when a job has been removed (R69, R134). -/
theorem State.dispatch_verifier {t : State} (hc : s.captures = f :: rest) (hconsumer : f.consumer = .verifier)
    (ht : t = ((s.offerVerifier f).headLeft rest f.input).checkSettled f.input) :
    (rest = [] → s.dispatch = t.arbiterAfter s) ∧
      (t.jobs.length = s.jobs.length → s.dispatch = t.dispatch) ∧
      (t.jobs.length < s.jobs.length →
        s.dispatch = if t.dispatch.jobs.length = t.jobs.length then t.dispatch.runArbiter else t.dispatch) := by
  have hconsume : s.consume f = some (s.offerVerifier f) := by simp only [State.consume, hconsumer]
  have hcaptures : (s.offerVerifier f).captures = f :: rest := by simp [hc]
  have hhead : s.dispatch = (tryHeads rest.length t).arbiterAfter s := by
    rw [State.dispatch_cons hc hconsume, State.leaveQueue_verifier hconsumer hcaptures, ht]
  have hrest : t.captures = rest := by
    rw [ht, State.headLeft]
    simp
  have hbehind : t.dispatch = (tryHeads rest.length t).arbiterAfter t := by rw [State.dispatch, hrest]
  refine ⟨fun hempty => ?_, fun hkept => ?_, fun hfewer => ?_⟩
  · rw [hhead, hempty]
    rfl
  · rw [hhead, hbehind, State.arbiterAfter_of_length hkept]
  · rw [hhead, hbehind]
    exact State.arbiterAfter_removal hfewer (tryHeads_jobs_length_le ..)

theorem State.offerVerifier_of_no_record (h : (s.input f.input).verify = none) : s.offerVerifier f = s := by
  simp only [State.offerVerifier, h]

section Record

variable {r : VerifyRecord} (h : (s.input f.input).verify = some r)
include h

theorem State.offerVerifier_early (hearly : 32768 ≤ (f.number + 65536 - r.firstFrame) % 65536) : s.offerVerifier f = s := by
  have hnot : ¬notEarlier r.firstFrame f.number = true := fun hlate =>
    Nat.not_lt.mpr hearly (of_decide_eq_true hlate)
  simp only [State.offerVerifier, h, if_neg hnot]

/-- A frame that the record wants is seen, and compared with the section emitted as its turn gives (R157). -/
theorem State.offerVerifier_takes {j : Job} {k : Code} {m : Option Mismatch}
    (hnumber : (f.number + 65536 - r.firstFrame) % 65536 < 32768) (hj : s.job? r.job = some j) (hk : s.code? j.slot = some k)
    (hm : compareFrame s.params.verifyTolerance (bump r.seen) r.emitted (k.emittedSection (bump r.seen)) f.cells = m) :
    s.offerVerifier f = s.setVerify f.input (some (r.after m)) := by
  have hlate : notEarlier r.firstFrame f.number = true := decide_eq_true hnumber
  simp only [State.offerVerifier, h, if_pos hlate, hj, Option.bind_some, hk, State.verifyFrame, hm]

end Record

end Verifier

/-! ### The comparison (R157) -/

section Compare

variable {t k emitted : Nat} {stored measured : List Nat}

/-- Whether a captured cell lies within tolerance of a stored one (Conventions; R157). -/
abbrev cellInside (t a b : Nat) : Prop :=
  ((a : Int) - b).natAbs * 100 ≤ b * t + 4000

theorem not_withinTolerance_iff {a b : Nat} : (!withinTolerance t a b) = true ↔ ¬cellInside t a b := by
  rw [Bool.not_eq_true', ← Bool.not_eq_true, withinTolerance_iff]

theorem compareFrame_extra (h : emitted < k) :
    compareFrame t k emitted stored measured =
      some { frameIndex := k, place := .extra, expected := 0, measured := measured.length } :=
  if_pos h

theorem compareFrame_count (h : k ≤ emitted) (hlen : measured.length ≠ stored.length) :
    compareFrame t k emitted stored measured =
      some { frameIndex := k, place := .count, expected := stored.length, measured := measured.length } :=
  (if_neg (Nat.not_lt.mpr h)).trans (if_pos hlen)

theorem compareFrame_cells (h : k ≤ emitted) (hlen : measured.length = stored.length) :
    compareFrame t k emitted stored measured =
      (firstOutside t measured stored).map fun i =>
        { frameIndex := k, place := .cell i, expected := stored.getD i 0, measured := measured.getD i 0 } :=
  (if_neg (Nat.not_lt.mpr h)).trans (if_neg (not_not.mpr hlen))

theorem firstOutside_none (h : ∀ q ∈ measured.zip stored, cellInside t q.1 q.2) : firstOutside t measured stored = none := by
  rw [firstOutside, List.findIdx?_eq_none_iff]
  exact fun q hq => congrArg Bool.not (withinTolerance_iff.mpr (h q hq))

theorem firstOutside_some {i a b : Nat} (ha : measured[i]? = some a) (hb : stored[i]? = some b) (hout : ¬cellInside t a b)
    (hfirst : ∀ i' a' b', i' < i → measured[i']? = some a' → stored[i']? = some b' → cellInside t a' b') :
    firstOutside t measured stored = some i := by
  obtain ⟨hia, rfl⟩ := List.getElem?_eq_some_iff.mp ha
  obtain ⟨hib, rfl⟩ := List.getElem?_eq_some_iff.mp hb
  rw [firstOutside, List.findIdx?_eq_some_iff_getElem]
  refine ⟨by simp [hia, hib], ?_, fun i' hi' => ?_⟩
  · rw [List.getElem_zip]
    exact not_withinTolerance_iff.mpr hout
  · rw [List.getElem_zip, not_withinTolerance_iff, not_not]
    exact hfirst i' _ _ hi' (List.getElem?_eq_getElem (hi'.trans hia)) (List.getElem?_eq_getElem (hi'.trans hib))

theorem compareFrame_outside {i a b : Nat} (h : k ≤ emitted) (hlen : measured.length = stored.length)
    (ha : measured[i]? = some a) (hb : stored[i]? = some b) (hout : ¬cellInside t a b)
    (hfirst : ∀ i' a' b', i' < i → measured[i']? = some a' → stored[i']? = some b' → cellInside t a' b') :
    compareFrame t k emitted stored measured =
      some { frameIndex := k, place := .cell i, expected := b, measured := a } := by
  simp only [compareFrame_cells h hlen, firstOutside_some ha hb hout hfirst, Option.map_some, List.getD_eq_getElem?_getD,
    ha, hb, Option.getD_some]

theorem compareFrame_match (h : k ≤ emitted) (hlen : measured.length = stored.length)
    (hinside : ∀ q ∈ measured.zip stored, cellInside t q.1 q.2) : compareFrame t k emitted stored measured = none := by
  rw [compareFrame_cells h hlen, firstOutside_none hinside, Option.map_none]

end Compare

end Sys2Proof.Machine

/-! ### The statement about verdicts and VERIFY frames -/

section

open Sys2Proof Sys2Proof.Machine

/-- Settles O48: the settling check by its conditions; the head is offered to the verifier, and its frame is declined, or is
seen with what the comparison gives. -/
theorem verdictGiven : Obligations.VerdictGiven := by
  refine ⟨fun s v h => ?_, fun s v r j result hr hj hresult => ⟨fun hnot => ?_, fun hsettling hclosed hdrained => ?_⟩, ?_⟩
  · have hsame := State.checkSettled_of_no_record h
    exact ⟨hsame, exec_verifyVerdict_idle hsame⟩
  · have hsame := State.checkSettled_waits hr hj hnot
    exact ⟨hsame, exec_verifyVerdict_idle hsame⟩
  · have hgiven := State.checkSettled_gives hr hj hsettling hclosed hdrained
    have hid := (State.job?_id hj).symm
    have hlive : s.job? j.id = some j := hid ▸ hj
    obtain ⟨hjobs, hslots⟩ := State.giveVerdict_removes hid hclosed hlive
    have hinput := State.giveVerdict_input hid hclosed
    obtain ⟨-, -, -, -, hzones, hgenerators, -, hcaptures, -⟩ := s.giveVerdict_keeps v r
    obtain rfl : r.verdict = result := r.verdict_eq.trans hresult.symm
    have hruns : (s.giveVerdict v r).arbiterAfter s = (s.giveVerdict v r).runArbiter :=
      if_pos (State.giveVerdict_fewer hid hclosed hlive)
    have hexec : exec (.verifyVerdict v) s = .next (s.giveVerdict v r).runArbiter := by
      rw [exec_verifyVerdict_eq, hgiven, hruns]
    exact ⟨_, hgiven, hexec, hjobs, (hinput v).trans (if_pos rfl), fun w hw => (hinput w).trans (if_neg hw), hcaptures,
      hzones, hgenerators, hslots, fun k => State.giveVerdict_line hid hclosed hlive⟩
  intro s f rest v leads hc hv hconsumer hleads
  subst hv
  have hlead : ∀ u, s.offerVerifier f = u → leads u := by
    rintro _ rfl
    rw [hleads]
    intro t ht
    obtain ⟨hlast, hkept, hfewer⟩ := State.dispatch_verifier hc hconsumer ht
    exact ⟨fun hempty => congrArg Host.Outcome.next (hlast hempty), fun hsame => congrArg Host.Outcome.next (hkept hsame),
      fun hless => ⟨t.dispatch, rfl, congrArg Host.Outcome.next (hfewer hless)⟩⟩
  refine ⟨fun h => hlead _ (State.offerVerifier_of_no_record h), fun r hr =>
    ⟨fun hearly => hlead _ (State.offerVerifier_early hr hearly), ?_⟩⟩
  intro j k n cells inside x hnumber hj hk hn hcells hinside hx
  subst hx hinside hn hcells
  exact ⟨fun hextra => hlead _ (State.offerVerifier_takes hr hnumber hj hk (compareFrame_extra hextra)),
    fun hdue hlen => hlead _ (State.offerVerifier_takes hr hnumber hj hk (compareFrame_count hdue hlen)),
    fun i a b hdue hlen ha hb hout hfirst =>
      hlead _ (State.offerVerifier_takes hr hnumber hj hk (compareFrame_outside hdue hlen ha hb hout hfirst)),
    fun hdue hlen hinside => hlead _ (State.offerVerifier_takes hr hnumber hj hk (compareFrame_match hdue hlen hinside))⟩

end
end

section
/-! PROOFS. The host line within its bounds: its report queue, its traffic, and what each operation on it keeps (R163 to
R173). -/

namespace Sys2Proof.Machine

/-! ### The report queue -/

/-- A report queue within its bounds, its sequences running upward to the next one (R169). -/
structure ReportQueueBounded (rs : List ReportEntry) (next : Nat) : Prop where
  length : rs.length ≤ 32
  outstanding : rs.countP (fun e => e.sent) ≤ 8
  next_lt : next < 256
  run : rs.map ReportEntry.sequence = (List.range rs.length).map fun i => (next + 256 - rs.length + i) % 256

/-- A report that joins takes the next sequence (R169). -/
theorem ReportQueueBounded.push {rs : List ReportEntry} {next : Nat} (h : ReportQueueBounded rs next) (room : rs.length < 32)
    {e : ReportEntry} (hsequence : e.sequence = next) (hsent : e.sent = false) :
    ReportQueueBounded (rs ++ [e]) ((next + 1) % 256) where
  length := by simpa using room
  outstanding := by simpa [hsent] using h.outstanding
  next_lt := Nat.mod_lt _ (by omega)
  run := by
    have hnext := h.next_lt
    have hold : ∀ i ∈ List.range rs.length,
        (next + 256 - rs.length + i) % 256 = ((next + 1) % 256 + 256 - (rs.length + 1) + i) % 256 := fun i _ => by omega
    have hlast : e.sequence = ((next + 1) % 256 + 256 - (rs.length + 1) + rs.length) % 256 := by omega
    rw [List.map_append, h.run, List.map_congr_left hold, List.map_singleton, hlast, List.length_append,
      List.length_singleton, List.range_succ, List.map_append, List.map_singleton]

/-- The entries behind a point of the queue run upward as they did (R171). -/
theorem ReportQueueBounded.behind {ahead behind : List ReportEntry} {next : Nat}
    (h : ReportQueueBounded (ahead ++ behind) next) : ReportQueueBounded behind next where
  length := by
    have hlength := h.length
    rw [List.length_append] at hlength
    omega
  outstanding := by
    have hcount := h.outstanding
    rw [List.countP_append] at hcount
    omega
  next_lt := h.next_lt
  run := by
    have hlength := h.length
    have hrun := congrArg (List.drop ahead.length) h.run
    rw [List.length_append] at hlength
    rw [List.map_append, List.drop_left' (List.length_map _), List.length_append, List.range_add, List.map_append,
      List.drop_left' (by simp), List.map_map] at hrun
    rw [hrun]
    refine List.map_congr_left fun i _ => ?_
    simp only [Function.comp_apply]
    congr 1
    omega

/-- Sent flags and counts may change while at most 8 entries are outstanding (R171). -/
theorem ReportQueueBounded.resent {rs rs' : List ReportEntry} {next : Nat} (h : ReportQueueBounded rs next)
    (hsequences : rs'.map ReportEntry.sequence = rs.map ReportEntry.sequence)
    (houtstanding : rs'.countP (fun e => e.sent) ≤ 8) : ReportQueueBounded rs' next where
  length := by
    have hlength : rs'.length = rs.length := by simpa using congrArg List.length hsequences
    exact hlength ▸ h.length
  outstanding := houtstanding
  next_lt := h.next_lt
  run := by
    have hlength : rs'.length = rs.length := by simpa using congrArg List.length hsequences
    rw [hsequences, hlength, h.run]

theorem ReportQueueBounded.unsent {rs : List ReportEntry} {next : Nat} (h : ReportQueueBounded rs next) :
    ReportQueueBounded (rs.map fun e => { e with sent := false }) next :=
  h.resent (by simp) (by simp [List.countP_map, Function.comp_def])

/-- One unsent entry at sequence 0 (R174, R177). -/
theorem ReportQueueBounded.single {e : ReportEntry} (hsequence : e.sequence = 0) (hsent : e.sent = false) :
    ReportQueueBounded [e] 1 where
  length := by simp
  outstanding := by simp [hsent]
  next_lt := by omega
  run := by simp [hsequence]

theorem markOldestUnsent_sequences (rs : List ReportEntry) :
    (markOldestUnsent rs).map ReportEntry.sequence = rs.map ReportEntry.sequence := by
  induction rs with
  | nil => rfl
  | cons e es ih =>
    unfold markOldestUnsent
    split
    · rw [List.map_cons, List.map_cons, ih]
    · rfl

/-- A report that goes out is one more outstanding (R171). -/
theorem markOldestUnsent_outstanding (rs : List ReportEntry) :
    (markOldestUnsent rs).countP (fun e => e.sent) ≤ rs.countP (fun e => e.sent) + 1 := by
  induction rs with
  | nil => simp [markOldestUnsent]
  | cons e es ih =>
    unfold markOldestUnsent
    split
    · rename_i hsent
      simpa [List.countP_cons, hsent] using ih
    · rename_i hsent
      simp [hsent]

/-- The entries that an acknowledgement leaves stand behind the one that it names, which has been sent (R171). -/
theorem afterAcknowledged_eq_some {a : Nat} {rs left : List ReportEntry} (h : afterAcknowledged a rs = some left) :
    ∃ ahead e, rs = ahead ++ e :: left ∧ (∀ x ∈ ahead, x.sequence ≠ a) ∧ e.sequence = a ∧ 1 ≤ e.timesSent := by
  induction rs with
  | nil => cases h
  | cons e es ih =>
    unfold afterAcknowledged at h
    split at h
    · rename_i hsequence
      split at h
      · cases h
        exact ⟨[], e, rfl, by simp, hsequence, ‹_›⟩
      · cases h
    · rename_i hsequence
      obtain ⟨ahead, x, rfl, hahead, hx⟩ := ih h
      exact ⟨e :: ahead, x, rfl, List.forall_mem_cons.mpr ⟨hsequence, hahead⟩, hx⟩

/-! ### The traffic -/

/-- The FIFO, the frames for HTX and the replay record within their bounds (R165 to R167). -/
structure HostLine.TrafficBounded (l : HostLine) : Prop where
  fifo : l.fifo.length ≤ 4
  linkErrors : l.linkErrorsWaiting ≤ 4
  replies : l.replies ≤ 1
  free : l.sending = none → l.waiting = []
  replay : ∀ r, l.replay = some r → r.reply.kind = .reply

/-- The report queue of a line is within its bounds. -/
abbrev HostLine.ReportsBounded (l : HostLine) : Prop :=
  ReportQueueBounded l.reports l.nextSequence

theorem HostLine.bounded_iff (l : HostLine) : l.bounded ↔ l.TrafficBounded ∧ l.ReportsBounded := by
  constructor
  · rintro ⟨hfifo, hlink, hreplies, hfree, hlength, hout, hnext, hrun, hreplay⟩
    exact ⟨⟨hfifo, hlink, hreplies, hfree, hreplay⟩, ⟨hlength, hout, hnext, hrun⟩⟩
  · rintro ⟨⟨hfifo, hlink, hreplies, hfree, hreplay⟩, ⟨hlength, hout, hnext, hrun⟩⟩
    exact ⟨hfifo, hlink, hreplies, hfree, hlength, hout, hnext, hrun, hreplay⟩

theorem HostLine.ready_iff (l : HostLine) : l.ready = true ↔ l.replies = 0 := by
  simp [HostLine.ready, HostLine.replies, List.countP_eq_zero]

/-- What sending a frame does to the replies and to the waiting link errors (R167). -/
theorem HostLine.send_counts (l : HostLine) (clock : Nat) (f : OutFrame) :
    (l.send clock f).replies = l.replies + (if f.kind = .reply then 1 else 0) ∧
      (l.send clock f).linkErrorsWaiting ≤ l.linkErrorsWaiting + (if f.kind = .linkError then 1 else 0) := by
  obtain ⟨hsending, hwaiting, h⟩ | ⟨-, h⟩ := l.send_cases clock f
  · rw [h]
    simp [HostLine.replies, HostLine.linkErrorsWaiting, hsending, hwaiting, List.countP_cons]
  · rw [h]
    simp only [HostLine.replies, HostLine.linkErrorsWaiting, List.countP_append, List.countP_singleton, decide_eq_true_eq]
    exact ⟨by omega, le_refl _⟩

/-- Sending a frame changes nothing of a line but the frames for HTX. -/
theorem HostLine.send_eq (l : HostLine) (clock : Nat) (f : OutFrame) :
    l.send clock f =
      { l with
        waiting := (l.send clock f).waiting, sending := (l.send clock f).sending
        sendingSince := (l.send clock f).sendingSince } := by
  obtain ⟨-, -, h⟩ | ⟨-, h⟩ := l.send_cases clock f <;> rw [h]

/-- A line on which something has been sent is not free unless nothing waits. -/
theorem HostLine.send_free {l : HostLine} (h : l.sending = none → l.waiting = []) (clock : Nat) (f : OutFrame) :
    (l.send clock f).sending ≠ none := by
  obtain ⟨-, -, hsend⟩ | ⟨hbusy, hsend⟩ := l.send_cases clock f
  · simp [hsend]
  · rw [hsend]
    intro hnone
    exact hbusy.elim (by simp_all) fun hwaiting => hwaiting (h hnone)

theorem HostLine.TrafficBounded.send {l : HostLine} (h : l.TrafficBounded) (clock : Nat) {f : OutFrame}
    (hreply : f.kind = .reply → l.ready = true) (hlink : f.kind = .linkError → l.linkErrorsWaiting < 4) :
    (l.send clock f).TrafficBounded where
  fifo := by
    rw [l.send_eq]
    exact h.fifo
  linkErrors := by
    obtain ⟨-, hcount⟩ := l.send_counts clock f
    have hold := h.linkErrors
    split at hcount
    · have hroom := hlink ‹_›
      omega
    · omega
  replies := by
    obtain ⟨hcount, -⟩ := l.send_counts clock f
    rw [hcount]
    have hold := h.replies
    split
    · rw [l.ready_iff.mp (hreply ‹_›)]
    · omega
  free hnone := absurd hnone (HostLine.send_free h.free clock f)
  replay := by
    rw [l.send_eq]
    exact h.replay

/-! ### What an operation keeps of the line -/

/-- An operation that neither hears nor sends: on the line it works at the report queue, its window and its lost count, and
may drop the replay record. -/
structure HostLine.Works (l l' : HostLine) : Prop where
  straps : l'.straps = l.straps
  categories : l'.categories = l.categories
  fifo : l'.fifo = l.fifo
  waiting : l'.waiting = l.waiting
  sending : l'.sending = l.sending
  replay : l'.replay = l.replay ∨ l'.replay = none
  reports : l.ReportsBounded → l'.ReportsBounded

/-- An operation of any kind that keeps the straps, the selection and the bounds of the line. -/
structure HostLine.Runs (l l' : HostLine) : Prop where
  straps : l'.straps = l.straps
  categories : l'.categories = l.categories
  bounded : l.bounded → l'.bounded

theorem HostLine.Works.refl (l : HostLine) : l.Works l :=
  ⟨rfl, rfl, rfl, rfl, rfl, .inl rfl, id⟩

theorem HostLine.Works.trans {l m n : HostLine} (h : l.Works m) (k : m.Works n) : l.Works n where
  straps := k.straps.trans h.straps
  categories := k.categories.trans h.categories
  fifo := k.fifo.trans h.fifo
  waiting := k.waiting.trans h.waiting
  sending := k.sending.trans h.sending
  replay := k.replay.elim (fun hk => h.replay.imp hk.trans hk.trans) .inr
  reports := k.reports ∘ h.reports

theorem HostLine.Works.ready {l l' : HostLine} (h : l.Works l') : l'.ready = l.ready := by
  unfold HostLine.ready
  rw [h.waiting, h.sending]

theorem HostLine.Works.runs {l l' : HostLine} (h : l.Works l') : l.Runs l' where
  straps := h.straps
  categories := h.categories
  bounded hl := by
    obtain ⟨htraffic, hreports⟩ := l.bounded_iff.mp hl
    refine l'.bounded_iff.mpr ⟨⟨?_, ?_, ?_, ?_, ?_⟩, h.reports hreports⟩
    · rw [h.fifo]
      exact htraffic.fifo
    · unfold HostLine.linkErrorsWaiting
      rw [h.waiting]
      exact htraffic.linkErrors
    · unfold HostLine.replies
      rw [h.waiting, h.sending]
      exact htraffic.replies
    · rw [h.waiting, h.sending]
      exact htraffic.free
    · obtain hsame | hnone := h.replay
      · rw [hsame]
        exact htraffic.replay
      · rw [hnone]
        exact fun r hr => nomatch hr

theorem HostLine.Runs.refl (l : HostLine) : l.Runs l :=
  ⟨rfl, rfl, id⟩

theorem HostLine.Runs.trans {l m n : HostLine} (h : l.Runs m) (k : m.Runs n) : l.Runs n :=
  ⟨k.straps.trans h.straps, k.categories.trans h.categories, k.bounded ∘ h.bounded⟩

/-! ### Reports (R169, R170) -/

theorem HostLine.join_works {l : HostLine} (room : l.reports.length < 32) (r : Report) : l.Works (l.join r) :=
  ⟨rfl, rfl, rfl, rfl, rfl, .inl rfl, fun h => h.push room rfl rfl⟩

theorem HostLine.produce_works (l : HostLine) (r : Report) : l.Works (l.produce r) := by
  obtain ⟨-, h⟩ | ⟨-, room, h⟩ | ⟨-, -, h⟩ := l.produce_cases r
  · rw [h]
    exact .refl l
  · rw [h]
    exact HostLine.join_works room r
  · rw [h]
    exact ⟨rfl, rfl, rfl, rfl, rfl, .inl rfl, id⟩

theorem HostLine.joinAll_works (rs : List Report) {l : HostLine} (room : l.reports.length + rs.length ≤ 32) :
    l.Works (rs.foldl HostLine.join l) := by
  induction rs generalizing l with
  | nil => exact .refl l
  | cons r rs ih =>
    rw [List.length_cons] at room
    have hlength : (l.join r).reports.length = l.reports.length + 1 := by simp [HostLine.join]
    exact (HostLine.join_works (by omega) r).trans (ih (by omega))

/-- STARTED stands alone in the report queue, and nothing is heard or sent (R177). -/
theorem HostLine.restarted_works (l : HostLine) (cause : StartCause) (now : Word32) : l.Works (l.restarted cause now) :=
  ⟨rfl, rfl, rfl, rfl, rfl, .inr rfl, fun _ => .single rfl rfl⟩

/-- Entries that an acknowledgement frees leave room for REPORTS_LOST (R170, R171). -/
theorem HostLine.acknowledged_works {l : HostLine} {a : Nat} {left : List ReportEntry}
    (h : afterAcknowledged a l.reports = some left) (timer : Timer) : l.Works (l.acknowledged left timer).reportLost := by
  obtain ⟨ahead, e, hreports, -⟩ := afterAcknowledged_eq_some h
  have hleft : l.ReportsBounded → ReportQueueBounded left l.nextSequence := fun hl => by
    rw [HostLine.ReportsBounded, hreports, List.append_cons] at hl
    exact hl.behind
  have hroom : l.ReportsBounded → left.length < 32 := fun hl => by
    have hlength := hl.length
    rw [hreports, List.length_append, List.length_cons] at hlength
    omega
  unfold HostLine.reportLost
  split
  · exact ⟨rfl, rfl, rfl, rfl, rfl, .inl rfl, fun hl => (hleft hl).push (hroom hl) rfl rfl⟩
  · exact ⟨rfl, rfl, rfl, rfl, rfl, .inl rfl, hleft⟩

/-! ### The window (R171, R172) -/

theorem HostLine.endHeld_works (l : HostLine) : l.Works l.endHeld := by
  unfold HostLine.endHeld
  split
  · exact ⟨rfl, rfl, rfl, rfl, rfl, .inl rfl, fun h => h.unsent⟩
  · exact .refl l

theorem HostLine.ackExpired_works (l : HostLine) (retryLimit : Nat) : l.Works (l.ackExpired retryLimit) := by
  unfold HostLine.ackExpired
  split
  · exact ⟨rfl, rfl, rfl, rfl, rfl, .inl rfl, fun h => h.unsent⟩
  · exact ⟨rfl, rfl, rfl, rfl, rfl, .inl rfl, id⟩

/-! ### The arbiter of HTX (R167) -/

theorem HostLine.send_runs {l : HostLine} (clock : Nat) {f : OutFrame} (hreply : f.kind = .reply → l.ready = true)
    (hlink : l.bounded → f.kind = .linkError → l.linkErrorsWaiting < 4) : l.Runs (l.send clock f) where
  straps := by rw [l.send_eq]
  categories := by rw [l.send_eq]
  bounded h := by
    obtain ⟨htraffic, hreports⟩ := l.bounded_iff.mp h
    refine HostLine.bounded_iff _ |>.mpr ⟨htraffic.send clock hreply (hlink h), ?_⟩
    rw [l.send_eq]
    exact hreports

/-- The report that goes out finds fewer than 8 outstanding (R171). -/
theorem HostLine.nextReport_outstanding {l : HostLine} {e : ReportEntry} (h : l.nextReport = some e) :
    l.outstanding < 8 := by
  unfold HostLine.nextReport at h
  split at h
  · rename_i hwindow
    obtain ⟨-, hout⟩ := Bool.and_eq_true_iff.mp hwindow
    exact of_decide_eq_true hout
  · cases h

/-- A report goes out on a line where nothing waits (R171). -/
theorem HostLine.sendReport_bounded {l : HostLine} (hwaiting : l.waiting = []) (h : l.bounded)
    (clock : Nat) (timer : Timer) : (l.sendReport clock timer).bounded := by
  obtain ⟨htraffic, hreports⟩ := l.bounded_iff.mp h
  unfold HostLine.sendReport
  split
  · exact h
  · rename_i e he
    have hout := HostLine.nextReport_outstanding he
    refine HostLine.bounded_iff _ |>.mpr ⟨⟨htraffic.fifo, htraffic.linkErrors, ?_, fun hnone => (nomatch hnone),
      htraffic.replay⟩, hreports.resent (markOldestUnsent_sequences _) ?_⟩
    · simp [HostLine.replies, hwaiting, ReportEntry.frame]
    · exact (markOldestUnsent_outstanding _).trans hout

/-- When a frame has been sent to its end, the line stays within its bounds (R167). -/
theorem HostLine.chooseNext_bounded {l : HostLine} (h : l.bounded) (clock : Nat) (timer : Timer) :
    ({ l with sending := none }.chooseNext clock timer).bounded := by
  obtain ⟨htraffic, hreports⟩ := l.bounded_iff.mp h
  have hreplies := htraffic.replies
  have hlink := htraffic.linkErrors
  unfold HostLine.replies at hreplies
  unfold HostLine.linkErrorsWaiting at hlink
  cases hw : l.waiting with
  | cons f fs =>
    simp only [HostLine.chooseNext]
    simp only [hw, List.cons_append, List.countP_cons, List.countP_append] at hreplies hlink
    refine HostLine.bounded_iff _ |>.mpr ⟨⟨htraffic.fifo, ?_, ?_, fun hnone => (nomatch hnone), htraffic.replay⟩, hreports⟩
    · simp only [HostLine.linkErrorsWaiting]
      omega
    · simp only [HostLine.replies, Option.toList_some, List.countP_append, List.countP_singleton]
      omega
  | nil =>
    simp only [HostLine.chooseNext]
    refine HostLine.sendReport_bounded rfl ?_ clock timer
    refine HostLine.bounded_iff _ |>.mpr ⟨⟨htraffic.fifo, ?_, ?_, fun _ => rfl, htraffic.replay⟩, hreports⟩
    · simp [HostLine.linkErrorsWaiting]
    · simp [HostLine.replies]

theorem HostLine.sendReport_kept (l : HostLine) (clock : Nat) (timer : Timer) :
    (l.sendReport clock timer).straps = l.straps ∧ (l.sendReport clock timer).categories = l.categories := by
  unfold HostLine.sendReport
  split <;> exact ⟨rfl, rfl⟩

theorem HostLine.chooseNext_runs (l : HostLine) (clock : Nat) (timer : Timer) :
    l.Runs ({ l with sending := none }.chooseNext clock timer) := by
  have hkept : ({ l with sending := none }.chooseNext clock timer).straps = l.straps ∧
      ({ l with sending := none }.chooseNext clock timer).categories = l.categories := by
    unfold HostLine.chooseNext
    split
    · exact ⟨rfl, rfl⟩
    · exact HostLine.sendReport_kept ..
  obtain ⟨hstraps, hcategories⟩ := hkept
  exact ⟨hstraps, hcategories, fun h => HostLine.chooseNext_bounded h clock timer⟩

/-! ### The FIFO and the replay record (R165, R166) -/

theorem HostLine.push_runs {l : HostLine} (room : l.fifo.length < 4) (c : CommandFrame) :
    l.Runs { l with fifo := l.fifo ++ [c] } where
  straps := rfl
  categories := rfl
  bounded h := by
    obtain ⟨htraffic, hreports⟩ := l.bounded_iff.mp h
    refine HostLine.bounded_iff _ |>.mpr ⟨⟨?_, htraffic.linkErrors, htraffic.replies, htraffic.free, htraffic.replay⟩,
      hreports⟩
    simpa using room

theorem HostLine.pop_runs (l : HostLine) : l.Runs { l with fifo := l.fifo.tail } where
  straps := rfl
  categories := rfl
  bounded h := by
    obtain ⟨htraffic, hreports⟩ := l.bounded_iff.mp h
    refine HostLine.bounded_iff _ |>.mpr ⟨⟨?_, htraffic.linkErrors, htraffic.replies, htraffic.free, htraffic.replay⟩,
      hreports⟩
    exact l.fifo.tail_sublist.length_le.trans htraffic.fifo

theorem HostLine.record_runs (l : HostLine) {r : Replay} (hr : r.reply.kind = .reply) :
    l.Runs { l with replay := some r } where
  straps := rfl
  categories := rfl
  bounded h := by
    obtain ⟨htraffic, hreports⟩ := l.bounded_iff.mp h
    refine HostLine.bounded_iff _ |>.mpr ⟨⟨htraffic.fifo, htraffic.linkErrors, htraffic.replies, htraffic.free, ?_⟩,
      hreports⟩
    intro x hx
    cases hx
    exact hr

/-- What the replay record answers a frame with is a REPLY (R166). -/
theorem HostLine.replayFor_kind {l : HostLine} (h : l.bounded) {c : CommandFrame} {r : OutFrame}
    (hr : l.replayFor c = some r) : r.kind = .reply := by
  obtain ⟨htraffic, -⟩ := l.bounded_iff.mp h
  unfold HostLine.replayFor at hr
  split at hr
  · split at hr <;> cases hr
    exact htraffic.replay _ ‹_›
  · cases hr

/-- The line after power-on (R164 to R176). -/
theorem resetLine_bounded (straps : BitVec 2) (cause : Byte) : (resetLine straps cause).bounded := by
  refine HostLine.bounded_iff _ |>.mpr ⟨⟨?_, ?_, ?_, fun _ => rfl, fun r hr => nomatch hr⟩, .single rfl rfl⟩
  · exact Nat.zero_le _
  · exact Nat.zero_le _
  · exact Nat.zero_le _

end Sys2Proof.Machine
end

section
/-! PROOFS. The desk of a state: the settings that have their writers, and the host line. What each shared operation does to
the desk is said once: it works at the report queue, or does nothing to it. -/

namespace Sys2Proof.Machine

/-! ### The desk -/

/-- The settings that have their writers, the model's own counts, and the host line. -/
structure Desk where
  pending : List Instr
  draws : Nat
  clock : Nat
  params : Params
  groups : Vector Group 4
  nextId : Nat
  nextDecay : ZoneNo → Nat
  line : HostLine

/-- The desk of a state. -/
def State.desk (s : State) : Desk where
  pending := s.pending
  draws := s.draws
  clock := s.clock
  params := s.params
  groups := s.groups
  nextId := s.nextId
  nextDecay := fun z => (s.zone z).nextDecay
  line := s.line

/-- The desk with the host line of an operation that leaves the settings, and neither hears nor sends. -/
structure Desk.Works (D E : Desk) : Prop where
  settings : E = { D with line := E.line }
  line : D.line.Works E.line

/-- The desk with the host line of an operation that leaves the settings and keeps the line's bounds. -/
structure Desk.Runs (D E : Desk) : Prop where
  settings : E = { D with line := E.line }
  line : D.line.Runs E.line

theorem Desk.Works.refl (D : Desk) : D.Works D :=
  ⟨rfl, .refl D.line⟩

theorem Desk.Works.of_eq {D E : Desk} (h : E = D) : D.Works E :=
  h ▸ .refl E

theorem Desk.Works.trans {D E F : Desk} (h : D.Works E) (k : E.Works F) : D.Works F where
  settings := by rw [k.settings, h.settings]
  line := h.line.trans k.line

theorem Desk.Works.since {D E F : Desk} (h : E.Works F) (hs : E = D) : D.Works F :=
  hs ▸ h

theorem Desk.Works.runs {D E : Desk} (h : D.Works E) : D.Runs E :=
  ⟨h.settings, h.line.runs⟩

theorem Desk.Runs.refl (D : Desk) : D.Runs D :=
  ⟨rfl, .refl D.line⟩

theorem Desk.Runs.trans {D E F : Desk} (h : D.Runs E) (k : E.Runs F) : D.Runs F where
  settings := by rw [k.settings, h.settings]
  line := h.line.trans k.line

/-- Another setting written before and after an operation changes nothing of what it does to the line. -/
theorem Desk.Works.withSettings {D E D' : Desk} (h : D.Works E) (hline : D'.line = D.line) :
    D'.Works { D' with line := E.line } :=
  ⟨rfl, hline ▸ h.line⟩

/-- A fold of steps that work at the desk works at it. -/
theorem foldl_works {α : Type} {f : State → α → State} (h : ∀ (s : State) (a : α), s.desk.Works (f s a).desk)
    (l : List α) (s : State) : s.desk.Works (l.foldl f s).desk := by
  induction l generalizing s with
  | nil => exact .refl _
  | cons a l ih => exact (h s a).trans (ih (f s a))

theorem foldl_runs {α : Type} {f : State → α → State} (h : ∀ (s : State) (a : α), s.desk.Runs (f s a).desk)
    (l : List α) (s : State) : s.desk.Runs (l.foldl f s).desk := by
  induction l generalizing s with
  | nil => exact .refl _
  | cons a l ih => exact (h s a).trans (ih (f s a))

/-! ### Writers of the state -/

@[simp] theorem State.desk_line (s : State) : s.desk.line = s.line := rfl
@[simp] theorem State.setTable_desk (s : State) (t : CodeTable) : (s.setTable t).desk = s.desk := rfl
@[simp] theorem State.setJobs_desk (s : State) (js : List Job) : (s.setJobs js).desk = s.desk := rfl
@[simp] theorem State.setGenerators_desk (s : State) (gs : Vector (Option Carrier) 4) :
    (s.setGenerators gs).desk = s.desk := rfl
@[simp] theorem State.setCaptures_desk (s : State) (cs : List CapturedFrame) : (s.setCaptures cs).desk = s.desk := rfl
@[simp] theorem State.setInputs_desk (s : State) (is : Vector RxInput 2) : (s.setInputs is).desk = s.desk := rfl
@[simp] theorem State.setInput_desk (s : State) (v : InputNo) (r : RxInput) : (s.setInput v r).desk = s.desk := rfl
@[simp] theorem State.updateJob_desk (s : State) (id : Nat) (f : Job → Job) : (s.updateJob id f).desk = s.desk := rfl
@[simp] theorem State.removeJob_desk (s : State) (id : Nat) : (s.removeJob id).desk = s.desk := rfl
@[simp] theorem State.putSlot_desk (s : State) (i : SlotNo) (x : Slot) : (s.putSlot i x).desk = s.desk := rfl
@[simp] theorem State.setLoad_desk (s : State) (l : Option LoadContext) : (s.setLoad l).desk = s.desk := rfl
@[simp] theorem State.setLearn_desk (s : State) (x : Option LearnContext) : (s.setLearn x).desk = s.desk := rfl

theorem State.setZone_desk (s : State) (z : ZoneNo) (x : Zone) :
    (s.setZone z x).desk = { s.desk with nextDecay := Function.update s.desk.nextDecay z x.nextDecay } := by
  have hdecay : (fun w => ((s.setZone z x).zone w).nextDecay) = Function.update s.desk.nextDecay z x.nextDecay := by
    funext w
    rw [State.zone_setZone, Function.update_apply]
    split <;> rfl
  simp [State.desk, hdecay]

/-- A zone record with its decay step where it was leaves the desk. -/
theorem State.setZone_desk_of_nextDecay {s : State} {z : ZoneNo} {x : Zone} (h : x.nextDecay = (s.zone z).nextDecay) :
    (s.setZone z x).desk = s.desk := by
  rw [State.setZone_desk, h]
  change { s.desk with nextDecay := Function.update s.desk.nextDecay z (s.desk.nextDecay z) } = s.desk
  rw [Function.update_eq_self]

/-- Zone records with their decay steps where they were leave the desk. -/
theorem State.setZones_desk_of_nextDecay {s : State} {f : Zone → Zone} (h : ∀ x, (f x).nextDecay = x.nextDecay) :
    (s.setZones (mapVector s.zones f)).desk = s.desk := by
  have hdecay : (fun z => ((s.setZones (mapVector s.zones f)).zone z).nextDecay) = s.desk.nextDecay := by
    funext z
    exact (congrArg Zone.nextDecay (mapVector_getElem s.zones f z.val z.isLt)).trans (h _)
  simp [State.desk, hdecay]

/-- A line on which an operation works makes a desk on which it works. -/
theorem State.setLine_works {s : State} {l : HostLine} (h : s.line.Works l) : s.desk.Works (s.setLine l).desk :=
  ⟨rfl, h⟩

theorem State.setLine_runs {s : State} {l : HostLine} (h : s.line.Runs l) : s.desk.Runs (s.setLine l).desk :=
  ⟨rfl, h⟩

/-- A fold of steps each of which leaves the desk leaves it. -/
theorem foldl_desk {α : Type} {f : State → α → State} (h : ∀ s a, (f s a).desk = s.desk) (l : List α) (s : State) :
    (l.foldl f s).desk = s.desk := by
  induction l generalizing s with
  | nil => rfl
  | cons a l ih => rw [List.foldl_cons, ih, h]

/-! ### Operations that leave the desk -/

@[simp] theorem State.setRun_desk (s : State) (v : InputNo) (r : Option Run) : (s.setRun v r).desk = s.desk := rfl

@[simp] theorem State.setVerify_desk (s : State) (v : InputNo) (r : Option VerifyRecord) :
    (s.setVerify v r).desk = s.desk := rfl

@[simp] theorem State.takeInput_desk (s : State) (v : InputNo) (m : InputMode) : (s.takeInput v m).desk = s.desk := rfl

@[simp] theorem State.leaveZones_desk (s : State) (id : Nat) : (s.leaveZones id).desk = s.desk :=
  State.setZones_desk_of_nextDecay fun x => by split <;> rfl

@[simp] theorem State.releaseGenerator_desk (s : State) (g : Option (Fin 4)) : (s.releaseGenerator g).desk = s.desk := by
  cases g <;> rfl

@[simp] theorem State.takeGenerator_desk (s : State) (h : Header) (g : Option (Fin 4)) :
    (s.takeGenerator h g).desk = s.desk := by
  cases g <;> rfl

@[simp] theorem State.ownZones_desk (s : State) (id : Nat) (zs : ZoneSet) : (s.ownZones id zs).desk = s.desk :=
  foldl_desk (fun _ _ => by exact State.setZone_desk_of_nextDecay rfl) _ s

@[simp] theorem State.enableZones_desk (s : State) (zs : ZoneSet) : (s.enableZones zs).desk = s.desk :=
  foldl_desk (fun _ _ => by
    split
    · exact State.setZone_desk_of_nextDecay rfl
    · rfl) _ s

@[simp] theorem State.turnOff_desk (s : State) (zs : ZoneSet) : (s.turnOff zs).desk = s.desk :=
  foldl_desk (fun _ _ => by exact State.setZone_desk_of_nextDecay rfl) _ s

@[simp] theorem State.bindVerify_desk (s : State) (j : Job) : (s.bindVerify j).desk = s.desk := by
  unfold State.bindVerify
  split <;> rfl

@[simp] theorem State.beginFrame_desk (s : State) (j : Job) (kind : FrameKind) : (s.beginFrame j kind).desk = s.desk := rfl

@[simp] theorem State.noticeEmitted_desk (s : State) (j : Job) : (s.noticeEmitted j).desk = s.desk := by
  unfold State.noticeEmitted
  split <;> rfl

@[simp] theorem State.raiseReference_desk (s : State) (i : SlotNo) : (s.raiseReference i).desk = s.desk := by
  unfold State.raiseReference
  split <;> rfl

@[simp] theorem State.abandonLoad_desk (s : State) (i : SlotNo) : (s.abandonLoad i).desk = s.desk := by
  unfold State.abandonLoad
  split <;> rfl

@[simp] theorem State.completeLoad_desk (s : State) (l : LoadContext) : (s.completeLoad l).desk = s.desk := by
  unfold State.completeLoad
  split <;> rfl

@[simp] theorem State.storeSegment_desk (s : State) (l : LoadContext) (cells : List Nat) :
    (s.storeSegment l cells).desk = s.desk := by
  unfold State.storeSegment State.extendSlot
  split <;> rfl

@[simp] theorem State.offerVerifier_desk (s : State) (f : CapturedFrame) : (s.offerVerifier f).desk = s.desk := by
  unfold State.offerVerifier
  repeat' split
  all_goals rfl

theorem State.reachHoldLimit_desk (s : State) (j : Job) : (s.reachHoldLimit j).desk = s.desk := by
  unfold State.reachHoldLimit
  split <;> rfl

@[simp] theorem State.endDiscard_desk (s : State) (v : InputNo) : (s.endDiscard v).desk = s.desk := by
  unfold State.endDiscard
  split
  · split <;> rfl
  all_goals rfl

/-! ### Reports and the load monitor -/

theorem State.produce_works (s : State) (r : Report) : s.desk.Works (s.produce r).desk :=
  State.setLine_works (s.line.produce_works r)

/-- Capture-derived reports join where there is room for them (R170). -/
theorem State.joinCaptured_works {s u : State} {rs : List Report} (room : s.mayCreate rs.length = true)
    (hline : u.line = s.line) : u.desk.Works (u.joinCaptured rs).desk := by
  refine State.setLine_works ?_
  unfold HostLine.joinCaptured
  split
  · rename_i hselected
    obtain hdeselected | hroom := (s.mayCreate_iff rs.length).mp room
    · rw [hline] at hselected
      exact absurd (hselected.symm.trans hdeselected) (by decide)
    · exact HostLine.joinAll_works rs (by rw [hline]; omega)
  · exact .refl _

theorem State.evaluate_works (s : State) (z : ZoneNo) : s.desk.Works (s.evaluate z).desk := by
  unfold State.evaluate
  simp only []
  split
  · exact .of_eq (State.setZone_desk_of_nextDecay rfl)
  · exact (State.produce_works _ _).since (State.setZone_desk_of_nextDecay rfl)

theorem State.markEnd_works (s : State) (z : ZoneNo) (d v : Nat) : s.desk.Works (s.markEnd z d v).desk :=
  (State.evaluate_works _ z).since (State.setZone_desk_of_nextDecay rfl)

theorem State.markEnds_works (s : State) (d : Nat) (ps : List (ZoneNo × Nat)) : s.desk.Works (s.markEnds d ps).desk := by
  unfold State.markEnds
  refine foldl_works (fun u p => ?_) ps s
  exact u.markEnd_works p.1 d p.2

theorem State.cutFrame_works (s : State) (j : Job) : s.desk.Works (s.cutFrame j).desk := by
  unfold State.cutFrame
  split
  · exact s.markEnds_works _ _
  · exact .refl _

/-! ### Runs and the modes of inputs -/

theorem State.decideRunEnd_works (s : State) (v : InputNo) (r : Run) : s.desk.Works (s.decideRunEnd v r).desk := by
  unfold State.decideRunEnd
  simp only []
  split
  · exact State.joinCaptured_works (s := s) ‹_› rfl
  · exact .refl _

theorem State.checkRunEnd_works (s : State) (v : InputNo) : s.desk.Works (s.checkRunEnd v).desk := by
  unfold State.checkRunEnd
  split
  · exact .refl _
  · split
    · exact s.decideRunEnd_works v _
    · exact .refl _

theorem State.recheckRunEnd_works (s : State) (v : InputNo) : s.desk.Works (s.recheckRunEnd v).desk := by
  unfold State.recheckRunEnd
  split
  · split
    · exact s.checkRunEnd_works v
    · exact .refl _
  · exact .refl _

theorem State.retryRunEnd_works (s : State) (v : InputNo) : s.desk.Works (s.retryRunEnd v).desk := by
  unfold State.retryRunEnd
  split
  · split
    · exact s.decideRunEnd_works v _
    · exact s.recheckRunEnd_works v
  · exact .refl _

theorem State.moveWindow_works (s : State) (v : InputNo) : s.desk.Works (s.moveWindow v).desk := by
  unfold State.moveWindow
  split
  · exact .refl _
  · split
    · exact State.checkRunEnd_works (s.setRun v _) v
    · exact .refl _

theorem State.discardOpen_works (s : State) (v : InputNo) : s.desk.Works (s.discardOpen v).desk := by
  unfold State.discardOpen
  split
  · exact State.checkRunEnd_works (s.setInput v _) v
  · exact .refl _

theorem State.giveBackInput_works (s : State) (v : InputNo) : s.desk.Works (s.giveBackInput v).desk := by
  unfold State.giveBackInput
  simp only []
  split
  · exact State.discardOpen_works (s.setInput v _) v
  · exact .refl _

theorem State.setMode_works (s : State) (v : InputNo) (m : InputMode) (mask : ZoneSet) :
    s.desk.Works (s.setMode v m mask).desk := by
  unfold State.setMode
  simp only []
  split
  · exact State.discardOpen_works (s.setInput v _) v
  · exact .refl _

theorem State.unbind_works (s : State) (v : InputNo) : s.desk.Works (s.unbind v).desk :=
  State.giveBackInput_works (s.setInput v _) v

/-! ### Ends of jobs -/

theorem State.dropReference_works (s : State) (i : SlotNo) : s.desk.Works (s.dropReference i).desk := by
  unfold State.dropReference
  split
  · exact .refl _
  · split
    · exact State.produce_works (s.putSlot i .empty) _
    · exact .refl _
  all_goals exact .refl _

theorem State.finishJob_works (s : State) (id : Nat) : s.desk.Works (s.finishJob id).desk := by
  unfold State.finishJob
  split
  · exact .refl _
  · exact (s.produce_works _).trans (State.dropReference_works _ _)

theorem State.abandonVerify_works (s : State) (id : Nat) (v : InputNo) (r : VerifyRecord) :
    s.desk.Works (s.abandonVerify id v r).desk :=
  State.unbind_works (s.updateJob id _) v

theorem State.giveVerdict_works (s : State) (v : InputNo) (r : VerifyRecord) : s.desk.Works (s.giveVerdict v r).desk :=
  (State.unbind_works (s.updateJob r.job _) v).trans (State.finishJob_works _ _)

theorem State.checkSettled_works (s : State) (v : InputNo) : s.desk.Works (s.checkSettled v).desk := by
  unfold State.checkSettled
  split
  · exact .refl _
  · split
    · exact s.giveVerdict_works v _
    · exact .refl _

theorem State.endJob_works (s : State) (id : Nat) (reason : EndReason) : s.desk.Works (s.endJob id reason).desk := by
  unfold State.endJob
  split
  · exact .refl _
  · rename_i j _
    have hs : (((s.leaveZones id).releaseGenerator j.generator).updateJob id fun k => k.stopped reason s.now).desk =
        s.desk := by simp
    simp only []
    split
    · split
      · exact .since (State.checkSettled_works (State.updateJob _ id _) _) hs
      · exact .since ((State.abandonVerify_works ..).trans (State.finishJob_works _ id)) hs
    · exact .since (State.finishJob_works _ id) hs

theorem State.abandonSettling_works (s : State) (j : Job) : s.desk.Works (s.abandonSettling j).desk := by
  unfold State.abandonSettling
  split
  · exact (s.abandonVerify_works ..).trans (State.finishJob_works _ _)
  · exact s.finishJob_works _

theorem State.cancelJob_works (s : State) (j : Job) : s.desk.Works (s.cancelJob j).desk := by
  have hcut : s.desk.Works ((s.cutFrame j).endJob j.id .cancelled).desk :=
    (s.cutFrame_works j).trans (State.endJob_works _ _ _)
  unfold State.cancelJob
  cases j.state with
  | waiting => exact s.endJob_works _ _
  | running | draining => exact hcut
  | settling => exact s.abandonSettling_works j

theorem State.disableZones_works (s : State) (zs : ZoneSet) : s.desk.Works (s.disableZones zs).desk := by
  rw [State.disableZones, State.turnOff_desk]
  exact foldl_works (fun u j => (u.cutFrame_works j).trans (State.endJob_works _ _ _)) _ s

/-! ### Starts of jobs, and frame boundaries -/

theorem State.startJob_works (s : State) (j : Job) (h : Header) (g : Option (Fin 4)) :
    s.desk.Works (s.startJob j h g).desk := by
  unfold State.startJob
  simp only [State.beginFrame_desk]
  exact .since (State.produce_works _ _) (by simp)

theorem arbiterScan_works (js : List Job) (blocked : ZoneSet) (s : State) :
    s.desk.Works (arbiterScan js blocked s).desk := by
  induction js generalizing blocked s with
  | nil => exact .refl _
  | cons j js ih =>
    unfold arbiterScan
    split
    · split
      · exact (s.startJob_works j _ _).trans (ih _ _)
      · exact ih _ s
    · exact ih _ s

theorem State.runArbiter_works (s : State) : s.desk.Works s.runArbiter.desk :=
  arbiterScan_works ..

theorem State.arbiterAfter_works (s before : State) : s.desk.Works (s.arbiterAfter before).desk := by
  unfold State.arbiterAfter
  split
  · exact s.runArbiter_works
  · exact .refl _

theorem State.endThenArbitrate_works (s : State) (id : Nat) (reason : EndReason) :
    s.desk.Works (s.endJob id reason).runArbiter.desk :=
  (s.endJob_works id reason).trans (State.runArbiter_works _)

theorem State.lapseKeep_works (s : State) (j : Job) : s.desk.Works (s.lapseKeep j).desk := by
  unfold State.lapseKeep
  split
  · exact s.endThenArbitrate_works _ _
  all_goals exact .refl _

theorem State.decideBoundary_works (s : State) (j : Job) (h : Header) : s.desk.Works (s.decideBoundary j h).desk := by
  unfold State.decideBoundary
  split
  · exact s.endThenArbitrate_works _ _
  · split
    · exact s.endThenArbitrate_works _ _
    · split <;> exact .refl _

theorem State.checkPause_works (s : State) (id : Nat) : s.desk.Works (s.checkPause id).desk := by
  unfold State.checkPause
  split
  · split
    · split
      · exact State.decideBoundary_works (s.updateJob _ _) _ _
      · exact .refl _
    · exact .refl _
  · exact .refl _

theorem State.endCell_works (s : State) (j : Job) (p : Play) (i d cells : Nat) :
    s.desk.Works (s.endCell j p i d cells).desk := by
  unfold State.endCell
  simp only []
  split
  · refine (s.markEnds_works d p.sampled).trans ?_
    split
    · exact .refl _
    · exact .of_eq (State.noticeEmitted_desk ..)
  · exact .refl _

/-- Preemption marking works at the desk (R48). -/
theorem State.markFor_works (s : State) (j : Job) : s.desk.Works (s.markFor j).desk := by
  unfold State.markFor
  split
  · refine foldl_works (fun u k => ?_) _ s
    unfold State.markJob
    simp only []
    split
    · exact State.endJob_works (u.updateJob k.id _) _ _
    · exact .refl _
  · exact .refl _

/-! ### Learning, and erasing -/

theorem State.endLearn_works (s : State) (c : LearnContext) (result : LearnResult) (lead rep : Nat) :
    s.desk.Works (s.endLearn c result lead rep).desk := by
  have hend : ∀ u : State, u.desk = s.desk →
      s.desk.Works (((u.produce (.learnEnd c.slot c.input result c.taken lead rep)).setLearn none).giveBackInput
        c.input).desk := fun u hu =>
    .since ((u.produce_works _).trans (.since (State.giveBackInput_works _ c.input) rfl)) hu
  unfold State.endLearn
  simp only []
  exact hend _ (by split <;> rfl)

theorem State.buildLearned_works (s : State) (c : LearnContext) : s.desk.Works (s.buildLearned c).desk := by
  unfold State.buildLearned
  simp only []
  split
  · refine .since (State.endLearn_works ..) ?_
    split <;> rfl
  · exact s.endLearn_works ..

theorem State.offerLearner_works (s : State) (f : CapturedFrame) : s.desk.Works (s.offerLearner f).desk := by
  unfold State.offerLearner State.learnFrame
  split
  · exact .refl _
  · split
    · split
      · exact s.endLearn_works ..
      · split
        · exact s.endLearn_works ..
        · simp only []
          split
          · exact .since (State.buildLearned_works _ _) rfl
          · exact .refl _
    · exact .refl _

theorem State.eraseSlot_works (s : State) (i : SlotNo) : s.desk.Works (s.eraseSlot i).desk := by
  unfold State.eraseSlot
  split
  · exact .refl _
  · exact .of_eq (s.abandonLoad_desk i)
  · unfold State.eraseLearning
    split
    · split
      · exact s.endLearn_works ..
      · exact .refl _
    · exact .refl _
  · split <;> exact .refl _
  · exact .refl _

/-! ### The capture queue -/

theorem State.recognize_works {s t : State} {f : CapturedFrame} (h : s.recognize f = some t) : s.desk.Works t.desk := by
  unfold State.recognize at h
  split at h <;> simp only [] at h <;> split at h <;> cases h
  · exact State.joinCaptured_works (s := s) (u := s.setRun _ _) ‹_› rfl
  · exact State.joinCaptured_works (s := s) ‹_› rfl

theorem State.forwardRaw_works {s t : State} {f : CapturedFrame} (h : s.forwardRaw f = some t) : s.desk.Works t.desk := by
  have hparts : (rawParts f).length = partCount f.cells.length := by simp [rawParts]
  unfold State.forwardRaw at h
  split at h <;> cases h
  exact State.joinCaptured_works (s := s) (hparts ▸ ‹_›) rfl

theorem State.consume_works {s t : State} {f : CapturedFrame} (h : s.consume f = some t) : s.desk.Works t.desk := by
  unfold State.consume at h
  split at h
  · exact State.recognize_works h
  · exact State.forwardRaw_works h
  · cases h
    exact s.offerLearner_works f
  · cases h
    exact .of_eq (s.offerVerifier_desk f)

theorem State.leaveQueue_works (s : State) (f : CapturedFrame) : s.desk.Works (s.leaveQueue f).desk := by
  have hs : s.desk.Works ((s.setCaptures s.captures.tail).checkRunEnd f.input).desk :=
    State.checkRunEnd_works (s.setCaptures s.captures.tail) f.input
  unfold State.leaveQueue
  simp only []
  split
  · exact hs.trans (State.checkSettled_works _ _)
  all_goals exact hs

theorem State.tryHead_works {s t : State} (h : s.tryHead = some t) : s.desk.Works t.desk := by
  unfold State.tryHead at h
  split at h
  · cases h
  · obtain ⟨u, hu, rfl⟩ := Option.map_eq_some_iff.mp h
    exact (State.consume_works hu).trans (u.leaveQueue_works _)

theorem tryHeads_works (n : Nat) (s : State) : s.desk.Works (tryHeads n s).desk := by
  induction n generalizing s with
  | zero => exact .refl _
  | succ n ih =>
    unfold tryHeads
    split
    · exact (State.tryHead_works ‹_›).trans (ih _)
    · exact .refl _

theorem State.dispatch_works (s : State) : s.desk.Works s.dispatch.desk :=
  (tryHeads_works _ s).trans (State.arbiterAfter_works _ s)

theorem State.retryProducers_works (s : State) : s.desk.Works s.retryProducers.desk :=
  (s.dispatch_works.trans (State.retryRunEnd_works _ 0)).trans (State.retryRunEnd_works _ 1)

theorem State.recheckProducers_works (s : State) : s.desk.Works s.recheckProducers.desk :=
  (s.dispatch_works.trans (State.recheckRunEnd_works _ 0)).trans (State.recheckRunEnd_works _ 1)

/-! ### The capture engines -/

theorem State.noteDrop_works (s : State) (v : InputNo) (reason : DropReason) :
    s.desk.Works (s.noteDrop v reason).desk := by
  unfold State.noteDrop
  simp only []
  split
  · exact .refl _
  · exact State.produce_works (s.setInput v _) _

theorem State.dropOpen_works (s : State) (v : InputNo) : s.desk.Works (s.dropOpen v).desk :=
  (((s.noteDrop_works v .bufferFull).trans (State.checkRunEnd_works _ v)).trans (State.checkSettled_works _ v)).trans
    (State.arbiterAfter_works _ s)

theorem State.closeFrame_works (s : State) (v : InputNo) (f : OpenFrame) (flags : FrameFlags) (after : Engine) :
    s.desk.Works (s.closeFrame v f flags after).desk := by
  unfold State.closeFrame
  simp only []
  split
  · exact .refl _
  · split
    · exact State.dispatch_works ((s.setInput v _).setCaptures _)
    · exact .refl _

theorem State.storeCell_works (s : State) (v : InputNo) (f : OpenFrame) (d : Nat) :
    s.desk.Works (s.storeCell v f d).desk := by
  unfold State.storeCell
  simp only []
  split
  · split
    · exact .refl _
    · exact s.closeFrame_works ..
  · exact s.dropOpen_works v

theorem State.markStart_works (s : State) (v : InputNo) (edge : Nat) : s.desk.Works (s.markStart v edge).desk := by
  unfold State.markStart
  simp only []
  split
  · exact .refl _
  · split
    · exact .refl _
    · split
      · exact s.noteDrop_works v _
      · split
        · exact s.noteDrop_works v _
        · exact .refl _

theorem State.acceptChange_works (s : State) (v : InputNo) (edge : Nat) : s.desk.Works (s.acceptChange v edge).desk := by
  unfold State.acceptChange
  simp only []
  split
  · split
    · exact State.markStart_works (s.setInput v _) v edge
    · exact .refl _
  · exact State.storeCell_works (s.setInput v _) v _ _
  · exact .refl _

theorem State.closeAtEndGap_works (s : State) (v : InputNo) : s.desk.Works (s.closeAtEndGap v).desk := by
  unfold State.closeAtEndGap
  split
  · split
    · exact s.closeFrame_works ..
    · exact .refl _
  all_goals exact .refl _

theorem State.closeStuck_works (s : State) (v : InputNo) : s.desk.Works (s.closeStuck v).desk := by
  unfold State.closeStuck
  split
  · split
    · split
      · exact s.closeFrame_works ..
      · exact s.dropOpen_works v
    · exact .refl _
  all_goals exact .refl _

theorem State.takeWaitingClosing_works (s : State) (v : InputNo) : s.desk.Works (s.takeWaitingClosing v).desk := by
  unfold State.takeWaitingClosing
  split
  · split
    · exact s.closeAtEndGap_works v
    · exact s.closeStuck_works v
  · exact .of_eq (s.endDiscard_desk v)
  · exact .refl _

theorem State.acceptDue_works (s : State) (v : InputNo) : s.desk.Works (s.acceptDue v).desk := by
  unfold State.acceptDue
  split
  · split
    · exact s.acceptChange_works ..
    · exact .refl _
  · exact .refl _

theorem State.rawEdge_works (s : State) (v : InputNo) (level : Level) : s.desk.Works (s.rawEdge v level).desk := by
  unfold State.rawEdge
  simp only []
  split
  · exact State.takeWaitingClosing_works (s.setInput v _) v
  · exact State.acceptDue_works (s.setInput v _) v

/-! ### Restarts -/

theorem State.restartLink_works (s : State) (cause : StartCause) : s.desk.Works (s.restartLink cause).desk :=
  (State.setLine_works (s.line.restarted_works cause s.now)).trans (State.retryProducers_works _)

theorem State.cutRunning_works (s : State) (j : Job) : s.desk.Works (s.cutRunning j).desk := by
  unfold State.cutRunning
  split
  · exact s.cutFrame_works j
  · exact s.cutFrame_works j
  all_goals exact .refl _

theorem State.cutAll_works (s : State) : s.desk.Works s.cutAll.desk :=
  foldl_works State.cutRunning_works _ s

/-- RESTART ACTIVITY puts the next-id counter back and works at the desk with the marks that it cuts (R53, R177). -/
theorem State.restartActivity_works (s : State) :
    ({ s.desk with nextId := 1 } : Desk).Works s.restartActivity.desk := by
  have hdesk : s.restartActivity.desk = { s.cutAll.desk with nextId := 1 } := by
    change ((s.cutAll.setZones (mapVector s.cutAll.zones fun x => { x with state := x.state.afterRestart })).setNextId 1).desk
      = _
    have hzones : (s.cutAll.setZones (mapVector s.cutAll.zones fun x => { x with state := x.state.afterRestart })).desk =
        s.cutAll.desk := State.setZones_desk_of_nextDecay fun _ => rfl
    rw [← hzones]
    rfl
  rw [hdesk, s.cutAll_works.settings]
  exact s.cutAll_works.withSettings rfl

/-- RESTART FULL puts the counter, the parameters and the groups back, and works at the desk (R177). -/
theorem State.restartFull_works (s : State) :
    ({ s.desk with params := defaultParams, groups := defaultGroups, nextId := 1 } : Desk).Works s.restartFull.desk := by
  have hzones : (s.restartActivity.setZones (mapVector s.restartActivity.zones Zone.afterFull)).desk =
      s.restartActivity.desk := State.setZones_desk_of_nextDecay fun _ => rfl
  have hdesk : s.restartActivity.takeDefaults.desk =
      { s.restartActivity.desk with params := defaultParams, groups := defaultGroups } := by
    rw [← hzones]
    rfl
  refine .trans ?_ (State.restartLink_works _ .full)
  rw [hdesk, s.restartActivity_works.settings]
  exact s.restartActivity_works.withSettings rfl

end Sys2Proof.Machine
end

section
/-! PROOFS. What a command sets of the desk, and that every command but a reset sets only that and keeps the bounds of the
line; the statements about the writers of the settings and about the line's bounds. -/

namespace Sys2Proof.Machine

/-! ### Receiving (R164) -/

theorem State.setFramer_works (s : State) (f : Framer) : s.desk.Works (s.setFramer f).desk :=
  State.setLine_works ⟨rfl, rfl, rfl, rfl, rfl, .inl rfl, id⟩

theorem State.endHeld_works (s : State) : s.desk.Works s.endHeld.desk :=
  State.setLine_works s.line.endHeld_works

theorem State.acknowledge_works (s : State) (tag : Byte) : s.desk.Works (s.acknowledge tag).desk := by
  unfold State.acknowledge
  split
  · rename_i left h
    have hfreed : s.desk.Works
        (s.setLine (s.line.acknowledged left (s.timer s.params.ackTimeout)).reportLost).desk :=
      State.setLine_works (HostLine.acknowledged_works h _)
    exact hfreed.trans (State.retryProducers_works _)
  · exact .refl _

/-- A link error is created while fewer than 4 wait (R167). -/
theorem State.linkError_runs (s : State) (e : LinkFault) (tag : Byte) : s.desk.Runs (s.linkError e tag).desk := by
  unfold State.linkError
  split
  · exact State.setLine_runs (HostLine.send_runs s.clock (fun h => nomatch h) fun _ _ => ‹_›)
  · exact .refl _

theorem State.admitCommand_runs (s : State) (c : CommandFrame) : s.desk.Runs (s.admitCommand c).desk := by
  unfold State.admitCommand
  split
  · exact State.setLine_runs (HostLine.push_runs ‹_› c)
  · exact s.linkError_runs _ _

theorem State.checkFrame_runs (s : State) (len kind tag type : Byte) (payload : List Byte) (crc : Word16) :
    s.desk.Runs (s.checkFrame len kind tag type payload crc).desk := by
  unfold State.checkFrame
  split
  · exact s.linkError_runs _ _
  · split
    · exact ((s.acknowledge_works tag).trans (State.endHeld_works _)).runs
    · split
      · exact s.endHeld_works.runs.trans (State.admitCommand_runs _ _)
      · exact s.endHeld_works.runs.trans (State.linkError_runs _ _ _)

theorem State.checkBytes_runs (s : State) (len : Byte) (bytes : List Byte) (crc : Word16) :
    s.desk.Runs (s.checkBytes len bytes crc).desk := by
  unfold State.checkBytes
  split
  · exact s.checkFrame_runs ..
  all_goals exact .refl _

theorem State.frameByte_runs (s : State) (b : Byte) : s.desk.Runs (s.frameByte b).desk := by
  unfold State.frameByte
  split
  · split
    · exact (s.setFramer_works _).runs
    · exact .refl _
  · split
    · exact (s.setFramer_works _).runs
    · exact (s.setFramer_works .hunt).runs.trans (State.linkError_runs _ _ _)
  · split <;> exact (s.setFramer_works _).runs
  · exact (s.setFramer_works _).runs
  · exact (s.setFramer_works .hunt).runs.trans (State.checkBytes_runs _ _ _ _)

theorem State.discardPartial_runs (s : State) : s.desk.Runs s.discardPartial.desk :=
  (s.setFramer_works .hunt).runs.trans (State.linkError_runs _ _ _)

theorem State.receiveByte_runs (s : State) (b : Byte) : s.desk.Runs (s.receiveByte b).desk := by
  have hgap : s.desk.Runs (if s.gapPassed then s.discardPartial else s).desk := by
    split
    · exact s.discardPartial_runs
    · exact .refl _
  have hnoted : ∀ u : State, u.desk.Runs (u.setLine { u.line with lastByte := s.clock }).desk := fun _ =>
    State.setLine_runs ⟨rfl, rfl, id⟩
  exact (hgap.trans (hnoted _)).trans (State.frameByte_runs _ b)

/-! ### What a command sets -/

/-- The setting that a command other than a reset may write, and nothing else (R42, R53, R112, R114, R173, R176, R177). -/
inductive Desk.SetBy : Instr → Desk → Desk → Prop
  | nothing (i : Instr) (D : Desk) : SetBy i D D
  | params (D : Desk) (ps : Params) : SetBy .setParam D { D with params := ps }
  | groups (D : Desk) (gs : Vector Group 4) : SetBy .derateSet D { D with groups := gs }
  | categories (D : Desk) (b : Byte) : SetBy .reportSelect D { D with line := { D.line with categories := b } }
  | counter {i : Instr} (h : i = .emit ∨ i = .restartActivity) (D : Desk) (n : Nat) : SetBy i D { D with nextId := n }
  | defaults (D : Desk) :
    SetBy .restartFull D { D with params := defaultParams, groups := defaultGroups, nextId := 1 }
  | decay (D : Desk) (z : ZoneNo) (n : Nat) :
    SetBy (.decayStep z) D { D with nextDecay := Function.update D.nextDecay z n }

/-- A command runs at the desk: it sets what it may, and for the rest keeps the settings and the bounds of the line. -/
def Desk.RunsBy (i : Instr) (D F : Desk) : Prop :=
  ∃ D' E, D.Runs D' ∧ D'.SetBy i E ∧ E.Runs F

theorem Desk.Runs.runsBy {D E : Desk} (h : D.Runs E) (i : Instr) : Desk.RunsBy i D E :=
  ⟨D, D, .refl D, .nothing i D, h⟩

theorem Desk.Works.runsBy {D E : Desk} (h : D.Works E) (i : Instr) : Desk.RunsBy i D E :=
  h.runs.runsBy i

theorem Desk.SetBy.line_eq {i : Instr} {D E : Desk} (h : D.SetBy i E) : ∃ b, E.line = { D.line with categories := b } := by
  cases h with
  | categories _ b => exact ⟨b, rfl⟩
  | nothing | params | groups | counter | defaults | decay => exact ⟨D.line.categories, rfl⟩

theorem Desk.RunsBy.keeps_bounded {i : Instr} {D F : Desk} (h : Desk.RunsBy i D F) (hD : D.line.bounded) :
    F.line.bounded := by
  obtain ⟨D', E, hbefore, hset, hafter⟩ := h
  obtain ⟨b, hline⟩ := hset.line_eq
  refine hafter.line.bounded ?_
  rw [hline]
  exact hbefore.line.bounded hD

/-- What a command leaves of the settings: everything but what it may set. -/
structure Desk.LeftBy (i : Instr) (D E : Desk) : Prop where
  pending : E.pending = D.pending
  clock : E.clock = D.clock
  draws : E.draws = D.draws
  straps : E.line.straps = D.line.straps
  params : i ≠ .setParam → i ≠ .restartFull → E.params = D.params
  groups : i ≠ .derateSet → i ≠ .restartFull → E.groups = D.groups
  categories : i ≠ .reportSelect → E.line.categories = D.line.categories
  nextId : i ≠ .emit → i ≠ .restartActivity → i ≠ .restartFull → E.nextId = D.nextId
  nextDecay : ∀ z, i ≠ .decayStep z → E.nextDecay z = D.nextDecay z

theorem Desk.LeftBy.trans {i : Instr} {D E F : Desk} (h : D.LeftBy i E) (k : E.LeftBy i F) : D.LeftBy i F where
  pending := k.pending.trans h.pending
  clock := k.clock.trans h.clock
  draws := k.draws.trans h.draws
  straps := k.straps.trans h.straps
  params hi hj := (k.params hi hj).trans (h.params hi hj)
  groups hi hj := (k.groups hi hj).trans (h.groups hi hj)
  categories hi := (k.categories hi).trans (h.categories hi)
  nextId hi hj hk := (k.nextId hi hj hk).trans (h.nextId hi hj hk)
  nextDecay z hz := (k.nextDecay z hz).trans (h.nextDecay z hz)

theorem Desk.Runs.left {D E : Desk} (h : D.Runs E) (i : Instr) : D.LeftBy i E := by
  obtain ⟨l, rfl⟩ : ∃ l, E = { D with line := l } := ⟨E.line, h.settings⟩
  exact ⟨rfl, rfl, rfl, h.line.straps, fun _ _ => rfl, fun _ _ => rfl, fun _ => h.line.categories, fun _ _ _ => rfl,
    fun _ _ => rfl⟩

theorem Desk.SetBy.left {i : Instr} {D E : Desk} (h : D.SetBy i E) : D.LeftBy i E := by
  cases h with
  | nothing =>
    exact (Desk.Runs.refl D).left i
  | params =>
    exact ⟨rfl, rfl, rfl, rfl, fun hi => absurd rfl hi, fun _ _ => rfl, fun _ => rfl, fun _ _ _ => rfl, fun _ _ => rfl⟩
  | groups =>
    exact ⟨rfl, rfl, rfl, rfl, fun _ _ => rfl, fun hi => absurd rfl hi, fun _ => rfl, fun _ _ _ => rfl, fun _ _ => rfl⟩
  | categories =>
    exact ⟨rfl, rfl, rfl, rfl, fun _ _ => rfl, fun _ _ => rfl, fun hi => absurd rfl hi, fun _ _ _ => rfl, fun _ _ => rfl⟩
  | counter hcounter =>
    exact ⟨rfl, rfl, rfl, rfl, fun _ _ => rfl, fun _ _ => rfl, fun _ => rfl,
      fun hemit hactivity _ => (hcounter.elim hemit hactivity).elim, fun _ _ => rfl⟩
  | defaults =>
    exact ⟨rfl, rfl, rfl, rfl, fun _ hi => absurd rfl hi, fun _ hi => absurd rfl hi, fun _ => rfl,
      fun _ _ hi => absurd rfl hi, fun _ _ => rfl⟩
  | decay _ z n =>
    exact ⟨rfl, rfl, rfl, rfl, fun _ _ => rfl, fun _ _ => rfl, fun _ => rfl, fun _ _ _ => rfl,
      fun w hw => Function.update_of_ne (fun heq : w = z => hw (by rw [heq])) _ _⟩

theorem Desk.RunsBy.left {i : Instr} {D F : Desk} (h : Desk.RunsBy i D F) : D.LeftBy i F := by
  obtain ⟨D', E, hbefore, hset, hafter⟩ := h
  exact ((hbefore.left i).trans hset.left).trans (hafter.left i)

/-! ### The command interpreter (R166) -/

theorem State.popCommand_runs (s : State) : s.desk.Runs s.popCommand.desk :=
  State.setLine_runs s.line.pop_runs

/-- A frame that the part takes to be a REPLY is sent while no reply waits or is being sent (R166). -/
theorem State.sendReply_runs {s : State} {r : OutFrame} (hready : s.line.ready = true)
    (hr : s.line.bounded → r.kind = .reply) : s.desk.Runs (s.sendFrame r).desk :=
  State.setLine_runs (HostLine.send_runs s.clock (fun _ => hready) fun h hlink => nomatch (hr h).symm.trans hlink)

/-- A command is answered while no reply waits or is being sent (R166, steps 3 and 4). -/
theorem State.finish_runs {D : Desk} {a : Answer} (hready : D.line.ready = true) (h : D.Works a.state.desk)
    (c : CommandFrame) : D.Runs (State.finish a c).desk := by
  have hsent : D.Runs (a.state.sendFrame (c.replyFrame a.reply)).desk :=
    h.runs.trans (State.sendReply_runs (h.line.ready.trans hready) fun _ => rfl)
  have hrecorded : ∀ u : State, u.desk.Runs (if a.record then u.setReplay (some
      { tag := c.tag, crc := c.crc, reply := c.replyFrame a.reply }) else u).desk := fun u => by
    split
    · exact State.setLine_runs (u.line.record_runs rfl)
    · exact .refl _
  unfold State.finish
  simp only []
  split
  · exact (hsent.trans (hrecorded _)).trans (State.runArbiter_works _).runs
  · exact hsent.trans (hrecorded _)

/-- The interpreter replays a recorded reply, or executes and answers, or does nothing (R166). -/
theorem State.takeCommand_runs {i : Instr} {form : List Byte → Bool} {act : List Byte → State → Answer}
    (h : ∀ (p : List Byte) (u : State), ∃ E, u.desk.SetBy i E ∧ E.Works (act p u).state.desk) (s : State) :
    Desk.RunsBy i s.desk (s.takeCommand i form act).desk := by
  unfold State.takeCommand
  split
  · exact (Desk.Runs.refl _).runsBy i
  · rename_i c _ _
    split
    · rename_i htaken
      obtain ⟨hready, -⟩ := Bool.and_eq_true_iff.mp htaken
      unfold State.interpret
      split
      · rename_i r hr
        have hkind : s.popCommand.line.bounded → r.kind = .reply := fun h => HostLine.replayFor_kind h hr
        exact (s.popCommand_runs.trans (State.sendReply_runs hready hkind)).runsBy i
      · split
        · obtain ⟨E, hset, hworks⟩ := h c.payload s.popCommand
          obtain ⟨b, hline⟩ := hset.line_eq
          have hidle : E.line.ready = true := by
            rw [hline]
            exact hready
          exact ⟨_, E, s.popCommand_runs, hset, State.finish_runs hidle hworks c⟩
        · have hrefused : s.popCommand.desk.Runs (State.finish (s.popCommand.refuse .badMessage []) c).desk :=
            State.finish_runs (a := s.popCommand.refuse .badMessage []) hready (.refl _) c
          exact (s.popCommand_runs.trans hrefused).runsBy i
    · exact (Desk.Runs.refl _).runsBy i

/-- A command that sets nothing and works at the desk. -/
theorem State.takeCommand_works {i : Instr} {form : List Byte → Bool} {act : List Byte → State → Answer}
    (h : ∀ (p : List Byte) (u : State), u.desk.Works (act p u).state.desk) (s : State) :
    Desk.RunsBy i s.desk (s.takeCommand i form act).desk :=
  State.takeCommand_runs (fun p u => ⟨_, .nothing i _, h p u⟩) s

/-- A command that leaves the desk. -/
theorem State.takeCommand_desk {i : Instr} {form : List Byte → Bool} {act : List Byte → State → Answer}
    (h : ∀ (p : List Byte) (u : State), (act p u).state.desk = u.desk) (s : State) :
    Desk.RunsBy i s.desk (s.takeCommand i form act).desk :=
  State.takeCommand_works (fun p u => .of_eq (h p u)) s

/-! ### Commands that leave the desk -/

theorem actCodeOpen_desk (p : List Byte) (s : State) : (actCodeOpen p s).state.desk = s.desk := by
  unfold actCodeOpen
  repeat' split
  all_goals rfl

theorem actCodeData_desk (p : List Byte) (s : State) : (actCodeData p s).state.desk = s.desk := by
  unfold actCodeData
  simp only []
  repeat' split
  all_goals simp

theorem actCodeClose_desk (p : List Byte) (s : State) : (actCodeClose p s).state.desk = s.desk := by
  unfold actCodeClose
  repeat' split
  all_goals simp

theorem actCodeAmend_desk (p : List Byte) (s : State) : (actCodeAmend p s).state.desk = s.desk := by
  unfold actCodeAmend
  repeat' split
  all_goals rfl

theorem actCodeInfo_desk (p : List Byte) (s : State) : (actCodeInfo p s).state.desk = s.desk := by
  unfold actCodeInfo
  split <;> rfl

theorem actCodeRead_desk (p : List Byte) (s : State) : (actCodeRead p s).state.desk = s.desk := by
  unfold actCodeRead
  simp only []
  repeat' split
  all_goals rfl

theorem actGetParam_desk (p : List Byte) (s : State) : (actGetParam p s).state.desk = s.desk := by
  unfold actGetParam
  split <;> rfl

theorem actJobKeep_desk (p : List Byte) (s : State) : (actJobKeep p s).state.desk = s.desk := by
  unfold actJobKeep
  repeat' split
  all_goals rfl

theorem actJobRelease_desk (p : List Byte) (s : State) : (actJobRelease p s).state.desk = s.desk := by
  unfold actJobRelease
  repeat' split
  all_goals rfl

theorem actJobInfo_desk (p : List Byte) (s : State) : (actJobInfo p s).state.desk = s.desk := by
  unfold actJobInfo
  split <;> rfl

theorem actZoneEnable_desk (p : List Byte) (s : State) : (actZoneEnable p s).state.desk = s.desk := by
  unfold actZoneEnable
  simp only []
  repeat' split
  all_goals simp

theorem actZoneInfo_desk (p : List Byte) (s : State) : (actZoneInfo p s).state.desk = s.desk := by
  unfold actZoneInfo
  split <;> rfl

theorem actDerateGet_desk (p : List Byte) (s : State) : (actDerateGet p s).state.desk = s.desk := by
  unfold actDerateGet
  split <;> rfl

theorem actInputInfo_desk (p : List Byte) (s : State) : (actInputInfo p s).state.desk = s.desk := by
  unfold actInputInfo
  split <;> rfl

theorem actLearn_desk (p : List Byte) (s : State) : (actLearn p s).state.desk = s.desk := by
  unfold actLearn
  split
  · unfold State.learnOn
    simp only []
    repeat' split
    all_goals simp [State.startLearn]
  · rfl

/-! ### Commands that work at the desk -/

theorem actCodeErase_works (p : List Byte) (s : State) : s.desk.Works (actCodeErase p s).state.desk := by
  unfold actCodeErase
  split
  · exact .refl _
  · exact s.eraseSlot_works _

theorem actJobCancel_works (p : List Byte) (s : State) : s.desk.Works (actJobCancel p s).state.desk := by
  unfold actJobCancel
  split
  · exact .refl _
  · exact s.cancelJob_works _

theorem actZoneDisable_works (p : List Byte) (s : State) : s.desk.Works (actZoneDisable p s).state.desk := by
  unfold actZoneDisable
  simp only []
  split
  · exact .refl _
  · exact s.disableZones_works _

theorem actInputMode_works (p : List Byte) (s : State) : s.desk.Works (actInputMode p s).state.desk := by
  unfold actInputMode
  split
  · exact .refl _
  · split
    · exact .refl _
    · simp only []
      split
      · exact .refl _
      · exact s.setMode_works _ _ _

theorem actLearnCancel_works (p : List Byte) (s : State) : s.desk.Works (actLearnCancel p s).state.desk := by
  unfold actLearnCancel
  split
  · exact .refl _
  · exact s.endLearn_works ..

theorem actRestartLink_works (p : List Byte) (s : State) : s.desk.Works (actRestartLink p s).state.desk := by
  unfold actRestartLink
  split
  · exact s.restartLink_works _
  · exact .refl _

/-! ### Commands that write a setting -/

theorem actSetParam_sets (p : List Byte) (s : State) :
    ∃ E, s.desk.SetBy .setParam E ∧ E.Works (actSetParam p s).state.desk := by
  have hstored : ∀ (q : ParamId) (n : Nat),
      ({ s.desk with params := s.params.set q n } : Desk).Works (s.storeParam q n).desk := by
    intro q n
    change (s.setParams (s.params.set q n)).desk.Works _
    unfold State.storeParam State.afterParam
    split
    · exact (State.moveWindow_works _ 0).trans (State.moveWindow_works _ 1)
    · split
      · exact State.dispatch_works _
      · exact .refl _
  unfold actSetParam
  split
  · exact ⟨_, .nothing _ _, .refl _⟩
  · split
    · exact ⟨_, .params _ _, hstored _ _⟩
    · exact ⟨_, .nothing _ _, .refl _⟩

theorem actReportSelect_sets (p : List Byte) (s : State) :
    ∃ E, s.desk.SetBy .reportSelect E ∧ E.Works (actReportSelect p s).state.desk := by
  unfold actReportSelect
  simp only []
  split
  · exact ⟨_, .categories _ _, State.recheckProducers_works (s.setLine { s.line with categories := p.getD 0 0#8 })⟩
  · exact ⟨_, .nothing _ _, .refl _⟩

theorem actDerateSet_sets (p : List Byte) (s : State) :
    ∃ E, s.desk.SetBy .derateSet E ∧ E.Works (actDerateSet p s).state.desk := by
  unfold actDerateSet
  split
  · exact ⟨_, .nothing _ _, .refl _⟩
  · split
    · exact ⟨_, .nothing _ _, .refl _⟩
    · exact ⟨_, .groups _ _, .refl _⟩

/-- An admission moves the next-id counter on, and marks jobs (R41, R42, R48). -/
theorem State.emitLast_sets (s : State) (r : EmitRequest) (c : Code) :
    ∃ E, s.desk.SetBy .emit E ∧ E.Works (s.emitLast r c).state.desk := by
  have hadmit : ∃ E, s.desk.SetBy .emit E ∧ E.Works
      (if s.jobs.length < Config.jobPlaces then
        (s.admitJob r).answerThenArbitrate (reply .ok (u8 (s.newJob r).id ++ u8 (s.admitJob r).jobs.length))
      else s.refuse .queueFull (u8 r.slot.val ++ u8 s.jobs.length)).state.desk := by
    split
    · refine ⟨_, .counter (.inl rfl) _ (nextIdAfter (s.newJob r).id), .since (State.markFor_works _ _) ?_⟩
      rw [← s.raiseReference_desk r.slot]
      rfl
    · exact ⟨_, .nothing _ _, .refl _⟩
  unfold State.emitLast
  simp only []
  split
  · exact hadmit
  · split
    · exact ⟨_, .nothing _ _, .refl _⟩
    · split
      · exact ⟨_, .nothing _ _, .refl _⟩
      · exact hadmit

theorem actEmit_sets (p : List Byte) (s : State) : ∃ E, s.desk.SetBy .emit E ∧ E.Works (actEmit p s).state.desk := by
  have hrefused : ∃ E, s.desk.SetBy .emit E ∧ E.Works s.desk := ⟨_, .nothing _ _, .refl _⟩
  unfold actEmit
  split
  · exact hrefused
  · split
    · unfold State.emitOn
      split
      · exact hrefused
      · split
        · exact hrefused
        · split
          · exact hrefused
          · split
            · exact hrefused
            · exact s.emitLast_sets _ _
    all_goals exact hrefused

/-! ### The events of jobs, zones and inputs -/

theorem execLoadIdleTimerExpiry_works (s : State) :
    ∃ t, execLoadIdleTimerExpiry s = .next t ∧ s.desk.Works t.desk := by
  refine ⟨_, rfl, ?_⟩
  split
  · split
    · exact .since (State.produce_works _ _) (s.abandonLoad_desk _)
    · exact .refl _
  · exact .refl _

theorem execKeepTimerExpiry_works (id : Nat) (s : State) :
    ∃ t, execKeepTimerExpiry id s = .next t ∧ s.desk.Works t.desk := by
  refine ⟨_, rfl, ?_⟩
  split
  · split
    · exact s.lapseKeep_works _
    · exact .refl _
  · exact .refl _

theorem execHoldLimitExpiry_works (id : Nat) (s : State) :
    ∃ t, execHoldLimitExpiry id s = .next t ∧ s.desk.Works t.desk := by
  refine ⟨_, rfl, ?_⟩
  split
  · split
    · exact .of_eq (s.reachHoldLimit_desk _)
    · exact .refl _
  · exact .refl _

theorem execPauseLimitExpiry_works (id : Nat) (s : State) :
    ∃ t, execPauseLimitExpiry id s = .next t ∧ s.desk.Works t.desk := by
  refine ⟨_, rfl, ?_⟩
  split
  · split
    · exact s.endThenArbitrate_works _ _
    · exact .refl _
  · exact .refl _

theorem execGuardExpiry_works (z : ZoneNo) (s : State) : ∃ t, execGuardExpiry z s = .next t ∧ s.desk.Works t.desk := by
  refine ⟨_, rfl, ?_⟩
  split
  · split
    · exact .since (State.runArbiter_works _) (State.setZone_desk_of_nextDecay rfl)
    · exact .refl _
  all_goals exact .refl _

theorem execJobStart_works (id : Nat) (s : State) : ∃ t, execJobStart id s = .next t ∧ s.desk.Works t.desk := by
  refine ⟨_, rfl, ?_⟩
  split
  · split
    · exact s.startJob_works ..
    · exact .refl _
  · exact .refl _

theorem execCellEnd_works (id : Nat) (s : State) : ∃ t, execCellEnd id s = .next t ∧ s.desk.Works t.desk := by
  refine ⟨_, rfl, ?_⟩
  split
  · exact .refl _
  · split
    · split
      · split
        · split
          · exact s.endCell_works ..
          · exact .refl _
        · exact .refl _
      all_goals exact .refl _
    · exact .refl _

theorem execFrameBoundary_works (id : Nat) (s : State) :
    ∃ t, execFrameBoundary id s = .next t ∧ s.desk.Works t.desk := by
  refine ⟨_, rfl, ?_⟩
  split
  · exact .refl _
  · split
    · split
      · split
        · exact State.decideBoundary_works (s.updateJob id _) _ _
        · exact .refl _
      all_goals exact .refl _
    · exact .refl _

theorem execCodeRetired_works (i : SlotNo) (s : State) : ∃ t, execCodeRetired i s = .next t ∧ s.desk.Works t.desk := by
  refine ⟨_, rfl, ?_⟩
  split
  · split
    · exact State.produce_works (s.putSlot i .empty) _
    · exact .refl _
  all_goals exact .refl _

/-- A decay step moves the instant of its zone's next one, and works at the desk (R112). -/
theorem execDecayStep_runs (z : ZoneNo) (s : State) :
    ∃ t, execDecayStep z s = .next t ∧ Desk.RunsBy (.decayStep z) s.desk t.desk := by
  have hmoved : ∀ t : State, (s.decay z).desk.Works t.desk → Desk.RunsBy (.decayStep z) s.desk t.desk := fun t ht =>
    ⟨_, _, .refl _, .decay _ z _, (((State.evaluate_works _ z).since (State.setZone_desk ..)).trans ht).runs⟩
  refine ⟨_, rfl, ?_⟩
  split
  · split
    · exact hmoved _ (State.checkPause_works _ _)
    all_goals exact hmoved _ (.refl _)
  · exact (Desk.Runs.refl _).runsBy _

theorem execRxRawEdge_works (v : InputNo) (level : Level) (s : State) :
    ∃ t, execRxRawEdge v level s = .next t ∧ s.desk.Works t.desk := by
  refine ⟨_, rfl, ?_⟩
  split
  · exact .refl _
  · exact (s.acceptDue_works v).trans (State.rawEdge_works _ v level)

theorem execLearnDeadline_works (s : State) : ∃ t, execLearnDeadline s = .next t ∧ s.desk.Works t.desk := by
  refine ⟨_, rfl, ?_⟩
  split
  · split
    · exact s.endLearn_works ..
    · exact .refl _
  · exact .refl _

theorem execRepeatWindowElapse_works (v : InputNo) (s : State) :
    ∃ t, execRepeatWindowElapse v s = .next t ∧ s.desk.Works t.desk := by
  refine ⟨_, rfl, ?_⟩
  split
  · split
    · exact State.checkRunEnd_works (s.setRun v _) v
    · exact .refl _
  · exact .refl _

/-! ### The events of the host line -/

theorem execHrxByte_runs (b : Byte) (stopHigh : Bool) (s : State) :
    ∃ t, execHrxByte b stopHigh s = .next t ∧ s.desk.Runs t.desk := by
  refine ⟨_, rfl, ?_⟩
  split
  · exact s.receiveByte_runs b
  · exact .refl _

theorem execByteTimeout_runs (s : State) : ∃ t, execByteTimeout s = .next t ∧ s.desk.Runs t.desk := by
  refine ⟨_, rfl, ?_⟩
  split
  · exact s.discardPartial_runs
  · exact .refl _

theorem execHtxFrameSent_runs (s : State) : ∃ t, execHtxFrameSent s = .next t ∧ s.desk.Runs t.desk := by
  refine ⟨_, rfl, ?_⟩
  split
  · exact State.setLine_runs (s.line.chooseNext_runs ..)
  · exact .refl _

theorem execReportSend_runs (s : State) : ∃ t, execReportSend s = .next t ∧ s.desk.Runs t.desk := by
  refine ⟨_, rfl, ?_⟩
  split
  · rename_i hfree
    obtain ⟨-, hwaiting⟩ := Bool.and_eq_true_iff.mp hfree
    obtain ⟨hstraps, hcategories⟩ := s.line.sendReport_kept s.clock (s.timer s.params.ackTimeout)
    exact State.setLine_runs ⟨hstraps, hcategories,
      fun h => HostLine.sendReport_bounded (List.isEmpty_iff.mp hwaiting) h _ _⟩
  · exact .refl _

theorem execAckTimerExpiry_works (s : State) : ∃ t, execAckTimerExpiry s = .next t ∧ s.desk.Works t.desk := by
  refine ⟨_, rfl, ?_⟩
  split
  · exact State.setLine_works (s.line.ackExpired_works _)
  · exact .refl _

/-! ### Every command, and every step -/

theorem runsBy_of_runs {i : Instr} {s : State} {o : Host.Outcome State Fault Refusal}
    (h : ∃ t, o = .next t ∧ s.desk.Runs t.desk) : ∃ t, o = .next t ∧ Desk.RunsBy i s.desk t.desk :=
  h.imp fun _ ht => ⟨ht.1, ht.2.runsBy i⟩

theorem runsBy_of_works {i : Instr} {s : State} {o : Host.Outcome State Fault Refusal}
    (h : ∃ t, o = .next t ∧ s.desk.Works t.desk) : ∃ t, o = .next t ∧ Desk.RunsBy i s.desk t.desk :=
  h.imp fun _ ht => ⟨ht.1, ht.2.runsBy i⟩

/-- Every command but a reset answers a next state, having set only what it may. -/
theorem exec_runsBy {i : Instr} (h : ∀ straps a b, i ≠ .powerOn straps a b ∧ i ≠ .resetPin straps a b) (s : State) :
    ∃ t, exec i s = .next t ∧ Desk.RunsBy i s.desk t.desk := by
  cases i with
  | powerOn straps a b => exact absurd rfl (h straps a b).1
  | resetPin straps a b => exact absurd rfl (h straps a b).2
  | messageFrame f => exact ⟨_, rfl, (foldl_runs State.receiveByte_runs _ s).runsBy _⟩
  | byteTimeout => exact runsBy_of_runs (execByteTimeout_runs s)
  | badMessage => exact ⟨_, rfl, State.takeCommand_desk (fun _ _ => rfl) s⟩
  | identify => exact ⟨_, rfl, State.takeCommand_desk (fun _ _ => rfl) s⟩
  | time => exact ⟨_, rfl, State.takeCommand_desk (fun _ _ => rfl) s⟩
  | setParam => exact ⟨_, rfl, State.takeCommand_runs actSetParam_sets s⟩
  | getParam => exact ⟨_, rfl, State.takeCommand_desk actGetParam_desk s⟩
  | reportSelect => exact ⟨_, rfl, State.takeCommand_runs actReportSelect_sets s⟩
  | restartLink => exact ⟨_, rfl, State.takeCommand_works actRestartLink_works s⟩
  | restartActivity =>
    exact ⟨_, rfl, State.takeCommand_runs (fun _ u => ⟨_, .counter (.inr rfl) _ 1, u.restartActivity_works⟩) s⟩
  | restartFull => exact ⟨_, rfl, State.takeCommand_runs (fun _ u => ⟨_, .defaults _, u.restartFull_works⟩) s⟩
  | codeOpen => exact ⟨_, rfl, State.takeCommand_desk actCodeOpen_desk s⟩
  | codeData => exact ⟨_, rfl, State.takeCommand_desk actCodeData_desk s⟩
  | codeClose => exact ⟨_, rfl, State.takeCommand_desk actCodeClose_desk s⟩
  | codeErase => exact ⟨_, rfl, State.takeCommand_works actCodeErase_works s⟩
  | codeAmend => exact ⟨_, rfl, State.takeCommand_desk actCodeAmend_desk s⟩
  | codeInfo => exact ⟨_, rfl, State.takeCommand_desk actCodeInfo_desk s⟩
  | codeRead => exact ⟨_, rfl, State.takeCommand_desk actCodeRead_desk s⟩
  | poolInfo => exact ⟨_, rfl, State.takeCommand_desk (fun _ _ => rfl) s⟩
  | emit => exact ⟨_, rfl, State.takeCommand_runs actEmit_sets s⟩
  | jobKeep => exact ⟨_, rfl, State.takeCommand_desk actJobKeep_desk s⟩
  | jobRelease => exact ⟨_, rfl, State.takeCommand_desk actJobRelease_desk s⟩
  | jobCancel => exact ⟨_, rfl, State.takeCommand_works actJobCancel_works s⟩
  | jobInfo => exact ⟨_, rfl, State.takeCommand_desk actJobInfo_desk s⟩
  | jobList => exact ⟨_, rfl, State.takeCommand_desk (fun _ _ => rfl) s⟩
  | zoneEnable => exact ⟨_, rfl, State.takeCommand_desk actZoneEnable_desk s⟩
  | zoneDisable => exact ⟨_, rfl, State.takeCommand_works actZoneDisable_works s⟩
  | zoneInfo => exact ⟨_, rfl, State.takeCommand_desk actZoneInfo_desk s⟩
  | derateSet => exact ⟨_, rfl, State.takeCommand_runs actDerateSet_sets s⟩
  | derateGet => exact ⟨_, rfl, State.takeCommand_desk actDerateGet_desk s⟩
  | inputMode => exact ⟨_, rfl, State.takeCommand_works actInputMode_works s⟩
  | inputInfo => exact ⟨_, rfl, State.takeCommand_desk actInputInfo_desk s⟩
  | learn => exact ⟨_, rfl, State.takeCommand_desk actLearn_desk s⟩
  | learnCancel => exact ⟨_, rfl, State.takeCommand_works actLearnCancel_works s⟩
  | htxFrameSent => exact runsBy_of_runs (execHtxFrameSent_runs s)
  | reportSend => exact runsBy_of_runs (execReportSend_runs s)
  | ackTimerExpiry => exact runsBy_of_works (execAckTimerExpiry_works s)
  | loadIdleTimerExpiry => exact runsBy_of_works (execLoadIdleTimerExpiry_works s)
  | keepTimerExpiry id => exact runsBy_of_works (execKeepTimerExpiry_works id s)
  | holdLimitExpiry id => exact runsBy_of_works (execHoldLimitExpiry_works id s)
  | pauseLimitExpiry id => exact runsBy_of_works (execPauseLimitExpiry_works id s)
  | guardExpiry z => exact runsBy_of_works (execGuardExpiry_works z s)
  | jobStart id => exact runsBy_of_works (execJobStart_works id s)
  | cellEnd id => exact runsBy_of_works (execCellEnd_works id s)
  | frameBoundary id => exact runsBy_of_works (execFrameBoundary_works id s)
  | codeRetired k => exact runsBy_of_works (execCodeRetired_works k s)
  | decayStep z => exact execDecayStep_runs z s
  | pauseClear id => exact ⟨_, rfl, (s.checkPause_works id).runsBy _⟩
  | rxRawEdge v level => exact runsBy_of_works (execRxRawEdge_works v level s)
  | acceptedChange v => exact ⟨_, rfl, (s.acceptDue_works v).runsBy _⟩
  | endGapClose v => exact ⟨_, rfl, (s.closeAtEndGap_works v).runsBy _⟩
  | stuckMark v => exact ⟨_, rfl, (s.closeStuck_works v).runsBy _⟩
  | discardEnd v => exact ⟨_, rfl, (Desk.Works.of_eq (s.endDiscard_desk v)).runsBy _⟩
  | captureDispatch => exact ⟨_, rfl, s.dispatch_works.runsBy _⟩
  | verifyVerdict v => exact ⟨_, rfl, ((s.checkSettled_works v).trans (State.arbiterAfter_works _ s)).runsBy _⟩
  | learnDeadline => exact runsBy_of_works (execLearnDeadline_works s)
  | repeatWindowElapse v => exact runsBy_of_works (execRepeatWindowElapse_works v s)
  | rxRunEnd v => exact ⟨_, rfl, (s.retryRunEnd_works v).runsBy _⟩
  | hrxByte b stopHigh => exact runsBy_of_runs (execHrxByte_runs b stopHigh s)

/-- A reset, or every other command, by what it does to the desk. -/
theorem exec_desk_cases (i : Instr) (s : State) :
    (∃ t straps cause, exec i s = .next t ∧ t.pending = s.pending ∧ t.line = resetLine straps cause ∧
        ∃ a b, i = .powerOn straps a b ∨ i = .resetPin straps a b) ∨
      ∃ t, exec i s = .next t ∧ Desk.RunsBy i s.desk t.desk := by
  by_cases h : ∀ straps a b, i ≠ .powerOn straps a b ∧ i ≠ .resetPin straps a b
  · exact .inr (exec_runsBy h s)
  · push Not at h
    obtain ⟨straps, a, b, h⟩ := h
    by_cases hi : i = .powerOn straps a b
    · subst hi
      exact .inl ⟨_, straps, _, rfl, rfl, rfl, a, b, .inl rfl⟩
    · obtain rfl := h hi
      exact .inl ⟨_, straps, _, rfl, rfl, rfl, a, b, .inr rfl⟩

theorem exec_keeps_line_bounded {i : Instr} {s t : State} (h : exec i s = .next t) (hs : s.line.bounded) :
    t.line.bounded := by
  obtain ⟨u, straps, cause, hu, -, hline, -⟩ | ⟨u, hu, hruns⟩ := exec_desk_cases i s
  · obtain rfl : u = t := Host.Outcome.next.inj (hu.symm.trans h)
    exact hline ▸ resetLine_bounded straps cause
  · obtain rfl : u = t := Host.Outcome.next.inj (hu.symm.trans h)
    exact hruns.keeps_bounded hs

/-- A happening is chosen in a state with the same host line. -/
theorem State.chooseDue_line {s t : State} {i : Instr} (h : s.chooseDue = some (i, t)) : t.line = s.line := by
  unfold State.chooseDue at h
  split at h <;> cases h <;> rfl

theorem step_keeps_line_bounded {s t : State} (h : step s = .next t) (hs : s.line.bounded) : t.line.bounded := by
  unfold step at h
  split at h
  · exact exec_keeps_line_bounded h hs
  · split at h
    · exact exec_keeps_line_bounded h (State.chooseDue_line ‹_› ▸ hs)
    · obtain rfl := Host.Outcome.next.inj h
      exact hs

end Sys2Proof.Machine

/-! ### The statements about the settings and the bounds of the line -/

section

open Sys2Proof Sys2Proof.Machine

/-- Settles O60: every command is a reset, which leaves a line within its bounds, or runs at the desk, which keeps them. -/
theorem stepKeepsLineBounded : Obligations.StepKeepsLineBounded := fun _ _ hs h =>
  step_keeps_line_bounded h hs

/-- Settles O2: a command that is no reset sets what it may and leaves every other setting. -/
theorem settingsHaveTheirWriters : Obligations.SettingsHaveTheirWriters := by
  intro i s
  obtain ⟨t, straps, cause, ht, hpending, -, a, b, hreset⟩ | ⟨t, ht, hruns⟩ := exec_desk_cases i s
  · refine ⟨t, ht, hpending, fun hother => ?_⟩
    obtain ⟨hpower, hpin⟩ := hother straps a b
    exact (hreset.elim hpower hpin).elim
  · have hleft := hruns.left
    exact ⟨t, ht, hleft.pending, fun _ => ⟨hleft.clock, hleft.draws, hleft.straps, hleft.params, hleft.groups,
      hleft.categories, hleft.nextId, hleft.nextDecay⟩⟩

end
end

section
/-! PROOFS. The interpreter's taking of a frame by its row, its form and the replay record, RESTART LINK, and the commands of
the part as a whole (R166, R173, R175 to R177). -/

namespace Sys2Proof.Machine

/-! ### The row of a frame (R166) -/

/-- The row of a frame is the interpreter's taking of it. -/
theorem exec_row (c : CommandFrame) :
    ∃ form act, ∀ s, exec c.row s = .next (s.takeCommand c.row form act) := by
  unfold CommandFrame.row
  repeat' split
  all_goals exact ⟨_, _, fun _ => rfl⟩

theorem CommandFrame.row_of_unknown_type {c : CommandFrame} (h : c.type ∉ commandTypes) : c.row = .badMessage := by
  have hknown : ∀ b ∈ commandTypes, c.type.toNat ≠ b.toNat := fun b hb heq => h (BitVec.eq_of_toNat_eq heq ▸ hb)
  simp only [commandTypes, List.forall_mem_cons, List.not_mem_nil, BitVec.reduceToNat] at hknown
  unfold CommandFrame.row
  split
  all_goals simp_all

/-- A command with one payload length asks for that length (R166, step 2). -/
theorem exec_of_payloadLength {i : Instr} {n : Nat} (h : (i, n) ∈ payloadLengths) :
    ∃ act, ∀ s, exec i s = .next (s.takeCommand i (hasLength n) act) := by
  have hall : ∀ x ∈ payloadLengths, ∃ act, ∀ s, exec x.1 s = .next (s.takeCommand x.1 (hasLength x.2) act) := by
    intro x hx
    fin_cases hx
    all_goals exact ⟨_, fun _ => rfl⟩
  exact hall _ h

section Taken

variable {s : State} {c : CommandFrame} {i : Instr}

/-- A frame of wrong form is answered BAD_MESSAGE (R166, step 2). -/
theorem State.takeCommand_badForm (h : s.takes c i) {form : List Byte → Bool} (hform : form c.payload = false)
    (act : List Byte → State → Answer) : s.takeCommand i form act = s.answered c [0x01#8] := by
  rw [State.takeCommand_takes h, if_neg (by simp [hform]), State.finish_refuse]
  rfl

theorem formCodeData_eq_false {p : List Byte}
    (h : byteAt p 3 = 0 ∨ 112 < byteAt p 3 ∨ p.length ≠ 4 + 2 * byteAt p 3) : formCodeData p = false := by
  have hcells : Config.segmentCells = 112 := rfl
  simp only [formCodeData, Bool.and_eq_false_iff, decide_eq_false_iff_not]
  omega

/-! ### RESTART LINK (R177) -/

theorem exec_restartLink_range {scope : Byte} (h : s.takes c .restartLink) (hp : c.payload = [scope])
    (hscope : 2 < scope.toNat) : exec .restartLink s = .next (s.answered c [0x02#8]) := by
  refine congrArg Host.Outcome.next (State.takeCommand_answers h hp rfl ?_)
  have hother : ¬[scope].getD 0 0#8 = 0#8 := by
    rintro rfl
    exact absurd hscope (by decide)
  unfold actRestartLink
  rw [if_neg hother]
  rfl

/-- RESTART LINK is answered and its reply is not recorded (R177). -/
theorem exec_restartLink (h : s.takes c .restartLink) (hp : c.payload = [0#8]) :
    exec .restartLink s = .next { s.popCommand.restartLink .link with
      line := (s.popCommand.restartLink .link).line.send s.clock (c.replyFrame [0x00#8, 0#8]) } := by
  have hclock : (s.popCommand.restartLink .link).clock = s.clock := by simp [State.restartLink]
  rw [← hclock]
  exact congrArg Host.Outcome.next (State.takeCommand_executes h hp rfl)

/-! ### Parameters (R176) -/

theorem Params.get_set (ps : Params) (p q : ParamId) (n : Nat) : (ps.set p n).get q = if q = p then n else ps.get q := by
  cases p <;> cases q <;> rfl

theorem ParamId.inRange_iff {q : ParamId} {n : Nat} : q.inRange n = true ↔ q.range.1 ≤ n ∧ n ≤ q.range.2 := by
  simp [ParamId.inRange]

theorem exec_getParam_unknown {b : Byte} (h : s.takes c .getParam) (hp : c.payload = [b])
    (hb : ParamId.ofId b.toNat = none) : exec .getParam s = .next (s.answered c [0x01#8]) := by
  refine congrArg Host.Outcome.next (State.takeCommand_answers h hp rfl ?_)
  unfold actGetParam
  rw [show ParamId.ofId (byteAt [b] 0) = none from hb]
  rfl

theorem exec_getParam_value {b : Byte} (h : s.takes c .getParam) (hp : c.payload = [b]) {q : ParamId}
    (hb : ParamId.ofId b.toNat = some q) :
    exec .getParam s = .next (s.answered c ([0x00#8, b] ++ u16 (s.params.get q))) := by
  refine congrArg Host.Outcome.next (State.takeCommand_answers h hp rfl ?_)
  unfold actGetParam
  rw [show ParamId.ofId (byteAt [b] 0) = some q from hb, show u8 (byteAt [b] 0) = [b] from u8_toNat b]
  rfl

section SetParam

variable {b hi lo : Byte} {q : ParamId}

theorem exec_setParam_unknown (h : s.takes c .setParam) (hp : c.payload = [b, hi, lo])
    (hb : ParamId.ofId b.toNat = none) : exec .setParam s = .next (s.answered c [0x01#8]) := by
  refine congrArg Host.Outcome.next (State.takeCommand_answers h hp rfl ?_)
  unfold actSetParam
  rw [show ParamId.ofId (byteAt [b, hi, lo] 0) = none from hb]
  rfl

theorem exec_setParam_range (h : s.takes c .setParam) (hp : c.payload = [b, hi, lo])
    (hb : ParamId.ofId b.toNat = some q) (hrange : q.inRange (hi.toNat * 256 + lo.toNat) = false) :
    exec .setParam s = .next (s.answered c [0x02#8]) := by
  refine congrArg Host.Outcome.next (State.takeCommand_answers h hp rfl ?_)
  have hout : ¬q.inRange (wordAt [b, hi, lo] 1) = true := ne_true_of_eq_false hrange
  unfold actSetParam
  rw [show ParamId.ofId (byteAt [b, hi, lo] 0) = some q from hb]
  simp only [if_neg hout]
  rfl

/-- An accepted value is stored, does at once what its parameter asks for, and is answered with the prior one (R176). -/
theorem exec_setParam_stores (h : s.takes c .setParam) (hp : c.payload = [b, hi, lo])
    (hb : ParamId.ofId b.toNat = some q) (hrange : q.inRange (hi.toNat * 256 + lo.toNat) = true) :
    exec .setParam s =
      .next (((s.popCommand.setParams (s.params.set q (hi.toNat * 256 + lo.toNat))).afterParam q).replied c
        ([0x00#8, b, hi, lo] ++ u16 (s.params.get q))) := by
  refine congrArg Host.Outcome.next (State.takeCommand_answers h hp rfl ?_)
  have hin : q.inRange (wordAt [b, hi, lo] 1) = true := hrange
  have hid : u8 (byteAt [b, hi, lo] 0) = [b] := u8_toNat b
  have hvalue : u16 (wordAt [b, hi, lo] 1) = [hi, lo] := u16_word hi lo
  unfold actSetParam
  rw [show ParamId.ofId (byteAt [b, hi, lo] 0) = some q from hb]
  simp only [if_pos hin, hid, hvalue]
  rfl

end SetParam

theorem State.afterParam_plain {q : ParamId} (hwindow : q ≠ .repeatWindow) (hforward : q ≠ .unknownForward) :
    s.afterParam q = s := by
  rw [State.afterParam, if_neg hwindow, if_neg hforward]

/-! ### The report selection (R173) -/

theorem selectionInRange_iff (b : Byte) : selectionInRange b = true ↔ b &&& 0xE0#8 = 0#8 := by
  revert b
  decide

theorem exec_reportSelect_range {b : Byte} (h : s.takes c .reportSelect) (hp : c.payload = [b])
    (hb : b &&& 0xE0#8 ≠ 0#8) : exec .reportSelect s = .next (s.answered c [0x02#8]) := by
  refine congrArg Host.Outcome.next (State.takeCommand_answers h hp rfl ?_)
  have hout : ¬selectionInRange ([b].getD 0 0#8) = true := fun hin => hb ((selectionInRange_iff b).mp hin)
  simp only [actReportSelect, if_neg hout]
  rfl

theorem exec_reportSelect {b : Byte} (h : s.takes c .reportSelect) (hp : c.payload = [b]) (hb : b &&& 0xE0#8 = 0#8) :
    exec .reportSelect s = .next ((s.popCommand.selectReports b).replied c [0x00#8, b, s.line.categories]) := by
  refine congrArg Host.Outcome.next (State.takeCommand_answers h hp rfl ?_)
  have hin : selectionInRange ([b].getD 0 0#8) = true := (selectionInRange_iff b).mpr hb
  simp only [actReportSelect, if_pos hin]
  rfl

end Taken

end Sys2Proof.Machine

/-! ### The statements about the interpreter and the commands of the part -/

section

open Sys2Proof Sys2Proof.Machine

/-- Settles O4: the row of a frame is the interpreter's taking of it, which does nothing out of turn and replays what the
record holds. -/
theorem commandsTakenInTurn : Obligations.CommandsTakenInTurn := by
  intro s c
  obtain ⟨form, act, hexec⟩ := exec_row c
  simp only [hexec]
  refine ⟨fun hidle => ?_, fun d hd hrow => ?_, fun r hc hready hr => ?_⟩
  · rw [State.takeCommand_idle (hidle.imp_right .inl)]
  · rw [State.takeCommand_idle (.inr (.inr ⟨d, hd, hrow⟩))]
  · rw [State.takeCommand_replay hc hready hr rfl]
    rfl

/-- Settles O5: a frame of an unknown TYPE has no form that fits, and a frame of wrong length fails its command's form. -/
theorem badMessageAnswered : Obligations.BadMessageAnswered := by
  refine fun s c h => ⟨fun htype => ?_, fun n hn hlength => ?_, fun hrow hform => ?_⟩
  · rw [CommandFrame.row_of_unknown_type htype] at h
    exact congrArg Host.Outcome.next (State.takeCommand_badForm h rfl _)
  · obtain ⟨act, hexec⟩ := exec_of_payloadLength hn
    rw [hexec, State.takeCommand_badForm h (decide_eq_false hlength)]
  · rw [hrow] at h
    exact congrArg Host.Outcome.next (State.takeCommand_badForm h (formCodeData_eq_false hform) _)

/-- Settles O8: a scope above 2 is refused, and LINK restarts the line of the frame that has left the FIFO. -/
theorem restartLinkEffects : Obligations.RestartLinkEffects := by
  refine fun s c scope h hp => ⟨exec_restartLink_range h hp, fun hscope u hu => ?_⟩
  subst hscope hu
  exact exec_restartLink h hp

/-- Settles O12: one equation for each outcome of GET_PARAM and SET_PARAM, and the effect of a value by its parameter. -/
theorem parametersAnswer : Obligations.ParametersAnswer := by
  refine ⟨Params.get_set, fun s c b => ⟨fun h hp => ⟨exec_getParam_unknown h hp, fun q => exec_getParam_value h hp⟩, ?_⟩⟩
  intro hi lo h hp n hn
  subst hn
  refine ⟨exec_setParam_unknown h hp, fun q hq => ⟨fun hout => exec_setParam_range h hp hq ?_, fun hlow hhigh u hu => ?_⟩⟩
  · rw [← Bool.not_eq_true, ParamId.inRange_iff]
    omega
  · subst hu
    rw [exec_setParam_stores h hp hq (ParamId.inRange_iff.mpr ⟨hlow, hhigh⟩)]
    refine ⟨fun hwindow hforward => ?_, fun hforward => ?_, fun hwindow => ?_⟩
    · rw [State.afterParam_plain hwindow hforward]
      rfl
    · subst hforward
      rfl
    · subst hwindow
      rfl

/-- Settles O11: both replies are read off the commands' answers. -/
theorem identifyAndTimeAnswer : Obligations.IdentifyAndTimeAnswer := fun _ _ hp =>
  ⟨fun h => congrArg Host.Outcome.next (State.takeCommand_answers h hp rfl rfl),
    fun h => congrArg Host.Outcome.next (State.takeCommand_answers h hp rfl rfl)⟩

/-- Settles O13: a byte with a reserved bit is refused, and any other replaces the selection. -/
theorem reportSelectAnswers : Obligations.ReportSelectAnswers := by
  refine fun s c b h hp => ⟨exec_reportSelect_range h hp, fun hb u hu => ?_⟩
  subst hu
  exact exec_reportSelect h hp hb

end
end

section
/-! PROOFS. What the host line sends: replies and link errors, reports, the arbiter of HTX and the acknowledgement timer
(R163, R167, R169 to R173). -/

namespace Sys2Proof.Machine

/-! ### The acknowledgement timer (R172) -/

theorem exec_ackTimerExpiry_of_not_due {s : State} (h : s.due s.line.ackTimer = false) :
    exec .ackTimerExpiry s = .next s :=
  congrArg Host.Outcome.next (if_neg (by simp [h]))

theorem exec_ackTimerExpiry_of_due {s : State} (h : s.due s.line.ackTimer = true) :
    exec .ackTimerExpiry s = .next (s.setLine (s.line.ackExpired s.params.retryLimit)) :=
  congrArg Host.Outcome.next (if_pos h)

theorem State.due_some {s : State} {t : Timer} : s.due (some t) = true ↔ t.length ≤ (s.now - t.start).toNat :=
  Timer.reached_iff

/-! ### Frames and reports that are produced (R163, R167, R169, R170) -/

theorem HostLine.send_of_free {l : HostLine} (hsending : l.sending = none) (hwaiting : l.waiting = []) (clock : Nat)
    (f : OutFrame) : l.send clock f = { l with sending := some f, sendingSince := clock } := by
  simp [HostLine.send, hsending, hwaiting]

theorem HostLine.send_of_busy {l : HostLine} (h : l.sending.isSome = true ∨ l.waiting ≠ []) (clock : Nat) (f : OutFrame) :
    l.send clock f = { l with waiting := l.waiting ++ [f] } := by
  obtain ⟨hsending, hwaiting, -⟩ | ⟨-, hsend⟩ := l.send_cases clock f
  · exact absurd h (by simp [hsending, hwaiting])
  · exact hsend

/-- The high digit of a report's TYPE tells its category, and so whether it is selected (R173). -/
theorem HostLine.selects_iff (l : HostLine) (r : Report) :
    l.selects r.category = true ↔
      r.type.toNat / 16 = 8 ∨ l.categories.getLsbD (r.type.toNat / 16 - 9) = true := by
  cases r <;> simp [HostLine.selects, Report.category, Report.type, Category.selectedIn]

theorem HostLine.produce_of_deselected {l : HostLine} {r : Report} (h : ¬l.selects r.category = true) :
    l.produce r = l :=
  if_neg h

theorem HostLine.produce_of_room {l : HostLine} {r : Report} (h : l.selects r.category = true)
    (room : l.reports.length < 32) : l.produce r = l.join r :=
  (if_pos h).trans (if_pos room)

theorem HostLine.produce_of_full {l : HostLine} {r : Report} (h : l.selects r.category = true)
    (hfull : 32 ≤ l.reports.length) : l.produce r = { l with lost := bump l.lost } :=
  (if_pos h).trans (if_neg (Nat.not_lt.mpr hfull))

/-- A frame under way leaves as SYNC, LEN, KIND, TAG, TYPE, payload and CRC (R163). -/
theorem HostLine.onHtx_of_sending {l : HostLine} {f : OutFrame} (h : l.sending = some f) :
    l.onHtx = frameBytes (makeFrame f.kind.code f.tag f.type f.payload) := by
  simp only [HostLine.onHtx, h]
  rfl

/-! ### The report that goes next (R171) -/

section Window

variable {l : HostLine} {clock : Nat} {timer : Timer}

theorem HostLine.nextReport_of_closed
    (h : l.held = true ∨ 8 ≤ l.outstanding ∨ ∀ e ∈ l.reports, e.sent = true) : l.nextReport = none := by
  have hwindow : Config.reportWindow = 8 := rfl
  unfold HostLine.nextReport
  obtain hheld | hout | hsent := h
  · rw [if_neg (by simp [hheld])]
  · rw [if_neg (by simp [hwindow, hout])]
  · rw [List.find?_eq_none.mpr (by simpa using hsent), ite_self]

theorem HostLine.nextReport_of_open {ahead behind : List ReportEntry} {e : ReportEntry} (hheld : l.held = false)
    (hout : l.outstanding < 8) (hreports : l.reports = ahead ++ e :: behind) (hahead : ∀ x ∈ ahead, x.sent = true)
    (he : e.sent = false) : l.nextReport = some e := by
  have hwindow : Config.reportWindow = 8 := rfl
  unfold HostLine.nextReport
  rw [if_pos (by simp [hheld, hwindow, hout]), hreports]
  exact List.find?_eq_some_iff_append.mpr ⟨by simp [he], ahead, behind, rfl, by simpa using hahead⟩

theorem markOldestUnsent_append {ahead behind : List ReportEntry} {e : ReportEntry} (hahead : ∀ x ∈ ahead, x.sent = true)
    (he : e.sent = false) :
    markOldestUnsent (ahead ++ e :: behind) =
      ahead ++ { e with sent := true, timesSent := if e.timesSent < 255 then e.timesSent + 1 else e.timesSent } :: behind := by
  induction ahead with
  | nil => simp [markOldestUnsent, he]
  | cons x xs ih =>
    obtain ⟨hx, hxs⟩ := List.forall_mem_cons.mp hahead
    simp [markOldestUnsent, hx, ih hxs]

theorem HostLine.sendReport_of_closed
    (h : l.held = true ∨ 8 ≤ l.outstanding ∨ ∀ e ∈ l.reports, e.sent = true) : l.sendReport clock timer = l := by
  simp only [HostLine.sendReport, HostLine.nextReport_of_closed h]

/-- The oldest unsent report goes out, and the acknowledgement timer starts with the first that is outstanding (R171,
R172). -/
theorem HostLine.sendReport_of_open {ahead behind : List ReportEntry} {e : ReportEntry} (hheld : l.held = false)
    (hout : l.outstanding < 8) (hreports : l.reports = ahead ++ e :: behind) (hahead : ∀ x ∈ ahead, x.sent = true)
    (he : e.sent = false) :
    l.sendReport clock timer =
      { l with
        sending := some e.frame
        sendingSince := clock
        reports :=
          ahead ++ { e with sent := true, timesSent := if e.timesSent < 255 then e.timesSent + 1 else e.timesSent } :: behind
        ackTimer := if l.outstanding = 0 then some timer else l.ackTimer } := by
  simp only [HostLine.sendReport, HostLine.nextReport_of_open hheld hout hreports hahead he]
  rw [hreports, markOldestUnsent_append hahead he]

theorem HostLine.chooseNext_of_waiting {f : OutFrame} {fs : List OutFrame} (h : l.waiting = f :: fs) :
    l.chooseNext clock timer = { l with waiting := fs, sending := some f, sendingSince := clock } := by
  simp only [HostLine.chooseNext, h]

theorem HostLine.chooseNext_of_none (h : l.waiting = []) : l.chooseNext clock timer = l.sendReport clock timer := by
  simp only [HostLine.chooseNext, h]

end Window

/-! ### The events of HTX (R167, R171) -/

section Events

variable {s : State}

theorem exec_htxFrameSent_idle (h : s.line.sending = none) : exec .htxFrameSent s = .next s := by
  refine congrArg Host.Outcome.next ?_
  simp only [h]

theorem exec_htxFrameSent_of_waiting {x f : OutFrame} {fs : List OutFrame} (h : s.line.sending = some x)
    (hwaiting : s.line.waiting = f :: fs) :
    exec .htxFrameSent s =
      .next (s.setLine { s.line with waiting := fs, sending := some f, sendingSince := s.clock }) := by
  refine congrArg Host.Outcome.next ?_
  simp only [h]
  rw [HostLine.chooseNext_of_waiting (l := { s.line with sending := none }) hwaiting]

theorem exec_htxFrameSent_of_none_waiting {x : OutFrame} (h : s.line.sending = some x) (hwaiting : s.line.waiting = []) :
    exec .htxFrameSent s =
      .next (s.setLine ({ s.line with sending := none }.sendReport s.clock (s.timer s.params.ackTimeout))) := by
  refine congrArg Host.Outcome.next ?_
  simp only [h]
  rw [HostLine.chooseNext_of_none (l := { s.line with sending := none }) hwaiting]

theorem exec_reportSend_of_busy (h : s.line.sending.isSome = true ∨ s.line.waiting ≠ []) :
    exec .reportSend s = .next s := by
  refine congrArg Host.Outcome.next (if_neg ?_)
  rw [Bool.and_eq_true, Option.isNone_iff_eq_none, List.isEmpty_iff]
  rintro ⟨hsending, hwaiting⟩
  exact h.elim (by simp [hsending]) fun hne => hne hwaiting

theorem exec_reportSend_of_free (hsending : s.line.sending = none) (hwaiting : s.line.waiting = []) :
    exec .reportSend s = .next (s.setLine (s.line.sendReport s.clock (s.timer s.params.ackTimeout))) :=
  congrArg Host.Outcome.next (if_pos (by simp [hsending, hwaiting]))

end Events

end Sys2Proof.Machine

open Sys2Proof Sys2Proof.Machine

/-- Settles O52, by whether the timer is due when its event comes. -/
theorem ackTimerExpires : Obligations.AckTimerExpires := by
  intro s
  refine ⟨fun hnone => exec_ackTimerExpiry_of_not_due (by rw [hnone]; rfl),
    fun t ht => ⟨fun hearly => ?_, fun hreached => ?_⟩⟩
  · refine exec_ackTimerExpiry_of_not_due (Bool.not_eq_true _ ▸ fun hdue => ?_)
    rw [ht, State.due_some] at hdue
    omega
  · have hdue : s.due s.line.ackTimer = true := by rwa [ht, State.due_some]
    rw [exec_ackTimerExpiry_of_due hdue]
    refine ⟨fun hbelow => ?_, fun hlimit => ?_⟩
    · exact congrArg (fun l => Host.Outcome.next (s.setLine l)) (if_pos hbelow)
    · exact congrArg (fun l => Host.Outcome.next (s.setLine l)) (if_neg (Nat.not_lt.mpr hlimit))

/-- Settles O51, by what is sent, what joins, and what the arbiter finds: a frame that waits, a closed window, or an
unsent report. -/
theorem lineChoosesNext : Obligations.LineChoosesNext := by
  refine ⟨fun l clock f => ⟨fun hs hw => l.send_of_free hs hw clock f, fun h => l.send_of_busy h clock f⟩, ?_, fun s => ?_⟩
  · rintro l r digit selected rfl hselected
    rw [← l.selects_iff r] at hselected
    rw [hselected]
    exact ⟨rfl, HostLine.produce_of_deselected, HostLine.produce_of_room, HostLine.produce_of_full⟩
  · refine ⟨fun hnone => ?_, ?_, exec_htxFrameSent_idle, ?_, exec_reportSend_of_busy, ?_, ?_⟩
    · simp only [HostLine.onHtx, hnone]
    · rintro f len kind crc hf rfl rfl rfl
      rw [HostLine.onHtx_of_sending hf]
      cases f.kind <;> rfl
    · exact fun f fs x hx hwaiting => exec_htxFrameSent_of_waiting hx hwaiting
    · intro hwaiting hclosed
      refine ⟨fun hfree => ?_, fun x hx => ?_⟩
      · rw [exec_reportSend_of_free hfree hwaiting, HostLine.sendReport_of_closed hclosed]
        rfl
      · rw [exec_htxFrameSent_of_none_waiting hx hwaiting,
          HostLine.sendReport_of_closed (l := { s.line with sending := none }) hclosed]
        rfl
    · rintro ahead e behind t hwaiting hheld hout hreports hahead he rfl
      refine ⟨fun hfree => ?_, fun x hx => ?_⟩
      · rw [exec_reportSend_of_free hfree hwaiting, HostLine.sendReport_of_open hheld hout hreports hahead he]
        rfl
      · rw [exec_htxFrameSent_of_none_waiting hx hwaiting,
          HostLine.sendReport_of_open (l := { s.line with sending := none }) hheld hout hreports hahead he]
        rfl

end

section
/-! PROOFS. What the host line hears: the framer, the frame check and the producers that an acknowledgement lets go on
(R162, R164, R170 to R172). -/

namespace Sys2Proof.Machine

/-- The state once a byte has ended now (R164). -/
def State.heard (s : State) : State :=
  s.setLine { s.line with lastByte := s.clock }

/-! ### Link errors (R163, R167) -/

theorem State.linkError_of_full {s : State} (h : 4 ≤ s.line.linkErrorsWaiting) (e : LinkFault) (tag : Byte) :
    s.linkError e tag = s :=
  if_neg (Nat.not_lt.mpr h)

theorem State.linkError_of_room {s : State} (h : s.line.linkErrorsWaiting < 4) (e : LinkFault) (tag : Byte) :
    s.linkError e tag =
      s.setLine (s.line.send s.clock { kind := .linkError, tag := tag, type := e.code, payload := [] }) :=
  if_pos h

theorem State.linkError_framer (s : State) (e : LinkFault) (tag : Byte) :
    (s.linkError e tag).line.framer = s.line.framer := by
  unfold State.linkError
  split
  · simp only [State.setLine]
    rw [HostLine.send_eq]
  · rfl

/-! ### Gaps (R162, R164) -/

theorem byteTime_eq (straps : BitVec 2) :
    byteTime straps = if straps = 0#2 then 520 else if straps = 1#2 then 86 else if straps = 2#2 then 21 else 10 := by
  revert straps
  decide

theorem State.quietFor_iff {s : State} {more : Nat} :
    s.quietFor more = true ↔ s.line.framer ≠ .hunt ∧ s.line.lastByte + 10000 + more < s.clock := by
  have hgap : byteGap = 10000 := rfl
  simp only [State.quietFor, Bool.and_eq_true, decide_eq_true_eq, hgap]

theorem State.quietFor_hunt {s : State} (h : s.line.framer = .hunt) (more : Nat) : s.quietFor more = false :=
  Bool.eq_false_iff.mpr fun hquiet => (State.quietFor_iff.mp hquiet).left h

theorem State.quietFor_early {s : State} {more : Nat} (h : s.clock ≤ s.line.lastByte + 10000 + more) :
    s.quietFor more = false :=
  Bool.eq_false_iff.mpr fun hquiet => Nat.not_lt.mpr h (State.quietFor_iff.mp hquiet).right

theorem State.discardPartial_hunt (s : State) : s.discardPartial.line.framer = .hunt :=
  State.linkError_framer ..

theorem exec_byteTimeout_of_quiet {s : State} (h : s.quietFor 0 = true) :
    exec .byteTimeout s = .next s.discardPartial :=
  congrArg Host.Outcome.next (if_pos h)

theorem exec_byteTimeout_of_not_quiet {s : State} (h : s.quietFor 0 = false) : exec .byteTimeout s = .next s :=
  congrArg Host.Outcome.next (if_neg (by simp [h]))

/-! ### One byte (R164) -/

theorem State.receiveByte_of_no_gap {s : State} (h : s.gapPassed = false) (b : Byte) :
    s.receiveByte b = s.heard.frameByte b := by
  simp only [State.receiveByte, h, Bool.false_eq_true, if_false]
  rfl

theorem State.receiveByte_of_gap {s : State} (h : s.gapPassed = true) (b : Byte) :
    s.receiveByte b = (s.discardPartial.setLine { s.discardPartial.line with lastByte := s.clock }).frameByte b := by
  simp only [State.receiveByte, h, if_true]

section Framer

variable {s : State} {b len : Byte} {bytes : List Byte}

theorem State.frameByte_sync (h : s.line.framer = .hunt) : s.frameByte 0xC3#8 = s.setFramer .length := by
  simp only [State.frameByte, h, if_true]

theorem State.frameByte_noise (h : s.line.framer = .hunt) (hb : b ≠ 0xC3#8) : s.frameByte b = s := by
  simp only [State.frameByte, h, if_neg hb]

theorem State.frameByte_length (h : s.line.framer = .length) (hb : 3 ≤ b.toNat ∧ b.toNat ≤ 243) :
    s.frameByte b = s.setFramer (.body b []) := by
  simp only [State.frameByte, h, if_pos hb]

theorem State.frameByte_badLength (h : s.line.framer = .length) (hb : b.toNat < 3 ∨ 243 < b.toNat) :
    s.frameByte b = (s.setFramer .hunt).linkError .badLength 0#8 := by
  have hnot : ¬(3 ≤ b.toNat ∧ b.toNat ≤ 243) := by omega
  simp only [State.frameByte, h, if_neg hnot]

theorem State.frameByte_body (h : s.line.framer = .body len bytes) :
    s.frameByte b =
      s.setFramer (if bytes.length + 1 < len.toNat then .body len (bytes ++ [b]) else .crc len (bytes ++ [b]) none) := by
  simp only [State.frameByte, h]
  split <;> rfl

theorem State.frameByte_firstCrc (h : s.line.framer = .crc len bytes none) :
    s.frameByte b = s.setFramer (.crc len bytes (some b)) := by
  simp only [State.frameByte, h]

theorem State.frameByte_secondCrc {hi : Byte} (h : s.line.framer = .crc len bytes (some hi)) :
    s.frameByte b = (s.setFramer .hunt).checkBytes len bytes (hi ++ b) := by
  simp only [State.frameByte, h]

end Framer

/-! ### The bytes of a frame, one behind another (R164) -/

theorem State.setFramer_self {s : State} {x : Framer} (h : s.line.framer = x) : s.setFramer x = s := by
  subst h
  rfl

/-- A byte that ends when the one before it ended finds no gap. -/
theorem State.receiveByte_heard (s : State) (x : Framer) (b : Byte) :
    (s.heard.setFramer x).receiveByte b = (s.heard.setFramer x).frameByte b :=
  State.receiveByte_of_no_gap
    (State.quietFor_early (Nat.le_add_right_of_le (Nat.le_add_right_of_le (Nat.le_refl s.clock)))) b

/-- The bytes from KIND on fill the frame, and the framer waits for its CRC. -/
theorem State.receive_body (s : State) {len : Byte} {bytes got : List Byte} (hne : bytes ≠ [])
    (hlen : got.length + bytes.length = len.toNat) :
    bytes.foldl State.receiveByte (s.heard.setFramer (.body len got)) =
      s.heard.setFramer (.crc len (got ++ bytes) none) := by
  induction bytes generalizing got with
  | nil => exact absurd rfl hne
  | cons b bs ih =>
    rw [List.length_cons] at hlen
    rw [List.foldl_cons, s.receiveByte_heard, State.frameByte_body rfl]
    cases bs with
    | nil => rw [if_neg (by rw [List.length_nil] at hlen; omega)]; rfl
    | cons c cs =>
      rw [if_pos (by rw [List.length_cons] at hlen; omega), List.append_cons got b (c :: cs)]
      refine ih (by simp) ?_
      rw [← hlen, List.length_append, List.length_singleton]
      omega

theorem crc_of_bytes (crc : Word16) : crc.extractLsb' 8 8 ++ crc.extractLsb' 0 8 = crc := by
  have hcrc := crc.isLt
  refine BitVec.eq_of_toNat_eq ?_
  rw [toNat_append_byte, BitVec.extractLsb'_toNat, BitVec.extractLsb'_toNat, Nat.shiftRight_eq_div_pow, Nat.shiftRight_zero]
  omega

/-- A well-formed frame whose bytes find the framer in HUNT is checked as a whole and leaves it in HUNT (R164). -/
theorem exec_messageFrame {s : State} {f : WireFrame} (hunt : s.line.framer = .hunt) (hf : f.wellFormed = true) :
    exec (.messageFrame f) s = .next (s.heard.checkFrame f.len f.kind f.tag f.type f.payload f.crc) := by
  obtain ⟨hpayload, hlen⟩ := Bool.and_eq_true_iff.mp hf
  have hpayload := of_decide_eq_true hpayload
  have hlen := of_decide_eq_true hlen
  have hsync : s.receiveByte 0xC3#8 = s.heard.setFramer .length := by
    rw [State.receiveByte_of_no_gap (State.quietFor_hunt hunt _), State.frameByte_sync (s := s.heard) hunt]
  have hlength : (s.heard.setFramer .length).receiveByte f.len = s.heard.setFramer (.body f.len []) := by
    rw [s.receiveByte_heard, State.frameByte_length rfl ⟨by omega, by omega⟩]
    rfl
  have hbody := s.receive_body (len := f.len) (bytes := f.kind :: f.tag :: f.type :: f.payload) (got := []) (by simp)
    (by simp only [List.length_cons, List.length_nil]; omega)
  have hcrc : [f.crc.extractLsb' 8 8, f.crc.extractLsb' 0 8].foldl State.receiveByte
      (s.heard.setFramer (.crc f.len (f.kind :: f.tag :: f.type :: f.payload) none)) =
        s.heard.checkFrame f.len f.kind f.tag f.type f.payload f.crc := by
    rw [List.foldl_cons, s.receiveByte_heard, State.frameByte_firstCrc rfl, List.foldl_cons, List.foldl_nil]
    refine (s.receiveByte_heard _ _).trans ((State.frameByte_secondCrc rfl).trans ?_)
    rw [crc_of_bytes]
    exact congrArg (fun u : State => u.checkFrame f.len f.kind f.tag f.type f.payload f.crc)
      (State.setFramer_self (s := s.heard) hunt)
  refine congrArg Host.Outcome.next ?_
  calc (frameBytes f).foldl State.receiveByte s
      = ((f.kind :: f.tag :: f.type :: f.payload) ++ [f.crc.extractLsb' 8 8, f.crc.extractLsb' 0 8]).foldl
          State.receiveByte ((s.receiveByte 0xC3#8).receiveByte f.len) := rfl
    _ = _ := by rw [hsync, hlength, List.foldl_append, hbody, List.nil_append, hcrc]

end Sys2Proof.Machine
end

section
/-! PROOFS. What the frame check answers (R164, R170 to R172), and the statements on frames and bytes. -/

namespace Sys2Proof.Machine

/-! ### The frame check (R164) -/

section Check

variable {s : State} {len kind tag type : Byte} {payload : List Byte} {crc : Word16}

theorem State.checkFrame_badCrc (h : crc ≠ frameCrc len kind tag type payload) :
    s.checkFrame len kind tag type payload crc = s.linkError .badCrc tag :=
  if_pos h

theorem State.checkFrame_ack (h : crc = frameCrc len 0x04#8 tag type payload) :
    s.checkFrame len 0x04#8 tag type payload crc = (s.acknowledge tag).endHeld := by
  rw [State.checkFrame, if_neg (not_not.mpr h), if_pos rfl]

theorem State.checkFrame_command (h : crc = frameCrc len 0x01#8 tag type payload) :
    s.checkFrame len 0x01#8 tag type payload crc =
      s.endHeld.admitCommand { tag := tag, type := type, payload := payload, crc := crc } := by
  rw [State.checkFrame, if_neg (not_not.mpr h), if_neg (by decide), if_pos rfl]

theorem State.checkFrame_badKind (h : crc = frameCrc len kind tag type payload) (hcommand : kind ≠ 0x01#8)
    (hack : kind ≠ 0x04#8) : s.checkFrame len kind tag type payload crc = s.endHeld.linkError .badKind tag := by
  rw [State.checkFrame, if_neg (not_not.mpr h), if_neg hack, if_neg hcommand]

end Check

theorem State.endHeld_eq (s : State) :
    s.endHeld =
      if s.line.held then
        { s with
          line :=
            { s.line with
              reports := s.line.reports.map fun e => { e with sent := false }
              held := false, rounds := 0, ackTimer := none } }
      else s := by
  unfold State.endHeld HostLine.endHeld
  split <;> rfl

theorem State.endHeld_fifo (s : State) : s.endHeld.line.fifo = s.line.fifo :=
  s.line.endHeld_works.fifo

theorem State.admitCommand_of_room {s : State} (room : s.line.fifo.length < 4) (c : CommandFrame) :
    s.admitCommand c = s.setLine { s.line with fifo := s.line.fifo ++ [c] } :=
  if_pos room

theorem State.admitCommand_of_full {s : State} (hfull : 4 ≤ s.line.fifo.length) (c : CommandFrame) :
    s.admitCommand c = s.linkError .overrun c.tag :=
  if_neg (Nat.not_lt.mpr hfull)

/-! ### Acknowledgements (R171) -/

theorem afterAcknowledged_of_unsent {a : Nat} {rs : List ReportEntry}
    (h : ∀ e ∈ rs, e.sequence = a → e.timesSent = 0) : afterAcknowledged a rs = none := by
  rw [Option.eq_none_iff_forall_not_mem]
  intro left hleft
  obtain ⟨ahead, e, rfl, -, hsequence, hsent⟩ := afterAcknowledged_eq_some hleft
  have hnever := h e (by simp) hsequence
  omega

theorem afterAcknowledged_append {a : Nat} {ahead behind : List ReportEntry} {e : ReportEntry}
    (hahead : ∀ x ∈ ahead, x.sequence ≠ a) (hsequence : e.sequence = a) (hsent : 1 ≤ e.timesSent) :
    afterAcknowledged a (ahead ++ e :: behind) = some behind := by
  induction ahead with
  | nil => simp [afterAcknowledged, hsequence, hsent]
  | cons x xs ih =>
    obtain ⟨hx, hxs⟩ := List.forall_mem_cons.mp hahead
    rw [List.cons_append, afterAcknowledged, if_neg hx, ih hxs]

theorem State.acknowledge_none {s : State} {tag : Byte} (h : afterAcknowledged tag.toNat s.line.reports = none) :
    s.acknowledge tag = s := by
  simp only [State.acknowledge, h]

theorem State.acknowledge_some {s : State} {tag : Byte} {left : List ReportEntry}
    (h : afterAcknowledged tag.toNat s.line.reports = some left) :
    s.acknowledge tag = (s.setLine (s.line.acknowledged left (s.timer s.params.ackTimeout))).entriesFreed := by
  simp only [State.acknowledge, h]

theorem HostLine.acknowledged_eq (l : HostLine) (left : List ReportEntry) (timer : Timer) :
    l.acknowledged left timer =
      { l with
        reports := left, rounds := 0
        ackTimer := if ∃ x ∈ left, x.sent = true then some timer else none } := by
  simp only [HostLine.acknowledged, List.any_eq_true]

theorem State.entriesFreed_of_none_lost {s : State} (h : s.line.lost = 0) : s.entriesFreed = s.retryProducers :=
  congrArg (fun l => (s.setLine l).retryProducers) (if_neg (by omega))

theorem State.entriesFreed_of_lost {s : State} (h : 0 < s.line.lost) :
    s.entriesFreed = (s.setLine { s.line.join (.reportsLost s.line.lost) with lost := 0 }).retryProducers :=
  congrArg (fun l => (s.setLine l).retryProducers) (if_pos h)

/-! ### The producers that wait (R170) -/

theorem State.retryRunEnd_of_undecided {s : State} {v : InputNo}
    (h : ∀ r, (s.input v).run = some r → r.endDecided = none) : s.retryRunEnd v = s := by
  cases hr : (s.input v).run with
  | none => simp only [State.retryRunEnd, hr]
  | some r => rw [State.retryRunEnd_rechecks hr (.inl (h r hr)), State.recheckRunEnd_of_undecided hr (h r hr)]

theorem State.retryProducers_of_nothingHeld {s : State} (h : s.nothingHeld) : s.retryProducers = s := by
  obtain ⟨hcaptures, hruns⟩ := h
  rw [State.retryProducers, State.dispatch_empty hcaptures, State.retryRunEnd_of_undecided (hruns 0),
    State.retryRunEnd_of_undecided (hruns 1)]

end Sys2Proof.Machine

open Sys2Proof Sys2Proof.Machine

/-- Settles O49, by the frame check's answer for a bad CRC and for each KIND. -/
theorem messageFramesChecked : Obligations.MessageFramesChecked := by
  refine ⟨fun s => ⟨State.retryProducers_of_nothingHeld, _, _, rfl, rfl, rfl⟩,
    fun s e tag => ⟨fun hfull => ?_, fun room => ?_⟩, ?_⟩
  · exact State.linkError_of_full hfull e tag
  · rw [State.linkError_of_room room]
    cases e <;> rfl
  · intro s u f unheld hunt hf hu hunheld
    obtain rfl : u = s.heard := hu
    obtain rfl : unheld = State.endHeld := hunheld.trans (funext fun w => w.endHeld_eq.symm)
    rw [exec_messageFrame hunt hf]
    obtain ⟨len, kind, tag, type, payload, crc⟩ := f
    refine ⟨fun hcrc => ?_, fun hcrc => ⟨?_, ?_, fun hcommand hack => ?_, ?_, ?_⟩⟩
    · rw [State.checkFrame_badCrc hcrc]
    · rintro rfl room w rfl
      have hfifo : s.heard.endHeld.line.fifo = s.line.fifo := s.heard.endHeld_fifo
      rw [State.checkFrame_command hcrc, State.admitCommand_of_room (by rwa [hfifo]), hfifo]
      rfl
    · rintro rfl hfull
      rw [State.checkFrame_command hcrc, State.admitCommand_of_full (by rwa [s.heard.endHeld_fifo])]
    · rw [State.checkFrame_badKind hcrc hcommand hack]
    · rintro rfl hunsent
      rw [State.checkFrame_ack hcrc, State.acknowledge_none (s := s.heard) (afterAcknowledged_of_unsent hunsent)]
    · rintro ahead e behind w rfl hreports hsequence hsent hahead hw
      have hleft : afterAcknowledged tag.toNat s.heard.line.reports = some behind :=
        (congrArg _ hreports).trans (afterAcknowledged_append hahead hsequence hsent)
      rw [State.checkFrame_ack hcrc, State.acknowledge_some hleft, HostLine.acknowledged_eq]
      obtain rfl := hw
      exact ⟨fun hlost => congrArg (fun w => Host.Outcome.next (State.endHeld w)) (State.entriesFreed_of_none_lost hlost),
        fun hlost => congrArg (fun w => Host.Outcome.next (State.endHeld w)) (State.entriesFreed_of_lost hlost)⟩

/-- Settles O50, by the framer's state and the gap before the byte. -/
theorem bytesFramed : Obligations.BytesFramed := by
  rintro s u b q rfl rfl
  rw [← byteTime_eq]
  refine ⟨rfl, fun hunt => ⟨exec_byteTimeout_of_not_quiet (State.quietFor_hunt hunt 0), fun hb => ?_, ?_⟩, ?_, ?_, ?_⟩
  · refine congrArg Host.Outcome.next ?_
    exact (State.receiveByte_of_no_gap (State.quietFor_hunt hunt _) b).trans (State.frameByte_noise (s := s.heard) hunt hb)
  · rintro rfl
    refine congrArg Host.Outcome.next ?_
    exact (State.receiveByte_of_no_gap (State.quietFor_hunt hunt _) _).trans (State.frameByte_sync (s := s.heard) hunt)
  · rintro hpartial w rfl
    refine ⟨fun hquiet => exec_byteTimeout_of_quiet (State.quietFor_iff.mpr ⟨hpartial, hquiet⟩), fun hgap => ?_⟩
    have hgap : s.gapPassed = true := State.quietFor_iff.mpr ⟨hpartial, hgap⟩
    refine ⟨?_, fun hb => ?_⟩
    · rintro rfl
      exact congrArg Host.Outcome.next
        ((State.receiveByte_of_gap hgap _).trans (State.frameByte_sync s.discardPartial_hunt))
    · exact congrArg Host.Outcome.next
        ((State.receiveByte_of_gap hgap b).trans (State.frameByte_noise s.discardPartial_hunt hb))
  · exact fun hearly => exec_byteTimeout_of_not_quiet (State.quietFor_early hearly)
  · intro hearly
    have hreceive : exec (.hrxByte b true) s = .next (s.heard.frameByte b) :=
      congrArg Host.Outcome.next (State.receiveByte_of_no_gap (State.quietFor_early hearly) b)
    rw [hreceive]
    refine ⟨fun h hlow hhigh => ?_, fun h hb => ?_, fun len got h => ?_, fun len got h => ?_, fun f hi hf hcrc h => ?_⟩
    · rw [State.frameByte_length (s := s.heard) h ⟨hlow, hhigh⟩]
      rfl
    · rw [State.frameByte_badLength (s := s.heard) h hb]
      rfl
    · rw [State.frameByte_body (s := s.heard) h]
      rfl
    · rw [State.frameByte_firstCrc (s := s.heard) h]
      rfl
    · rw [State.frameByte_secondCrc (s := s.heard) h, exec_messageFrame rfl hf, hcrc]
      rfl

end

section
/-! PROOFS. The start of a job and the run of the start arbiter (R67, R69 to R71, R75), and the statement about both. -/

namespace Sys2Proof.Machine

/-! ### Zones written one after another -/

/-- The zones of a list, each changed by one function that changes nothing twice. -/
theorem State.zone_foldl_setZone {f : Zone → Zone} (hf : ∀ x, f (f x) = f x) (l : List ZoneNo) (s : State) (w : ZoneNo) :
    (l.foldl (fun s z => s.setZone z (f (s.zone z))) s).zone w = if w ∈ l then f (s.zone w) else s.zone w := by
  induction l generalizing s with
  | nil => rfl
  | cons z l ih =>
    rw [List.foldl_cons, ih, State.zone_setZone]
    by_cases hz : w = z
    · subst hz
      simp [hf]
    · simp [hz]

/-- The zones of a job that has started are ACTIVE with it as owner (R71, step 1). -/
theorem State.ownZones_zone (s : State) (id : Nat) (zs : ZoneSet) (z : ZoneNo) :
    (s.ownZones id zs).zone z = if ZoneSet.has zs z = true then { s.zone z with state := .active id } else s.zone z := by
  have h := State.zone_foldl_setZone (f := fun x => { x with state := .active id }) (fun _ => rfl) (zonesOf zs) s z
  simp only [mem_zonesOf] at h
  exact h

/-! ### The carrier that a code obtains (R67) -/

section Carriers

variable {s : State} {h : Header}

theorem find?_allGenerators_eq_some {p : Fin 4 → Bool} {g : Fin 4} (hg : p g = true) (hfirst : ∀ g' < g, p g' = false) :
    allGenerators.find? p = some g :=
  find?_allGroups_eq_some hg hfirst

theorem mem_allGenerators (g : Fin 4) : g ∈ allGenerators := by
  revert g
  decide

theorem find?_allGenerators_eq_none {p : Fin 4 → Bool} : allGenerators.find? p = none ↔ ∀ g, p g = false := by
  rw [List.find?_eq_none]
  exact ⟨fun h g => by simpa using h g (mem_allGenerators g), fun h g _ => by simp [h g]⟩

/-- Whether a generator carries a header's carrier (R67, rule 2). -/
def Carrier.carries (c : Carrier) (h : Header) : Prop :=
  c.frequency = h.frequency ∧ c.duty = h.duty

theorem State.matchingGenerator_eq_some {g : Fin 4} {c : Carrier} (hg : s.generators[g] = some c) (hc : c.carries h)
    (hfirst : ∀ (g' : Fin 4) c', g' < g → s.generators[g'] = some c' → ¬c'.carries h) : s.matchingGenerator h = some g := by
  obtain ⟨hfrequency, hduty⟩ := hc
  refine find?_allGenerators_eq_some (by simp [hg, hfrequency, hduty]) fun g' hlt => ?_
  cases hg' : s.generators[g'] with
  | none => rfl
  | some c' => simpa [Carrier.carries] using hfirst g' c' hlt hg'

theorem State.matchingGenerator_eq_none (hnone : ∀ (g : Fin 4) c, s.generators[g] = some c → ¬c.carries h) :
    s.matchingGenerator h = none :=
  find?_allGenerators_eq_none.mpr fun g => by
    cases hg : s.generators[g] with
    | none => rfl
    | some c => simpa [Carrier.carries] using hnone g c hg

theorem State.freeGenerator_eq_some {g : Fin 4} (hg : s.generators[g] = none)
    (hfirst : ∀ g' : Fin 4, g' < g → s.generators[g'] ≠ none) : s.freeGenerator = some g :=
  find?_allGenerators_eq_some (by simp [hg]) fun g' hlt => by
    simpa using Option.ne_none_iff_isSome.mp (hfirst g' hlt)

theorem State.freeGenerator_eq_none : s.freeGenerator = none ↔ ∀ g : Fin 4, s.generators[g] ≠ none :=
  find?_allGenerators_eq_none.trans (forall_congr' fun _ => by simp [← Option.ne_none_iff_isSome])

theorem State.obtainCarrier_of_unmodulated (hf : h.frequency = 0) : s.obtainCarrier h = some none := by
  simp [State.obtainCarrier, hf]

theorem State.obtainCarrier_of_matching (hf : h.frequency ≠ 0) {g : Fin 4} (hg : s.matchingGenerator h = some g) :
    s.obtainCarrier h = some (some g) := by
  simp [State.obtainCarrier, hf, hg]

theorem State.obtainCarrier_of_no_match (hf : h.frequency ≠ 0) (hg : s.matchingGenerator h = none) :
    s.obtainCarrier h = s.freeGenerator.map some := by
  simp [State.obtainCarrier, hf, hg]

/-- No carrier is obtained when every generator is IN_USE with another carrier (R67). -/
theorem State.obtainCarrier_eq_none_iff :
    s.obtainCarrier h = none ↔ h.frequency ≠ 0 ∧ ∀ g : Fin 4, ∃ c, s.generators[g] = some c ∧ ¬c.carries h := by
  constructor
  · intro hnone
    have hf : h.frequency ≠ 0 := fun hf => nomatch (State.obtainCarrier_of_unmodulated hf).symm.trans hnone
    have hm : s.matchingGenerator h = none := Option.eq_none_iff_forall_ne_some.mpr fun g hg =>
      nomatch (State.obtainCarrier_of_matching hf hg).symm.trans hnone
    have hfree := (State.obtainCarrier_of_no_match hf hm).symm.trans hnone
    refine ⟨hf, fun g => ?_⟩
    obtain ⟨c, hc⟩ := Option.ne_none_iff_exists'.mp (State.freeGenerator_eq_none.mp (Option.map_eq_none_iff.mp hfree) g)
    refine ⟨c, hc, fun hcarries => ?_⟩
    have hg := find?_allGenerators_eq_none.mp hm g
    obtain ⟨hfrequency, hduty⟩ := hcarries
    simp [hc, hfrequency, hduty] at hg
  · rintro ⟨hf, hall⟩
    have hm : s.matchingGenerator h = none := State.matchingGenerator_eq_none fun g c hc => by
      obtain ⟨c', hc', hnot⟩ := hall g
      exact Option.some_injective _ (hc'.symm.trans hc) ▸ hnot
    have hfree : s.freeGenerator = none := State.freeGenerator_eq_none.mpr fun g hg => by
      obtain ⟨c, hc, -⟩ := hall g
      exact nomatch hc.symm.trans hg
    rw [State.obtainCarrier_of_no_match hf hm, hfree]
    rfl

/-- A generator taken leaves no carrier to a code that obtained none before (R67). -/
theorem State.takeGenerator_obtainCarrier_eq_none (hnone : s.obtainCarrier h = none) (k : Header) (g : Option (Fin 4)) :
    (s.takeGenerator k g).obtainCarrier h = none := by
  obtain ⟨hf, hall⟩ := State.obtainCarrier_eq_none_iff.mp hnone
  refine State.obtainCarrier_eq_none_iff.mpr ⟨hf, fun n => ?_⟩
  cases g with
  | none => exact hall n
  | some g =>
    obtain ⟨c, hc, hnot⟩ := hall n
    have hset : (s.takeGenerator k (some g)).generators[n] =
        if g = n then addUser k s.generators[g] else s.generators[n] := by
      simp only [State.takeGenerator, State.setGenerators_generators, Fin.getElem_fin, Vector.getElem_set, Fin.ext_iff]
    rw [hset]
    split
    · rw [‹g = n›, hc]
      exact ⟨_, rfl, hnot⟩
    · exact ⟨c, hc, hnot⟩

end Carriers

/-! ### The start of a job (R71) -/

section Start

variable (s : State) (j : Job) (h : Header) (g : Option (Fin 4))

theorem State.startJob_zone (z : ZoneNo) :
    (s.startJob j h g).zone z =
      if ZoneSet.has j.zones z = true then { s.zone z with state := .active j.id } else s.zone z := by
  have hzones : (s.startJob j h g).zones = (s.ownZones j.id j.zones).zones := by simp [State.startJob]
  rw [← s.ownZones_zone j.id j.zones z, State.zone, State.zone, hzones]

theorem State.startJob_generators :
    (s.startJob j h g).generators =
      match g with
      | none => s.generators
      | some n =>
        s.generators.set n.val
          (some
            (match s.generators[n] with
              | none => { frequency := h.frequency, duty := h.duty, users := 1 }
              | some k => { k with users := k.users + 1 })) n.isLt := by
  cases g with
  | none => simp [State.startJob, State.takeGenerator]
  | some n =>
    simp only [State.startJob, State.takeGenerator, State.beginFrame_keeps, State.produce_keeps, State.bindVerify_keeps,
      State.updateJob_keeps, State.setGenerators_generators, State.ownZones_keeps]
    cases s.generators[n] <;> rfl

theorem State.startJob_obtainCarrier {x : Header} (hnone : s.obtainCarrier x = none) :
    (s.startJob j h g).obtainCarrier x = none := by
  have hgenerators : (s.startJob j h g).generators = (s.takeGenerator h g).generators := by
    simp only [State.startJob, State.takeGenerator]
    cases g <;> simp
  have htaken := State.takeGenerator_obtainCarrier_eq_none hnone h g
  rw [State.obtainCarrier_eq_none_iff] at htaken ⊢
  rwa [hgenerators]

theorem State.startJob_line : (s.startJob j h g).line = s.line.produce (.jobStart j.id j.slot j.zones s.now) := by
  simp [State.startJob, State.produce]

theorem State.startJob_code? (i : SlotNo) : (s.startJob j h g).code? i = s.code? i := by
  simp [State.code?, State.slot]

/-- The record of a job that has started (R71, steps 2 to 5; R75). -/
def Job.begun (j : Job) (s : State) (h : Header) (g : Option (Fin 4)) : Job :=
  { j with
    generator := g
    state := if j.released then .draining else .running
    endReason := if j.released then some .released else j.endReason
    startTime := some s.now
    holdTimer :=
      if j.released then j.holdTimer
      else if j.hold then some { start := s.now, length := s.params.holdLimit * 1000 } else none
    play :=
      some
        { kind := if h.leadCells = 0 then .rep else .lead, phase := .inSection 0, since := s.clock
          sampled := (zonesOf j.zones).map fun z => (z, (s.zone z).drive) } }

/-- The drives sampled at a job's start are those its zones had before it (R79). -/
theorem State.ownZones_drive (id : Nat) (zs : ZoneSet) (z : ZoneNo) :
    ((s.ownZones id zs).zone z).drive = (s.zone z).drive := by
  rw [State.ownZones_zone]
  split <;> rfl

theorem Job.started_eq (now : Word32) (limit : Nat) :
    j.started g now limit =
      { j with
        generator := g
        state := if j.released then .draining else .running
        endReason := if j.released then some .released else j.endReason
        startTime := some now
        holdTimer := if j.released then j.holdTimer else if j.hold then some { start := now, length := limit } else none } := by
  unfold Job.started
  split <;> rfl

variable {s j}

theorem State.startJob_jobs (hids : (s.jobs.map Job.id).Nodup) (hj : j ∈ s.jobs) :
    (s.startJob j h g).jobs = s.jobs.map fun m => if m.id = j.id then j.begun s h g else m := by
  generalize hu : ((((s.ownZones j.id j.zones).takeGenerator h g).updateJob j.id fun k =>
      k.started g s.now (s.params.holdLimit * 1000)).bindVerify j).produce (.jobStart j.id j.slot j.zones s.now) = u
  have hclock : u.clock = s.clock := by simp [← hu]
  have hjobs : u.jobs = s.jobs.map fun m => if m.id = j.id then m.started g s.now (s.params.holdLimit * 1000) else m := by
    simp [← hu, State.updateJob]
  have hzones : u.zones = (s.ownZones j.id j.zones).zones := by simp [← hu]
  have hsampled : u.sampleDrives j.zones = (zonesOf j.zones).map fun z => (z, (s.zone z).drive) := by
    refine List.map_congr_left fun z _ => ?_
    rw [State.zone, hzones]
    exact congrArg (Prod.mk z) (s.ownZones_drive j.id j.zones z)
  have hstart : s.startJob j h g = u.beginFrame j h.firstKind := by
    rw [← hu]
    rfl
  rw [hstart, State.beginFrame, State.updateJob, State.setJobs_jobs, hjobs, hclock, hsampled,
    map_ite_id_map_ite_id (fun k => by rw [Job.started_eq])]
  refine List.map_congr_left fun m hm => ?_
  split
  · obtain rfl := List.inj_on_of_nodup_map hids hm hj ‹_›
    rw [Job.started_eq]
    rfl
  · rfl

theorem State.startJob_inputs : (s.startJob j h g).inputs = (s.bindVerify j).inputs := by
  simp only [State.startJob, State.bindVerify]
  cases j.verifyInput with
  | none => simp
  | some v => simp [State.takeInput, State.setInput, State.input]

/-- The verify input of a job that has started is bound to it in VERIFY (R71, step 6; R125, R156). -/
theorem State.startJob_input_bound {v : InputNo} (hv : j.verifyInput = some v) :
    (s.startJob j h g).input v =
      { s.input v with
        mode := .verify, savedMode := some (s.input v).mode
        verify :=
          some { job := j.id, firstFrame := (s.input v).frameNext, emitted := 0, seen := 0, matched := 0, mismatch := none } } := by
  rw [State.input, State.startJob_inputs, State.bindVerify, hv]
  change State.input _ v = _
  simp [State.takeInput]

theorem State.startJob_input_of_ne {v : InputNo} (hv : j.verifyInput ≠ some v) : (s.startJob j h g).input v = s.input v := by
  rw [State.input, State.startJob_inputs, State.bindVerify]
  cases hj : j.verifyInput with
  | none => rfl
  | some w =>
    have hne : v ≠ w := fun he => hv (he ▸ hj)
    change State.input _ v = _
    simp [State.takeInput, State.input_setInput, hne]

end Start

/-! ### The scan of the queue (R70) -/

/-- The zones that the WAITING jobs of a list name. -/
def wantedZones (js : List Job) : ZoneSet :=
  js.foldl (fun zs j => if j.state = .waiting then zs ||| j.zones else zs) 0#8

theorem wantedZones_append (js : List Job) (k : Job) :
    wantedZones (js ++ [k]) = if k.state = .waiting then wantedZones js ||| k.zones else wantedZones js := by
  simp [wantedZones]

theorem and_or_eq_zero_iff {n : Nat} (a b c : BitVec n) : a &&& (b ||| c) = 0#n ↔ a &&& b = 0#n ∧ a &&& c = 0#n := by
  rw [BitVec.and_or_distrib_left, BitVec.or_eq_zero_iff]

/-- A set that meets no zone wanted by a list meets no zone that a WAITING job of it names. -/
theorem and_wantedZones_eq_zero (zs : ZoneSet) (js : List Job) :
    zs &&& wantedZones js = 0#8 ↔ ∀ m ∈ js, m.state = .waiting → zs &&& m.zones = 0#8 := by
  induction js using List.reverseRecOn with
  | nil => simp [wantedZones]
  | append_singleton js k ih =>
    rw [wantedZones_append]
    split
    · simp [and_or_eq_zero_iff, ih, or_imp, forall_and, ‹k.state = .waiting›]
    · simp [ih, or_imp, forall_and, ‹¬k.state = .waiting›]

theorem State.zonesIdle_iff (s : State) (zs : ZoneSet) :
    s.zonesIdle zs = true ↔ ∀ z, ZoneSet.has zs z = true → (s.zone z).state = .idle := by
  simp [State.zonesIdle, mem_zonesOf, Zone.isIdle]

section Scan

variable {s : State} {j : Job} {h : Header} {g : Option (Fin 4)}

theorem State.startable_eq_some {blocked : ZoneSet} :
    s.startable blocked j = some (h, g) ↔
      (∀ z, ZoneSet.has j.zones z = true → (s.zone z).state = .idle) ∧ j.zones &&& blocked = 0#8 ∧
        (∃ k, s.code? j.slot = some k ∧ k.header = h) ∧ s.obtainCarrier h = some g := by
  unfold State.startable
  split
  case isTrue hfree =>
    rw [Bool.and_eq_true, State.zonesIdle_iff] at hfree
    obtain ⟨hidle, hmeets⟩ := hfree
    have hblocked : j.zones &&& blocked = 0#8 := by simpa [meets] using hmeets
    cases s.code? j.slot with
    | none => exact iff_of_false nofun fun ⟨_, _, ⟨_, hk, _⟩, _⟩ => nomatch hk
    | some k =>
      simp only [Option.map_eq_some_iff, Prod.mk.injEq, Option.some.injEq]
      constructor
      · rintro ⟨_, hg, rfl, rfl⟩
        exact ⟨hidle, hblocked, ⟨k, rfl, rfl⟩, hg⟩
      · rintro ⟨-, -, ⟨_, rfl, rfl⟩, hg⟩
        exact ⟨g, hg, rfl, rfl⟩
  case isFalse hheld =>
    refine iff_of_false nofun fun ⟨hidle, hblocked, _⟩ => hheld ?_
    simp [(s.zonesIdle_iff _).mpr hidle, meets, hblocked]

/-- A job may start when it is WAITING and the arbiter finds it startable behind the jobs before it (R70). -/
theorem State.mayStart_iff {before : List Job} :
    s.mayStart before j h g ↔ j.state = .waiting ∧ s.startable (wantedZones before) j = some (h, g) := by
  rw [State.startable_eq_some, and_wantedZones_eq_zero]
  rfl

theorem State.noneStarts_append {front : List Job} (hnone : s.noneStarts (front ++ [j])) :
    s.noneStarts front ∧ (j.state = .waiting → s.startable (wantedZones front) j = none) := by
  refine ⟨fun before m behind h g he => hnone before m (behind ++ [j]) h g (by simp [he]), fun hw => ?_⟩
  refine Option.eq_none_iff_forall_ne_some.mpr fun ⟨h, g⟩ hs => ?_
  exact hnone front j [] h g rfl (State.mayStart_iff.mpr ⟨hw, hs⟩)

/-- Jobs none of which may start are passed over, and what they want stays blocked (R70). -/
theorem arbiterScan_of_noneStarts {front : List Job} (hnone : s.noneStarts front) (rest : List Job) :
    arbiterScan (front ++ rest) 0#8 s = arbiterScan rest (wantedZones front) s := by
  induction front using List.reverseRecOn generalizing rest with
  | nil => rfl
  | append_singleton front k ih =>
    obtain ⟨hfront, hk⟩ := State.noneStarts_append hnone
    rw [List.append_assoc, ih hfront, List.singleton_append, arbiterScan, wantedZones_append]
    split
    · rw [hk ‹_›]
    · rfl

theorem State.firstStart_of_noneStarts {front : List Job} (hnone : s.noneStarts front) (rest : List Job) :
    s.firstStart (front ++ rest) 0#8 = s.firstStart rest (wantedZones front) := by
  induction front using List.reverseRecOn generalizing rest with
  | nil => rfl
  | append_singleton front k ih =>
    obtain ⟨hfront, hk⟩ := State.noneStarts_append hnone
    rw [List.append_assoc, ih hfront, List.singleton_append, State.firstStart, wantedZones_append]
    split
    · rw [hk ‹_›]
    · rfl

theorem State.runArbiter_of_noneStarts (hnone : s.noneStarts s.jobs) : s.runArbiter = s := by
  have hscan := arbiterScan_of_noneStarts hnone []
  rw [List.append_nil] at hscan
  exact hscan

theorem State.firstStart_eq_none (hnone : s.noneStarts s.jobs) : s.firstStart s.jobs 0#8 = none := by
  have hscan := State.firstStart_of_noneStarts hnone []
  rw [List.append_nil] at hscan
  exact hscan

theorem State.firstStart_eq_some {before behind : List Job} (hjobs : s.jobs = before ++ j :: behind)
    (hnone : s.noneStarts before) (hmay : s.mayStart before j h g) : s.firstStart s.jobs 0#8 = some (j, h, g) := by
  obtain ⟨hwaits, hstart⟩ := State.mayStart_iff.mp hmay
  rw [hjobs, State.firstStart_of_noneStarts hnone, State.firstStart, if_pos hwaits, hstart]

/-- A start lets no job start that could not before: zones and generators are only taken (R70). -/
theorem State.noneStarts_startJob {front : List Job} (hnone : s.noneStarts front) (j : Job) (h : Header) (g : Option (Fin 4)) :
    (s.startJob j h g).noneStarts front := by
  rintro before k behind x o hfront ⟨hwaits, hidle, hfree, hcode, hcarrier⟩
  have hobtains : s.obtainCarrier x ≠ none := fun hn =>
    nomatch (s.startJob_obtainCarrier j h g hn).symm.trans hcarrier
  obtain ⟨o', ho'⟩ := Option.ne_none_iff_exists'.mp hobtains
  refine hnone before k behind x o' hfront ⟨hwaits, fun z hz => ?_, hfree, s.startJob_code? j h g _ ▸ hcode, ho'⟩
  have hzone := hidle z hz
  rw [State.startJob_zone] at hzone
  split at hzone
  · exact nomatch hzone
  · exact hzone

/-- A run of the arbiter is the start of the first job that may start, followed by a run (R70). -/
theorem State.runArbiter_eq_startJob {before behind : List Job} (hids : (s.jobs.map Job.id).Nodup)
    (hjobs : s.jobs = before ++ j :: behind) (hnone : s.noneStarts before) (hmay : s.mayStart before j h g) :
    s.runArbiter = (s.startJob j h g).runArbiter := by
  obtain ⟨hwaits, hstart⟩ := State.mayStart_iff.mp hmay
  have hrun : s.runArbiter = arbiterScan behind (wantedZones before) (s.startJob j h g) := by
    rw [State.runArbiter, hjobs, arbiterScan_of_noneStarts hnone, arbiterScan, if_pos hwaits, hstart]
  have hother : ∀ m ∈ before ++ behind, m.id ≠ j.id := by
    rw [hjobs] at hids
    have hperm : (before ++ j :: behind).Perm (j :: (before ++ behind)) := List.perm_middle
    have hids' := (hperm.map Job.id).nodup_iff.mp hids
    rw [List.map_cons, List.nodup_cons] at hids'
    exact fun m hm he => hids'.1 (List.mem_map.mpr ⟨m, hm, he⟩)
  have hkept : ∀ l : List Job, (∀ m ∈ l, m ∈ before ++ behind) → (l.map fun m => if m.id = j.id then j.begun s h g else m) = l :=
    fun l hl => (List.map_congr_left fun m hm => if_neg (hother m (hl m hm))).trans (List.map_id l)
  have hqueue : (s.startJob j h g).jobs = before ++ j.begun s h g :: behind := by
    rw [State.startJob_jobs h g hids (by simp [hjobs]), hjobs, List.map_append, List.map_cons, if_pos rfl,
      hkept before fun m hm => List.mem_append_left _ hm, hkept behind fun m hm => List.mem_append_right _ hm]
  have hplays : (j.begun s h g).state ≠ .waiting := by
    simp only [Job.begun]
    split <;> nofun
  rw [hrun, State.runArbiter, hqueue, arbiterScan_of_noneStarts (State.noneStarts_startJob hnone j h g), arbiterScan,
    if_neg hplays]

/-! ### JOB_START (log entry 11) -/

theorem exec_jobStart_of_noneStarts (hnone : s.noneStarts s.jobs) (id : Nat) : exec (.jobStart id) s = .next s := by
  refine congrArg Host.Outcome.next ?_
  rw [State.firstStart_eq_none hnone]

theorem exec_jobStart_of_firstStart (hfirst : s.firstStart s.jobs 0#8 = some (j, h, g)) (id : Nat) :
    exec (.jobStart id) s = .next (if j.id = id then s.startJob j h g else s) := by
  refine congrArg Host.Outcome.next ?_
  rw [hfirst]

end Scan

end Sys2Proof.Machine

/-! ### The statement about starts -/

section

open Sys2Proof Sys2Proof.Machine

/-- Settles O32: the carrier by rule, and the scan of the arbiter split at the first job that may start. -/
theorem jobStarts : Obligations.JobStarts := by
  refine ⟨fun s h same hsame => ⟨State.obtainCarrier_of_unmodulated, fun hf => ⟨fun g c hg hc hfirst => ?_, fun hnone => ?_⟩⟩,
    fun s hids => ⟨fun hnone => ⟨State.runArbiter_of_noneStarts hnone, exec_jobStart_of_noneStarts hnone⟩,
      fun before j behind h g hjobs hnone hmay => ?_⟩⟩
  · subst hsame
    exact State.obtainCarrier_of_matching hf (State.matchingGenerator_eq_some hg hc hfirst)
  · subst hsame
    have hfree := State.obtainCarrier_of_no_match hf (State.matchingGenerator_eq_none hnone)
    refine ⟨fun g hg hfirst => ?_, fun hall => ?_⟩
    · rw [hfree, State.freeGenerator_eq_some hg hfirst]
      rfl
    · rw [hfree, State.freeGenerator_eq_none.mpr hall]
      rfl
  · have hexec := exec_jobStart_of_firstStart (State.firstStart_eq_some hjobs hnone hmay)
    refine ⟨fun id hid => (hexec id).trans (by rw [if_neg hid.symm]), s.startJob j h g,
      (hexec j.id).trans (by rw [if_pos rfl]), State.runArbiter_eq_startJob hids hjobs hnone hmay, s.startJob_zone j h g,
      State.startJob_jobs h g hids (by simp [hjobs]), s.startJob_generators j h g, s.startJob_line j h g, by simp, by simp,
      fun v hv => ?_, fun v hv => State.startJob_input_of_ne h g hv⟩
    rw [State.startJob_input_bound h g hv]
    exact ⟨rfl, rfl, rfl⟩

end
end

section
/-! PROOFS. ZONE_ENABLE and ZONE_DISABLE: the zones of a set written, the jobs that a disable ends one behind another (R60 to
R62), and the statement about both. -/

namespace Sys2Proof.Machine

/-! ### Zones enabled and turned off (R60, R61) -/

@[simp] theorem State.setZone_self (s : State) (z : ZoneNo) : s.setZone z (s.zone z) = s := by
  simp [State.setZone, State.setZones, State.zone]

/-- Zones written one after another change nothing but the zones. -/
theorem State.foldl_setZone_rest (f : Zone → Zone) (l : List ZoneNo) (s : State) :
    { l.foldl (fun s z => s.setZone z (f (s.zone z))) s with zones := s.zones } = s := by
  induction l generalizing s with
  | nil => rfl
  | cons z l ih => exact congrArg (fun u : State => { u with zones := s.zones }) (ih (s.setZone z (f (s.zone z))))

/-- A zone enabled: IDLE when it was OFF (R60). -/
def Zone.enabled (x : Zone) : Zone :=
  if x.state = .off then { x with state := .idle } else x

theorem Zone.enabled_enabled (x : Zone) : x.enabled.enabled = x.enabled := by
  unfold Zone.enabled
  split <;> simp_all

theorem State.enableZones_eq (s : State) (zs : ZoneSet) :
    s.enableZones zs = (zonesOf zs).foldl (fun s z => s.setZone z (s.zone z).enabled) s := by
  have hstep : (fun (s : State) z => if (s.zone z).isOff then s.setZone z { s.zone z with state := .idle } else s) =
      fun s z => s.setZone z (s.zone z).enabled := by
    funext s z
    by_cases hoff : (s.zone z).state = .off <;> simp [Zone.isOff, Zone.enabled, hoff]
  exact congrArg (fun f => (zonesOf zs).foldl f s) hstep

theorem State.enableZones_zone (s : State) (zs : ZoneSet) (z : ZoneNo) :
    (s.enableZones zs).zone z =
      if ZoneSet.has zs z = true ∧ (s.zone z).state = .off then { s.zone z with state := .idle } else s.zone z := by
  have h := State.zone_foldl_setZone Zone.enabled_enabled (zonesOf zs) s z
  rw [State.enableZones_eq, h]
  simp only [mem_zonesOf, Zone.enabled, ite_and]

theorem State.enableZones_rest (s : State) (zs : ZoneSet) : { s.enableZones zs with zones := s.zones } = s := by
  rw [State.enableZones_eq]
  exact State.foldl_setZone_rest Zone.enabled (zonesOf zs) s

theorem State.turnOff_zone (s : State) (zs : ZoneSet) (z : ZoneNo) :
    (s.turnOff zs).zone z = if ZoneSet.has zs z = true then { s.zone z with state := .off } else s.zone z := by
  have h := State.zone_foldl_setZone (f := fun x => { x with state := .off }) (fun _ => rfl) (zonesOf zs) s z
  simp only [mem_zonesOf] at h
  exact h

theorem State.turnOff_rest (s : State) (zs : ZoneSet) : { s.turnOff zs with zones := s.zones } = s :=
  State.foldl_setZone_rest (fun x => { x with state := .off }) (zonesOf zs) s

/-! ### The jobs that a disable ends (R61, R62) -/

/-- A job ended with a reason that allows no verdict has gone, bound or not (R104 to R106, R160). -/
theorem State.endJob_jobGone {s : State} {j : Job} {reason : EndReason} (hj : s.job? j.id = some j)
    (hreason : reason.allowsVerdict = false) : s.jobGone j (s.endJob j.id reason) := by
  obtain hb | ⟨v, r, hv, hr, hid⟩ := s.notBound_or_bound j
  · exact (State.endJob_of_notBound hj hb).1
  · exact (State.endJob_of_abandoned hj hv hr hid hreason).1

theorem State.disableJob_jobGone {s : State} {j : Job} (hj : s.job? j.id = some j) : s.jobGone j (s.disableJob j) :=
  State.jobGone_of_cut (State.endJob_jobGone ((s.cutFrame_job? j j.id).trans hj) rfl)

/-- A zone state left by the jobs of a list (R58, R104). -/
def State.leftBy (s : State) (js : List Job) (x : ZoneState) : ZoneState :=
  if ∃ j ∈ js, x = .active j.id then s.guardState else x

/-- The jobs of a list have ended and left the queue; what else of a state each of them may have changed is not spoken of
(R61, R62). -/
structure State.AllGone (s : State) (js : List Job) (u : State) : Prop where
  jobs : u.jobs = s.jobs.filter fun m => decide (m.id ∉ js.map Job.id)
  zoneState : ∀ z, (u.zone z).state = s.leftBy js (s.zone z).state
  slot : ∀ i, (∀ j ∈ js, j.slot ≠ i) → u.slot i = s.slot i
  captures : u.captures = s.captures
  load : u.table.load = s.table.load
  learn : u.table.learn = s.table.learn
  params : u.params = s.params
  clock : u.clock = s.clock

theorem State.guardState_congr {s u : State} (hparams : u.params = s.params) (hclock : u.clock = s.clock) :
    u.guardState = s.guardState := by
  simp [State.guardState, State.timer, State.now, hparams, hclock]

theorem State.guardState_unowned (s : State) (o : Nat) : s.guardState ≠ .active o := by
  unfold State.guardState
  split <;> nofun

theorem State.AllGone.nil (s : State) : s.AllGone [] s := by
  refine ⟨by simp, fun z => ?_, fun _ _ => rfl, rfl, rfl, rfl, rfl, rfl⟩
  simp [State.leftBy]

/-- A job that has gone, and then the jobs of a list. -/
theorem State.AllGone.cons {s t u : State} {j : Job} {js : List Job} (hgone : s.jobGone j t) (hall : t.AllGone js u) :
    s.AllGone (j :: js) u := by
  obtain ⟨gjobs, -, gstate, -, gslot, -, gload, glearn, gcaptures, -, gparams, -, -, gclock, -, -⟩ := hgone
  refine ⟨?_, fun z => ?_, fun i hi => ?_, hall.captures.trans gcaptures, hall.load.trans gload,
    hall.learn.trans glearn, hall.params.trans gparams, hall.clock.trans gclock⟩
  · rw [hall.jobs, gjobs, List.filter_filter]
    refine List.filter_congr fun m _ => ?_
    rw [List.map_cons]
    simp [Bool.and_comm]
  · have hguard : t.guardState = s.guardState := State.guardState_congr gparams gclock
    have hstep : s.stateWithout j z = if (s.zone z).state = .active j.id then s.guardState else (s.zone z).state := rfl
    rw [hall.zoneState, gstate, hstep, State.leftBy, State.leftBy, hguard]
    by_cases hown : (s.zone z).state = .active j.id
    · have hnone : ¬∃ k ∈ js, s.guardState = .active k.id := fun ⟨k, _, hk⟩ => s.guardState_unowned k.id hk
      simp [hown, hnone]
    · simp [hown]
  · obtain ⟨hj, hjs⟩ := List.forall_mem_cons.mp hi
    rw [hall.slot i hjs, gslot, if_neg hj.symm]

/-- Live jobs disabled one behind another have all gone (R62). -/
theorem State.disableJobs_allGone {js : List Job} (hnodup : (js.map Job.id).Nodup) {s : State}
    (hids : (s.jobs.map Job.id).Nodup) (hlive : ∀ j ∈ js, j ∈ s.jobs) : s.AllGone js (js.foldl State.disableJob s) := by
  induction js generalizing s with
  | nil => exact .nil s
  | cons j js ih =>
    rw [List.map_cons, List.nodup_cons] at hnodup
    obtain ⟨hj, hjs⟩ := List.forall_mem_cons.mp hlive
    have hgone : s.jobGone j (s.disableJob j) := State.disableJob_jobGone (State.job?_of_mem hids hj)
    obtain ⟨gjobs, -⟩ := id hgone
    refine .cons hgone (ih hnodup.2 ?_ fun k hk => ?_)
    · rw [gjobs]
      exact hids.sublist (List.filter_sublist.map _)
    · rw [gjobs, List.mem_filter]
      exact ⟨hjs k hk, decide_eq_true fun he => hnodup.1 (List.mem_map.mpr ⟨k, hk, he⟩)⟩

theorem State.disableJobs_clock (js : List Job) (s : State) : (js.foldl State.disableJob s).clock = s.clock := by
  induction js generalizing s with
  | nil => rfl
  | cons j js ih =>
    rw [List.foldl_cons, ih]
    simp [State.disableJob]

/-- The jobs ended one behind another, each cut at the one instant of the disable (R62, R87). -/
theorem State.disableJobs_eq (js : List Job) (s : State) :
    js.foldl State.disableJob s =
      js.foldl (fun w j =>
        State.endJob
          (match j.play with
            | none => w
            | some p => w.markEnds (s.clock - p.since) p.sampled) j.id .zoneDisabled) s := by
  induction js using List.reverseRecOn with
  | nil => rfl
  | append_singleton js j ih =>
    rw [List.foldl_append, List.foldl_append, ← ih]
    simp only [List.foldl_cons, List.foldl_nil, State.disableJob, State.cutFrame, State.disableJobs_clock]
    cases j.play <;> rfl

theorem Job.isEndedByDisable_eq (j : Job) (zs : ZoneSet) :
    j.isEndedByDisable zs = decide (j.state ≠ .settling ∧ j.zones &&& zs ≠ 0#8) := by
  simp [Job.isEndedByDisable, meets]

section Disable

variable {s : State} (hids : (s.jobs.map Job.id).Nodup) (zs : ZoneSet)

include hids

/-- The jobs that a disable ends have all gone before its zones become OFF (R61, R62). -/
theorem State.jobsEnded_allGone : s.AllGone (s.jobsEnded zs) ((s.jobsEnded zs).foldl State.disableJob s) :=
  State.disableJobs_allGone (hids.sublist (List.filter_sublist.map _)) hids fun _ hj => (List.mem_filter.mp hj).1

/-- After a disable the queue holds the jobs that it does not end (R61). -/
theorem State.jobsEnded_jobs :
    ((s.jobsEnded zs).foldl State.disableJob s).jobs = s.jobs.filter fun j => !j.isEndedByDisable zs := by
  rw [(State.jobsEnded_allGone hids zs).jobs]
  refine List.filter_congr fun m hm => ?_
  have hmem : m.id ∈ (s.jobsEnded zs).map Job.id ↔ m.isEndedByDisable zs = true := Job.id_mem_map_filter hids hm
  simp [hmem]

end Disable

/-! ### The commands -/

section Command

variable {s : State} {c : CommandFrame} {zs : Byte}

theorem exec_zoneEnable_range (h : s.takes c .zoneEnable) (hp : c.payload = [zs]) (hzs : zs = 0#8) :
    exec .zoneEnable s = .next (s.answered c [0x02#8]) := by
  subst hzs
  exact congrArg Host.Outcome.next (State.takeCommand_answers h hp rfl rfl)

theorem exec_zoneEnable (h : s.takes c .zoneEnable) (hp : c.payload = [zs]) (hzs : zs ≠ 0#8) {u : State}
    (hu : u = s.popCommand.enableZones zs) :
    exec .zoneEnable s =
      .next
        (if zs &&& s.offZones = 0#8 then u.replied c [0x00#8, zs &&& s.offZones, u.offZones]
        else (u.replied c [0x00#8, zs &&& s.offZones, u.offZones]).runArbiter) := by
  subst hu
  refine congrArg Host.Outcome.next ((State.takeCommand_executes h hp rfl).trans ?_)
  have hbyte : [zs].getD 0 0#8 = zs := rfl
  have hoff : s.popCommand.offZones = s.offZones := rfl
  simp only [actZoneEnable, hbyte, hzs, hoff, if_false]
  split <;> rfl

theorem exec_zoneDisable_range (h : s.takes c .zoneDisable) (hp : c.payload = [zs]) (hzs : zs = 0#8) :
    exec .zoneDisable s = .next (s.answered c [0x02#8]) := by
  subst hzs
  exact congrArg Host.Outcome.next (State.takeCommand_answers h hp rfl rfl)

theorem exec_zoneDisable (h : s.takes c .zoneDisable) (hp : c.payload = [zs]) (hzs : zs ≠ 0#8) {u : State}
    (hu : u = s.popCommand.disableZones zs) :
    exec .zoneDisable s =
      .next (u.replied c ([0x00#8, zs &&& ~~~s.offZones, u.offZones] ++ u8 (s.jobsEnded zs).length)).runArbiter := by
  subst hu
  refine congrArg Host.Outcome.next ((State.takeCommand_executes h hp rfl).trans ?_)
  have hbyte : [zs].getD 0 0#8 = zs := rfl
  simp only [actZoneDisable, hbyte, hzs, if_false]
  rfl

end Command

end Sys2Proof.Machine

/-! ### The statement about enabling and disabling zones -/

section

open Sys2Proof Sys2Proof.Machine

/-- Settles O36: a disable ends its jobs one behind another and then turns its zones off. -/
theorem zonesEnabledAndDisabled : Obligations.ZonesEnabledAndDisabled := by
  intro s c zs hp
  refine ⟨fun h => ⟨exec_zoneEnable_range h hp, fun hzs => ⟨s.popCommand.enableZones zs, s.popCommand.enableZones_rest zs,
    s.popCommand.enableZones_zone zs, exec_zoneEnable h hp hzs rfl⟩⟩, fun h => ⟨exec_zoneDisable_range h hp,
    fun hzs hids ended hended => ?_⟩⟩
  have hall := State.jobsEnded_allGone (s := s.popCommand) hids zs
  have hjobs := State.jobsEnded_jobs (s := s.popCommand) hids zs
  have hfold := State.disableJobs_eq (s.popCommand.jobsEnded zs) s.popCommand
  have hlist : s.popCommand.jobsEnded zs = s.jobs.filter ended := by
    rw [hended]
    exact List.filter_congr fun j _ => j.isEndedByDisable_eq zs
  have hreply := exec_zoneDisable h hp hzs (u := s.popCommand.disableZones zs) rfl
  rw [show s.jobsEnded zs = s.jobs.filter ended from hlist] at hreply
  have hnot : (s.jobs.filter fun j => !j.isEndedByDisable zs) = s.jobs.filter fun j => !ended j :=
    List.filter_congr fun j _ => by rw [hended, j.isEndedByDisable_eq]
  generalize hw : (s.popCommand.jobsEnded zs).foldl State.disableJob s.popCommand = w at hall hjobs hfold
  have hu : s.popCommand.disableZones zs = w.turnOff zs := hw ▸ rfl
  rw [hu] at hreply
  have hzone := w.turnOff_zone zs
  have hrest := w.turnOff_rest zs
  rw [hlist] at hall hfold
  refine ⟨w.turnOff zs, ?_, fun z => ?_, ?_, ?_, ?_, fun i hi => ?_, ?_, hreply⟩
  · exact (congrArg State.jobs hrest).trans (hjobs.trans hnot)
  · rw [hzone]
    split
    · rfl
    · rw [hall.zoneState]
      unfold State.leftBy State.guardState
      simp only [List.mem_filter, and_assoc]
      rfl
  · exact (congrArg State.captures hrest).trans hall.captures
  · exact (congrArg (fun u : State => u.table.load) hrest).trans hall.load
  · exact (congrArg (fun u : State => u.table.learn) hrest).trans hall.learn
  · refine (congrArg (fun u : State => u.slot i) hrest).trans (hall.slot i fun j hj => ?_)
    obtain ⟨hmem, hends⟩ := List.mem_filter.mp hj
    exact hi j hmem hends
  · rintro v rfl
    rw [hfold] at hzone hrest
    rw [hfold]
    exact ⟨hzone, hrest⟩

end
end

section
/-! PROOFS. The roster of a state: the part of it that the owners of zones and the users of generators are told from, what a
command can do to it, and the two invariants as a case analysis of that (R56, R61, R66 to R68, R71, R104). -/

namespace Sys2Proof.Machine

/-! ### The roster -/

/-- What the roster holds of a live job. -/
structure Entry where
  id : Nat
  zones : ZoneSet
  phase : Phase
  generator : Option (Fin 4)

/-- What the roster holds of a job record. -/
def Job.entry (j : Job) : Entry where
  id := j.id
  zones := j.zones
  phase := j.state.phase
  generator := j.generator

/-- The live jobs with their zones and generators, the states of the zones, the generators, and the next-id counter. -/
@[ext] structure Roster where
  nextId : Nat
  entries : List Entry
  zones : ZoneNo → ZoneState
  generators : Fin 4 → Option Carrier

/-- The roster of a state. -/
def State.roster (s : State) : Roster where
  nextId := s.nextId
  entries := s.jobs.map Job.entry
  zones := fun z => (s.zone z).state
  generators := fun g => s.generators[g]

@[simp] theorem State.roster_nextId (s : State) : s.roster.nextId = s.nextId := rfl
@[simp] theorem State.roster_entries (s : State) : s.roster.entries = s.jobs.map Job.entry := rfl
@[simp] theorem State.roster_zones (s : State) (z : ZoneNo) : s.roster.zones z = (s.zone z).state := rfl
@[simp] theorem State.roster_generators (s : State) (g : Fin 4) : s.roster.generators g = s.generators[g] := rfl

theorem State.roster_ids (s : State) : s.roster.entries.map Entry.id = s.jobs.map Job.id := by
  simp [Job.entry, Function.comp_def]

/-- The roster with another state of a zone. -/
def Roster.setZone (R : Roster) (z : ZoneNo) (x : ZoneState) : Roster :=
  { R with zones := Function.update R.zones z x }

/-- The roster with another value of one generator, or with none changed. -/
def Roster.changeGenerator (R : Roster) (f : Option Carrier → Option Carrier) : Option (Fin 4) → Roster
  | some g => { R with generators := Function.update R.generators g (f (R.generators g)) }
  | none => R

/-- The jobs with an id enter a phase with a generator. -/
def Roster.restate (R : Roster) (id : Nat) (p : Phase) (g : Option (Fin 4)) : Roster :=
  { R with entries := R.entries.map fun e => if e.id = id then { e with phase := p, generator := g } else e }

/-- The jobs with an id leave the queue (R106). -/
def Roster.remove (R : Roster) (id : Nat) : Roster :=
  { R with entries := R.entries.filter fun e => decide (e.id ≠ id) }

@[simp] theorem Roster.restate_entries (R : Roster) (id : Nat) (p : Phase) (g : Option (Fin 4)) :
    (R.restate id p g).entries =
      R.entries.map fun e => if e.id = id then { e with phase := p, generator := g } else e := rfl

@[simp] theorem Roster.remove_entries (R : Roster) (id : Nat) :
    (R.remove id).entries = R.entries.filter fun e => decide (e.id ≠ id) := rfl

/-- A job's zones leave its ownership for a state, and it gives up its generator (R104, steps 1 and 2). -/
def Roster.vacate (R : Roster) (e : Entry) (x : ZoneState) : Roster :=
  Roster.changeGenerator { R with zones := fun z => if R.zones z = .active e.id then x else R.zones z } dropUser e.generator

/-- A job's zones become its own, and it takes a generator for a carrier (R71, steps 1 and 2). -/
def Roster.occupy (R : Roster) (e : Entry) (h : Header) (g : Option (Fin 4)) : Roster :=
  Roster.changeGenerator { R with zones := fun z => if ZoneSet.has e.zones z = true then .active e.id else R.zones z }
    (addUser h) g

/-! ### Moves -/

/-- A zone state without an owner (R56). -/
def ZoneState.Unowned (x : ZoneState) : Prop :=
  ∀ o, x ≠ .active o

/-- What a command does to the roster, one effect at a time. -/
inductive Roster.Move : Roster → Roster → Prop
  /-- A job that names no zone in OFF is admitted under an id that no live job holds (R39, R41, R42). -/
  | enter {R : Roster} {e : Entry} {es : List Entry} (joined : es.Perm (e :: R.entries)) (fresh : ∀ k ∈ R.entries, k.id ≠ e.id)
      (waits : e.phase = .waiting) (bare : e.generator = none) (on : ∀ z, ZoneSet.has e.zones z = true → R.zones z ≠ .off) :
      Move R { R with entries := es, nextId := nextIdAfter e.id }
  /-- A waiting job whose zones are IDLE starts (R70, R71). -/
  | start {R : Roster} {e : Entry} (live : e ∈ R.entries) (waits : e.phase = .waiting)
      (idle : ∀ z, ZoneSet.has e.zones z = true → R.zones z = .idle) (h : Header) (g : Option (Fin 4)) :
      Move R ((R.occupy e h g).restate e.id .playing g)
  /-- A job enters SETTLING (R104, R105). -/
  | settle {R : Roster} {e : Entry} {x : ZoneState} (live : e ∈ R.entries) (unowned : x.Unowned) (on : x ≠ .off) :
      Move R ((R.vacate e x).restate e.id .settling none)
  /-- A job ends and is removed (R104, R106). -/
  | leave {R : Roster} {e : Entry} {x : ZoneState} (live : e ∈ R.entries) (unowned : x.Unowned) (on : x ≠ .off) :
      Move R ((R.vacate e x).remove e.id)
  /-- A SETTLING job is removed (R100, R159). -/
  | retire {R : Roster} {e : Entry} (live : e ∈ R.entries) (settling : e.phase = .settling) : Move R (R.remove e.id)
  /-- A zone without an owner becomes IDLE (R58, R60). -/
  | free {R : Roster} {z : ZoneNo} (unowned : (R.zones z).Unowned) : Move R (R.setZone z .idle)
  /-- A zone that only SETTLING jobs name becomes OFF (R61). -/
  | turnOff {R : Roster} {z : ZoneNo} (unnamed : ∀ e ∈ R.entries, e.phase ≠ .settling → ZoneSet.has e.zones z = false) :
      Move R (R.setZone z .off)
  /-- A reset removes every job (R16, R53, R65, R68). -/
  | clear {R R' : Roster} (empty : R'.entries = []) (first : R'.nextId = 1) (unowned : ∀ z, (R'.zones z).Unowned)
      (free : ∀ g, R'.generators g = none) : Move R R'

/-- The live jobs of a roster are told apart by their ids, and the next-id counter is an id (R42). -/
structure Roster.Ordered (R : Roster) : Prop where
  ids : (R.entries.map Entry.id).Nodup
  nextRange : isJobId R.nextId

theorem Roster.changeGenerator_keeps (R : Roster) (f : Option Carrier → Option Carrier) (g : Option (Fin 4)) :
    (R.changeGenerator f g).entries = R.entries ∧ (R.changeGenerator f g).nextId = R.nextId ∧
      (R.changeGenerator f g).zones = R.zones := by
  cases g <;> exact ⟨rfl, rfl, rfl⟩

@[simp] theorem Roster.vacate_entries (R : Roster) (e : Entry) (x : ZoneState) : (R.vacate e x).entries = R.entries :=
  (Roster.changeGenerator_keeps _ dropUser e.generator).1

@[simp] theorem Roster.vacate_nextId (R : Roster) (e : Entry) (x : ZoneState) : (R.vacate e x).nextId = R.nextId :=
  (Roster.changeGenerator_keeps _ dropUser e.generator).2.1

@[simp] theorem Roster.occupy_entries (R : Roster) (e : Entry) (h : Header) (g : Option (Fin 4)) :
    (R.occupy e h g).entries = R.entries :=
  (Roster.changeGenerator_keeps _ (addUser h) g).1

@[simp] theorem Roster.occupy_nextId (R : Roster) (e : Entry) (h : Header) (g : Option (Fin 4)) :
    (R.occupy e h g).nextId = R.nextId :=
  (Roster.changeGenerator_keeps _ (addUser h) g).2.1

theorem Roster.vacate_zones (R : Roster) (e : Entry) (x : ZoneState) (z : ZoneNo) :
    (R.vacate e x).zones z = if R.zones z = .active e.id then x else R.zones z :=
  congrFun (Roster.changeGenerator_keeps _ dropUser e.generator).2.2 z

theorem Roster.occupy_zones (R : Roster) (e : Entry) (h : Header) (g : Option (Fin 4)) (z : ZoneNo) :
    (R.occupy e h g).zones z = if ZoneSet.has e.zones z = true then .active e.id else R.zones z :=
  congrFun (Roster.changeGenerator_keeps _ (addUser h) g).2.2 z

theorem Roster.Ordered.restate {R : Roster} (h : R.Ordered) (id : Nat) (p : Phase) (g : Option (Fin 4)) :
    (R.restate id p g).Ordered where
  ids := by
    have hids : (R.restate id p g).entries.map Entry.id = R.entries.map Entry.id := by
      simp only [Roster.restate, List.map_map]
      refine List.map_congr_left fun e _ => ?_
      simp only [Function.comp_apply]
      split <;> rfl
    exact hids ▸ h.ids
  nextRange := h.nextRange

theorem Roster.Ordered.remove {R : Roster} (h : R.Ordered) (id : Nat) : (R.remove id).Ordered where
  ids := h.ids.sublist (List.filter_sublist.map _)
  nextRange := h.nextRange

theorem Roster.Ordered.vacate {R : Roster} (h : R.Ordered) (e : Entry) (x : ZoneState) : (R.vacate e x).Ordered where
  ids := by simpa using h.ids
  nextRange := by simpa using h.nextRange

theorem Roster.Ordered.occupy {R : Roster} (ho : R.Ordered) (e : Entry) (h : Header) (g : Option (Fin 4)) :
    (R.occupy e h g).Ordered where
  ids := by simpa using ho.ids
  nextRange := by simpa using ho.nextRange

theorem isJobId_nextIdAfter (n : Nat) : isJobId (nextIdAfter n) := by
  unfold isJobId nextIdAfter
  split <;> omega

theorem Roster.Move.keeps_ordered {R R' : Roster} (h : R.Move R') (ho : R.Ordered) : R'.Ordered := by
  cases h with
  | enter joined fresh waits bare on =>
    refine ⟨(joined.map Entry.id).nodup_iff.mpr ?_, isJobId_nextIdAfter _⟩
    rw [List.map_cons, List.nodup_cons]
    refine ⟨fun hmem => ?_, ho.ids⟩
    obtain ⟨k, hk, he⟩ := List.mem_map.mp hmem
    exact fresh k hk he
  | start live waits idle h g => exact (ho.occupy _ h g).restate _ _ _
  | settle live unowned on => exact (ho.vacate _ _).restate _ _ _
  | leave live unowned on => exact (ho.vacate _ _).remove _
  | retire live settling => exact ho.remove _
  | free unowned | turnOff unnamed => exact ⟨ho.ids, ho.nextRange⟩
  | clear empty first unowned free => exact ⟨by simp [empty], by simp [first, isJobId]⟩

/-- A run of moves. -/
abbrev Roster.Moves : Roster → Roster → Prop :=
  Relation.ReflTransGen Roster.Move

theorem Roster.Moves.keeps_ordered {R R' : Roster} (h : R.Moves R') (ho : R.Ordered) : R'.Ordered := by
  induction h with
  | refl => exact ho
  | tail _ hmove ih => exact hmove.keeps_ordered ih

/-- From a roster whose jobs are told apart, a run of moves leads to another. -/
def Roster.Shifts (R R' : Roster) : Prop :=
  R.Ordered → R.Moves R'

theorem Roster.Shifts.refl (R : Roster) : R.Shifts R :=
  fun _ => .refl

theorem Roster.Shifts.of_eq {R R' : Roster} (h : R' = R) : R.Shifts R' :=
  h ▸ .refl R

theorem Roster.Shifts.single {R R' : Roster} (h : R.Move R') : R.Shifts R' :=
  fun _ => .single h

theorem Roster.Shifts.trans {R R' R'' : Roster} (h : R.Shifts R') (h' : R'.Shifts R'') : R.Shifts R'' :=
  fun ho => (h ho).trans (h' ((h ho).keeps_ordered ho))

/-- A run from the roster of a state in which an operation on nothing of the roster has been done. -/
theorem Roster.Shifts.since {R S T : Roster} (h : S.Shifts T) (hs : S = R) : R.Shifts T :=
  hs ▸ h

theorem foldl_shifts {α : Type} {f : State → α → State} (h : ∀ (s : State) (a : α), s.roster.Shifts (f s a).roster)
    (l : List α) (s : State) : s.roster.Shifts (l.foldl f s).roster := by
  induction l generalizing s with
  | nil => exact .refl _
  | cons a l ih => exact (h s a).trans (ih _)

/-! ### The jobs of a roster -/

section Entries

variable {R : Roster} (ho : R.Ordered) {e k : Entry}

include ho

theorem Roster.Ordered.eq_of_id (he : e ∈ R.entries) (hk : k ∈ R.entries) (h : k.id = e.id) : k = e :=
  List.inj_on_of_nodup_map ho.ids hk he h

/-- A live job and the others. -/
theorem Roster.Ordered.perm_cons_remove (he : e ∈ R.entries) : R.entries.Perm (e :: (R.remove e.id).entries) := by
  have hall : R.entries.filter (fun k => decide (k.id = e.id)) = [e] := by
    have hnodup : R.entries.Nodup := .of_map _ ho.ids
    refine List.perm_singleton.mp ((List.perm_ext_iff_of_nodup (hnodup.filter _) (List.nodup_singleton e)).mpr fun k => ?_)
    rw [List.mem_filter, decide_eq_true_eq, List.mem_singleton]
    exact ⟨fun ⟨hk, h⟩ => ho.eq_of_id he hk h, by rintro rfl; exact ⟨he, rfl⟩⟩
  have hsplit := (List.filter_append_perm (fun k => decide (k.id = e.id)) R.entries).symm
  rw [hall] at hsplit
  simpa [Roster.remove] using hsplit

end Entries

theorem Roster.mem_remove {R : Roster} {id : Nat} {k : Entry} : k ∈ (R.remove id).entries ↔ k ∈ R.entries ∧ k.id ≠ id := by
  simp [Roster.remove]

/-- A job in a roster in which another has been restated: that job as restated, or another as it was. -/
theorem Roster.mem_restate {R : Roster} (ho : R.Ordered) {e k : Entry} (he : e ∈ R.entries) {p : Phase} {g : Option (Fin 4)} :
    k ∈ (R.restate e.id p g).entries ↔ k = { e with phase := p, generator := g } ∨ (k ∈ R.entries ∧ k.id ≠ e.id) := by
  simp only [Roster.restate, List.mem_map]
  constructor
  · rintro ⟨n, hn, rfl⟩
    by_cases h : n.id = e.id
    · exact .inl (by rw [if_pos h, ho.eq_of_id he hn h])
    · exact .inr (by rw [if_neg h]; exact ⟨hn, h⟩)
  · rintro (rfl | ⟨hk, h⟩)
    · exact ⟨e, he, if_pos rfl⟩
    · exact ⟨k, hk, if_neg h⟩

/-- The jobs of a roster in which one has been restated. -/
theorem Roster.restate_perm {R : Roster} (ho : R.Ordered) {e : Entry} (he : e ∈ R.entries) (p : Phase) (g : Option (Fin 4)) :
    (R.restate e.id p g).entries.Perm ({ e with phase := p, generator := g } :: (R.remove e.id).entries) := by
  have hperm := (ho.perm_cons_remove he).map fun k => if k.id = e.id then { k with phase := p, generator := g } else k
  have hrest : ((R.remove e.id).entries.map fun k => if k.id = e.id then { k with phase := p, generator := g } else k) =
      (R.remove e.id).entries :=
    (List.map_congr_left fun k hk => if_neg (Roster.mem_remove.mp hk).2).trans (List.map_id _)
  rw [List.map_cons, if_pos rfl, hrest] at hperm
  exact hperm

/-! ### The owners of zones (R56, R61) -/

/-- The zones of a roster are owned as `State.zonesOwned` says. -/
structure Roster.Owned (R : Roster) : Prop where
  owner : ∀ z o, R.zones z = .active o → ∃ e ∈ R.entries, e.id = o ∧ e.phase = .playing ∧ ZoneSet.has e.zones z = true
  owns : ∀ e ∈ R.entries, e.phase = .playing → ∀ z, ZoneSet.has e.zones z = true → R.zones z = .active e.id
  on : ∀ e ∈ R.entries, e.phase ≠ .settling → ∀ z, ZoneSet.has e.zones z = true → R.zones z ≠ .off

section Owned

variable {R : Roster} (hR : R.Owned)

include hR

/-- A zone that gets a state without an owner, no playing job naming it. -/
theorem Roster.Owned.setZone {z : ZoneNo} {x : ZoneState} (hx : x.Unowned)
    (hplays : ∀ e ∈ R.entries, e.phase = .playing → ZoneSet.has e.zones z = false)
    (hon : ∀ e ∈ R.entries, e.phase ≠ .settling → ZoneSet.has e.zones z = true → x ≠ .off) : (R.setZone z x).Owned where
  owner w o h := by
    simp only [Roster.setZone, Function.update_apply] at h
    split at h
    · exact absurd h (hx o)
    · exact hR.owner w o h
  owns e he hp w hw := by
    refine (Function.update_of_ne ?_ _ _).trans (hR.owns e he hp w hw)
    rintro rfl
    exact Bool.false_ne_true ((hplays e he hp).symm.trans hw)
  on e he hp w hw := by
    simp only [Roster.setZone, Function.update_apply]
    split
    · exact hon e he hp (‹w = z› ▸ hw)
    · exact hR.on e he hp w hw

/-- The zones of a job that no longer plays leave its ownership, and the other jobs are as they were. -/
theorem Roster.Owned.vacate {e : Entry} {x : ZoneState} (hx : x.Unowned) (hon : x ≠ .off) {es : List Entry}
    (hold : ∀ k ∈ R.entries, k.id ≠ e.id → k ∈ es)
    (hnew : ∀ k ∈ es, k.phase = .settling ∨ (k ∈ R.entries ∧ k.id ≠ e.id)) :
    ({ R.vacate e x with entries := es } : Roster).Owned where
  owner z o h := by
    rw [Roster.vacate_zones] at h
    split at h
    · exact absurd h (hx o)
    · rename_i hz
      obtain ⟨k, hk, hid, hp, hn⟩ := hR.owner z o h
      exact ⟨k, hold k hk fun he => hz (by rw [h, ← he, hid]), hid, hp, hn⟩
  owns k hk hp z hz := by
    obtain hs | ⟨hk, hid⟩ := hnew k hk
    · exact nomatch hs.symm.trans hp
    · have hzone := hR.owns k hk hp z hz
      rw [Roster.vacate_zones, if_neg (fun h => hid (ZoneState.active.inj (hzone.symm.trans h))), hzone]
  on k hk hp z hz := by
    obtain hs | ⟨hk, -⟩ := hnew k hk
    · exact absurd hs hp
    · rw [Roster.vacate_zones]
      split
      · exact hon
      · exact hR.on k hk hp z hz

/-- A SETTLING job owns no zone, and may go (R104). -/
theorem Roster.Owned.retire (ho : R.Ordered) {e : Entry} (he : e ∈ R.entries) (hs : e.phase = .settling) :
    (R.remove e.id).Owned where
  owner z o h := by
    obtain ⟨k, hk, hid, hp, hn⟩ := hR.owner z o h
    refine ⟨k, Roster.mem_remove.mpr ⟨hk, fun h => ?_⟩, hid, hp, hn⟩
    rw [ho.eq_of_id he hk h, hs] at hp
    exact nomatch hp
  owns k hk := hR.owns k (Roster.mem_remove.mp hk).1
  on k hk := hR.on k (Roster.mem_remove.mp hk).1

/-- A job that starts comes to own its zones, which were IDLE (R71). -/
theorem Roster.Owned.start (ho : R.Ordered) {e : Entry} (he : e ∈ R.entries)
    (hidle : ∀ z, ZoneSet.has e.zones z = true → R.zones z = .idle) (h : Header) (g : Option (Fin 4)) :
    ((R.occupy e h g).restate e.id .playing g).Owned := by
  have hmem : ∀ {k : Entry}, k ∈ ((R.occupy e h g).restate e.id .playing g).entries ↔
      k = { e with phase := .playing, generator := g } ∨ (k ∈ R.entries ∧ k.id ≠ e.id) := by
    intro k
    rw [Roster.mem_restate (ho.occupy e h g) (by simpa using he), Roster.occupy_entries]
  have hzones : ∀ z, ((R.occupy e h g).restate e.id .playing g).zones z =
      if ZoneSet.has e.zones z = true then .active e.id else R.zones z := R.occupy_zones e h g
  refine ⟨fun z o hz => ?_, fun k hk hp z hz => ?_, fun k hk hp z hz => ?_⟩
  · rw [hzones] at hz
    split at hz
    · exact ⟨_, hmem.mpr (.inl rfl), ZoneState.active.inj hz, rfl, ‹_›⟩
    · rename_i hout
      obtain ⟨k, hk, hid, hp, hn⟩ := hR.owner z o hz
      refine ⟨k, hmem.mpr (.inr ⟨hk, fun h => ?_⟩), hid, hp, hn⟩
      exact hout (ho.eq_of_id he hk h ▸ hn)
  · rw [hzones]
    obtain rfl | ⟨hk, -⟩ := hmem.mp hk
    · exact if_pos hz
    · have hzone := hR.owns k hk hp z hz
      rw [if_neg (fun hin => nomatch hzone.symm.trans (hidle z hin)), hzone]
  · rw [hzones]
    split
    · exact fun h => nomatch h
    · rename_i hout
      obtain rfl | ⟨hk, -⟩ := hmem.mp hk
      · exact absurd hz hout
      · exact hR.on k hk hp z hz

theorem Roster.Owned.enter {e : Entry} {es : List Entry} (joined : es.Perm (e :: R.entries)) (waits : e.phase = .waiting)
    (on : ∀ z, ZoneSet.has e.zones z = true → R.zones z ≠ .off) (n : Nat) :
    ({ R with entries := es, nextId := n } : Roster).Owned := by
  have hmem : ∀ {k : Entry}, k ∈ es ↔ k = e ∨ k ∈ R.entries := by
    intro k
    rw [joined.mem_iff, List.mem_cons]
  refine ⟨fun z o hz => ?_, fun k hk hp z hz => ?_, fun k hk hp z hz => ?_⟩
  · obtain ⟨k, hk, hrest⟩ := hR.owner z o hz
    exact ⟨k, hmem.mpr (.inr hk), hrest⟩
  · obtain rfl | hk := hmem.mp hk
    · exact nomatch waits.symm.trans hp
    · exact hR.owns k hk hp z hz
  · obtain rfl | hk := hmem.mp hk
    · exact on z hz
    · exact hR.on k hk hp z hz

end Owned

theorem Roster.Move.keeps_owned {R R' : Roster} (h : R.Move R') (ho : R.Ordered) (hR : R.Owned) : R'.Owned := by
  cases h with
  | enter joined fresh waits bare on => exact hR.enter joined waits on _
  | start live waits idle h g => exact hR.start ho live idle h g
  | @settle e x live unowned on =>
    refine hR.vacate unowned on (fun k hk hid => ?_) fun k hk => ?_
    · exact (Roster.mem_restate (ho.vacate e x) (by simpa using live)).mpr (.inr ⟨by simpa using hk, hid⟩)
    · obtain rfl | hk := (Roster.mem_restate (ho.vacate e x) (by simpa using live)).mp hk
      · exact .inl rfl
      · exact .inr (by simpa using hk)
  | @leave e x live unowned on =>
    refine hR.vacate unowned on (fun k hk hid => ?_) fun k hk => ?_
    · exact Roster.mem_remove.mpr ⟨by simpa using hk, hid⟩
    · exact .inr (by simpa using Roster.mem_remove.mp hk)
  | retire live settling => exact hR.retire ho live settling
  | free unowned =>
    refine hR.setZone (fun o => nofun) (fun e he hp => ?_) fun _ _ _ _ => nofun
    by_contra hin
    exact unowned _ (hR.owns e he hp _ (by simpa using hin))
  | turnOff unnamed =>
    refine hR.setZone (fun o => nofun) (fun e he hp => unnamed e he (by simp [hp])) fun e he hp hin => ?_
    exact absurd ((unnamed e he hp).symm.trans hin) Bool.false_ne_true
  | clear empty first unowned free =>
    exact ⟨fun z o hz => absurd hz (unowned z o), by simp [empty], by simp [empty]⟩

/-! ### The users of generators (R66 to R68) -/

/-- The jobs of a roster that hold a generator. -/
def usersIn (es : List Entry) (g : Fin 4) : Nat :=
  es.countP fun e => decide (e.generator = some g)

/-- A generator with a number of users, as `State.generatorCounted` says. -/
def CarrierCounts (n : Nat) : Option Carrier → Prop
  | some c => c.users = n ∧ 1 ≤ c.users
  | none => n = 0

/-- The generators of a roster are counted as `State.generatorsCounted` says. -/
structure Roster.Counted (R : Roster) : Prop where
  users : ∀ g, CarrierCounts (usersIn R.entries g) (R.generators g)
  plays : ∀ e ∈ R.entries, e.generator.isSome = true → e.phase = .playing

theorem usersIn_cons (e : Entry) (es : List Entry) (g : Fin 4) :
    usersIn (e :: es) g = usersIn es g + if e.generator = some g then 1 else 0 := by
  simp [usersIn, List.countP_cons]

theorem usersIn_perm {es es' : List Entry} (h : es.Perm es') (g : Fin 4) : usersIn es g = usersIn es' g :=
  h.countP_eq _

theorem CarrierCounts.dropUser {n : Nat} {c : Option Carrier} (h : CarrierCounts (n + 1) c) : CarrierCounts n (dropUser c) := by
  cases c with
  | none => exact absurd h (Nat.succ_ne_zero n)
  | some c =>
    obtain ⟨husers, -⟩ := h
    unfold Machine.dropUser
    simp only []
    split
    · have hn : n = 0 := by omega
      exact hn
    · have hn : c.users - 1 = n ∧ 1 ≤ c.users - 1 := by omega
      exact hn

theorem CarrierCounts.addUser {n : Nat} {c : Option Carrier} (h : CarrierCounts n c) (x : Header) :
    CarrierCounts (n + 1) (addUser x c) := by
  cases c with
  | none =>
    obtain rfl : n = 0 := h
    exact ⟨rfl, le_rfl⟩
  | some c =>
    obtain ⟨husers, -⟩ := h
    exact ⟨congrArg (· + 1) husers, Nat.le_add_left 1 c.users⟩

theorem Roster.changeGenerator_generators (R : Roster) (f : Option Carrier → Option Carrier) (o : Option (Fin 4)) (g : Fin 4) :
    (R.changeGenerator f o).generators g = if o = some g then f (R.generators g) else R.generators g := by
  cases o with
  | none => rfl
  | some n =>
    simp only [Roster.changeGenerator, Function.update_apply, Option.some.injEq, eq_comm (a := g)]
    split
    · rw [‹n = g›]
    · rfl

section Counted

variable {R : Roster} (hR : R.Counted) (ho : R.Ordered) {e : Entry} (he : e ∈ R.entries)

include hR ho he

/-- With a job's generator given up, the generators count the users among the other jobs (R68). -/
theorem Roster.Counted.vacate (x : ZoneState) (g : Fin 4) :
    CarrierCounts (usersIn (R.remove e.id).entries g) ((R.vacate e x).generators g) := by
  have hg := hR.users g
  rw [usersIn_perm (ho.perm_cons_remove he), usersIn_cons] at hg
  rw [Roster.vacate, Roster.changeGenerator_generators]
  split
  · rw [if_pos ‹_›] at hg
    exact hg.dropUser
  · rw [if_neg ‹_›] at hg
    exact hg

theorem Roster.Counted.leave (x : ZoneState) : ((R.vacate e x).remove e.id).Counted where
  users g := by
    have hentries : ((R.vacate e x).remove e.id).entries = (R.remove e.id).entries := by simp [Roster.remove]
    rw [hentries]
    exact hR.vacate ho he x g
  plays k hk := hR.plays k (by simpa using (Roster.mem_remove.mp hk).1)

theorem Roster.Counted.settle (x : ZoneState) : ((R.vacate e x).restate e.id .settling none).Counted where
  users g := by
    have hperm := Roster.restate_perm (ho.vacate e x) (by simpa using he) .settling none
    have hentries : ((R.vacate e x).remove e.id).entries = (R.remove e.id).entries := by simp [Roster.remove]
    rw [usersIn_perm hperm, usersIn_cons, hentries, if_neg (by simp), Nat.add_zero]
    exact hR.vacate ho he x g
  plays k hk := by
    obtain rfl | ⟨hk, -⟩ := (Roster.mem_restate (ho.vacate e x) (by simpa using he)).mp hk
    · exact nofun
    · exact hR.plays k (by simpa using hk)

/-- A SETTLING job holds no generator, and may go (R104). -/
theorem Roster.Counted.retire (hs : e.phase = .settling) : (R.remove e.id).Counted where
  users g := by
    have hnone : e.generator ≠ some g := fun h => by
      have hp := hR.plays e he (by simp [h])
      exact nomatch hs.symm.trans hp
    have hg := hR.users g
    rwa [usersIn_perm (ho.perm_cons_remove he), usersIn_cons, if_neg hnone] at hg
  plays k hk := hR.plays k (Roster.mem_remove.mp hk).1

/-- A job that starts is one user more of the generator it takes (R67, R71). -/
theorem Roster.Counted.start (hwaits : e.phase = .waiting) (h : Header) (o : Option (Fin 4)) :
    ((R.occupy e h o).restate e.id .playing o).Counted where
  users g := by
    have hnone : e.generator ≠ some g := fun h => by
      have hp := hR.plays e he (by simp [h])
      exact nomatch hwaits.symm.trans hp
    have hg := hR.users g
    rw [usersIn_perm (ho.perm_cons_remove he), usersIn_cons, if_neg hnone, Nat.add_zero] at hg
    have hperm := Roster.restate_perm (ho.occupy e h o) (by simpa using he) .playing o
    have hentries : ((R.occupy e h o).remove e.id).entries = (R.remove e.id).entries := by simp [Roster.remove]
    rw [usersIn_perm hperm, usersIn_cons, hentries]
    change CarrierCounts _ ((R.occupy e h o).generators g)
    rw [Roster.occupy, Roster.changeGenerator_generators]
    split
    · exact hg.addUser h
    · exact hg
  plays k hk hsome := by
    obtain rfl | ⟨hk, -⟩ := (Roster.mem_restate (ho.occupy e h o) (by simpa using he)).mp hk
    · rfl
    · exact hR.plays k (by simpa using hk) hsome

end Counted

theorem Roster.Counted.enter {R : Roster} (hR : R.Counted) {e : Entry} {es : List Entry} (joined : es.Perm (e :: R.entries))
    (bare : e.generator = none) (n : Nat) : ({ R with entries := es, nextId := n } : Roster).Counted where
  users g := by
    rw [usersIn_perm joined, usersIn_cons, bare, if_neg (by simp)]
    exact hR.users g
  plays k hk hsome := by
    obtain rfl | hk := List.mem_cons.mp (joined.mem_iff.mp hk)
    · simp [bare] at hsome
    · exact hR.plays k hk hsome

theorem Roster.Move.keeps_counted {R R' : Roster} (h : R.Move R') (ho : R.Ordered) (hR : R.Counted) : R'.Counted := by
  cases h with
  | enter joined fresh waits bare on => exact hR.enter joined bare _
  | start live waits idle h g => exact hR.start ho live waits h g
  | settle live unowned on => exact hR.settle ho live _
  | leave live unowned on => exact hR.leave ho live _
  | retire live settling => exact hR.retire ho live settling
  | free unowned | turnOff unnamed => exact ⟨hR.users, hR.plays⟩
  | clear empty first unowned free =>
    refine ⟨fun g => ?_, by simp [empty]⟩
    rw [empty, free]
    rfl

/-- What every move from a roster in order keeps, a run of moves keeps. -/
theorem Roster.Shifts.keeps {P : Roster → Prop} {R R' : Roster} (h : R.Shifts R')
    (hm : ∀ R R', Roster.Move R R' → R.Ordered → P R → P R') (ho : R.Ordered) (hP : P R) : P R' := by
  have hkept : ∀ {R'}, R.Moves R' → R'.Ordered ∧ P R' := by
    intro R' hmoves
    induction hmoves with
    | refl => exact ⟨ho, hP⟩
    | tail _ hmove ih => exact ⟨hmove.keeps_ordered ih.1, hm _ _ hmove ih.1 ih.2⟩
  exact (hkept (h ho)).2

/-! ### The invariants of a state as invariants of its roster -/

theorem State.roster_ordered {s : State} (h : s.queueOrdered) : s.roster.Ordered := by
  obtain ⟨-, hids, -, hnext, -, -⟩ := h
  exact ⟨s.roster_ids ▸ hids, hnext⟩

theorem Job.entry_phase_playing_iff (j : Job) : j.entry.phase = .playing ↔ j.plays := by
  unfold Job.entry Job.plays
  cases j.state <;> simp [JobState.phase]

theorem Job.entry_phase_settling_iff (j : Job) : j.entry.phase = .settling ↔ j.state = .settling := by
  unfold Job.entry
  cases j.state <;> simp [JobState.phase]

theorem State.ownerPlays_iff (s : State) (z : ZoneNo) :
    s.ownerPlays z ↔
      ∀ o, (s.zone z).state = .active o → ∃ j ∈ s.jobs, j.id = o ∧ j.plays ∧ ZoneSet.has j.zones z = true := by
  unfold State.ownerPlays
  cases (s.zone z).state <;> simp

theorem State.zonesOwned_iff (s : State) : s.zonesOwned ↔ s.queueOrdered ∧ s.roster.Owned := by
  refine and_congr_right fun _ => ⟨fun ⟨howner, howns, hon⟩ => ⟨fun z o hz => ?_, ?_, ?_⟩, fun h => ⟨fun z => ?_, ?_, ?_⟩⟩
  · obtain ⟨j, hj, hid, hp, hn⟩ := (s.ownerPlays_iff z).mp (howner z) o hz
    exact ⟨j.entry, List.mem_map_of_mem hj, hid, j.entry_phase_playing_iff.mpr hp, hn⟩
  · exact List.forall_mem_map.mpr fun j hj hp => howns j hj (j.entry_phase_playing_iff.mp hp)
  · exact List.forall_mem_map.mpr fun j hj hp => hon j hj fun hs => hp (j.entry_phase_settling_iff.mpr hs)
  · refine (s.ownerPlays_iff z).mpr fun o hz => ?_
    obtain ⟨e, he, hid, hp, hn⟩ := h.owner z o hz
    obtain ⟨j, hj, rfl⟩ := List.mem_map.mp he
    exact ⟨j, hj, hid, j.entry_phase_playing_iff.mp hp, hn⟩
  · exact fun j hj hp => h.owns j.entry (List.mem_map_of_mem hj) (j.entry_phase_playing_iff.mpr hp)
  · exact fun j hj hp => h.on j.entry (List.mem_map_of_mem hj) fun hs => hp (j.entry_phase_settling_iff.mp hs)

theorem State.usersOf_eq (s : State) (g : Fin 4) : usersIn s.roster.entries g = s.usersOf g := by
  simp only [usersIn, State.roster_entries, List.countP_map]
  rfl

theorem State.generatorCounted_iff (s : State) (g : Fin 4) :
    s.generatorCounted g ↔ CarrierCounts (usersIn s.roster.entries g) (s.roster.generators g) := by
  rw [s.usersOf_eq g, s.roster_generators g]
  unfold State.generatorCounted
  cases s.generators[g] <;> rfl

theorem State.generatorsCounted_iff (s : State) : s.generatorsCounted ↔ s.queueOrdered ∧ s.roster.Counted := by
  refine and_congr_right fun _ => ⟨fun ⟨husers, hplays⟩ => ⟨fun g => ?_, ?_⟩, fun h => ⟨fun g => ?_, fun j hj hg => ?_⟩⟩
  · exact (s.generatorCounted_iff g).mp (husers g)
  · exact List.forall_mem_map.mpr fun j hj hg => j.entry_phase_playing_iff.mpr (hplays j hj hg)
  · exact (s.generatorCounted_iff g).mpr (h.users g)
  · exact j.entry_phase_playing_iff.mp (h.plays j.entry (List.mem_map_of_mem hj) hg)

end Sys2Proof.Machine
end

section
/-! PROOFS. What each shared operation does to the roster: most leave it, and starts, ends and admissions of jobs are its
moves. -/

namespace Sys2Proof.Machine

/-! ### Writers of the state -/

/-- A roster is read from the counter, the jobs, the states of the zones and the generators. -/
theorem State.roster_congr {s t : State} (hn : t.nextId = s.nextId) (hj : t.jobs = s.jobs)
    (hz : ∀ z, (t.zone z).state = (s.zone z).state) (hg : t.generators = s.generators) : t.roster = s.roster := by
  simp [State.roster, hn, hj, hz, hg]

theorem State.roster_of_kept {s t : State}
    (h : t.nextId = s.nextId ∧ t.jobs = s.jobs ∧ t.zones = s.zones ∧ t.generators = s.generators) : t.roster = s.roster := by
  obtain ⟨hn, hj, hz, hg⟩ := h
  exact State.roster_congr hn hj (fun z => by rw [State.zone, hz]; rfl) hg

@[simp] theorem State.setLine_roster (s : State) (l : HostLine) : (s.setLine l).roster = s.roster := rfl
@[simp] theorem State.setCaptures_roster (s : State) (cs : List CapturedFrame) : (s.setCaptures cs).roster = s.roster := rfl
@[simp] theorem State.produce_roster (s : State) (r : Report) : (s.produce r).roster = s.roster := rfl

theorem State.setZone_roster (s : State) (z : ZoneNo) (x : Zone) :
    (s.setZone z x).roster = s.roster.setZone z x.state := by
  have hzones : (fun w => ((s.setZone z x).zone w).state) = Function.update (fun w => (s.zone w).state) z x.state := by
    funext w
    rw [State.zone_setZone, Function.update_apply]
    split <;> rfl
  simp [State.roster, Roster.setZone, hzones]

/-- Job records that the roster sees as they were leave the roster. -/
theorem State.updateJob_roster_of_entry {s : State} {id : Nat} {f : Job → Job}
    (h : ∀ j ∈ s.jobs, j.id = id → (f j).entry = j.entry) : (s.updateJob id f).roster = s.roster := by
  have hentries : (s.updateJob id f).jobs.map Job.entry = s.jobs.map Job.entry := by
    simp only [State.updateJob, State.setJobs_jobs, List.map_map]
    refine List.map_congr_left fun j hj => ?_
    simp only [Function.comp_apply]
    split
    · exact h j hj ‹_›
    · rfl
  simp [State.roster, State.zone, hentries]

/-- A change of one live job's record that the roster does not see. -/
theorem State.updateJob_shifts {s : State} {j : Job} {f : Job → Job} (h : s.job? j.id = some j)
    (hf : (f j).entry = j.entry) : s.roster.Shifts (s.updateJob j.id f).roster := fun ho =>
  Roster.Shifts.of_eq (State.updateJob_roster_of_entry fun k hk hid => by
    rw [List.inj_on_of_nodup_map (s.roster_ids ▸ ho.ids) hk (List.mem_of_find?_eq_some h) hid, hf]) ho

theorem entries_map_ite {f : Job → Job} {p : Phase} {g : Option (Fin 4)}
    (hf : ∀ j, (f j).entry = { j.entry with phase := p, generator := g }) (js : List Job) (id : Nat) :
    (js.map fun j => if j.id = id then f j else j).map Job.entry =
      (js.map Job.entry).map fun e => if e.id = id then { e with phase := p, generator := g } else e := by
  simp only [List.map_map]
  refine List.map_congr_left fun j _ => ?_
  simp only [Function.comp_apply]
  split
  · exact (hf j).trans (if_pos ‹_›).symm
  · exact (if_neg ‹_›).symm

theorem entries_filter (js : List Job) (id : Nat) :
    (js.filter fun j => decide (j.id ≠ id)).map Job.entry = (js.map Job.entry).filter fun e => decide (e.id ≠ id) := by
  rw [List.filter_map]
  rfl

/-! ### Operations that leave the roster -/

theorem State.MarksEnd.roster {s u : State} (h : s.MarksEnd u) (hn : u.nextId = s.nextId) (hj : u.jobs = s.jobs)
    (hg : u.generators = s.generators) : u.roster = s.roster :=
  State.roster_congr hn hj h.zoneState hg

@[simp] theorem State.markEnds_roster (s : State) (d : Nat) (ps : List (ZoneNo × Nat)) :
    (s.markEnds d ps).roster = s.roster :=
  (State.MarksEnd.markEnds s d ps).roster (by simp) (by simp) (by simp)

@[simp] theorem State.cutFrame_roster (s : State) (j : Job) : (s.cutFrame j).roster = s.roster :=
  (State.MarksEnd.cutFrame s j).roster (by simp) (by simp) (by simp)

@[simp] theorem State.decay_roster (s : State) (z : ZoneNo) : (s.decay z).roster = s.roster := by
  refine ((State.MarksEnd.evaluate (s.setZone z _) z).roster (by simp) (by simp) (by simp)).trans ?_
  rw [State.setZone_roster]
  simp only [Roster.setZone, ← State.roster_zones, Function.update_eq_self]

@[simp] theorem State.checkRunEnd_roster (s : State) (v : InputNo) : (s.checkRunEnd v).roster = s.roster :=
  State.roster_of_kept (by simp)

@[simp] theorem State.unbind_roster (s : State) (v : InputNo) : (s.unbind v).roster = s.roster :=
  State.roster_of_kept (by simp)

@[simp] theorem State.noticeEmitted_roster (s : State) (j : Job) : (s.noticeEmitted j).roster = s.roster :=
  State.roster_of_kept (by simp)

@[simp] theorem State.beginFrame_roster (s : State) (j : Job) (kind : FrameKind) : (s.beginFrame j kind).roster = s.roster :=
  State.updateJob_roster_of_entry fun _ _ _ => rfl

@[simp] theorem State.pauseJob_roster (s : State) (id : Nat) : (s.pauseJob id).roster = s.roster :=
  State.updateJob_roster_of_entry fun _ _ _ => rfl

@[simp] theorem State.setOutcome_roster (s : State) (id : Nat) (o : VerifyOutcome) :
    (s.updateJob id fun j => { j with verify := o }).roster = s.roster :=
  State.updateJob_roster_of_entry fun _ _ _ => rfl

theorem State.endCell_roster (s : State) (j : Job) (p : Play) (i d cells : Nat) :
    (s.endCell j p i d cells).roster = s.roster := by
  have hplay : ∀ (u : State) (q : Option Play), (u.updateJob j.id fun k => { k with play := q }).roster = u.roster :=
    fun _ _ => State.updateJob_roster_of_entry fun _ _ _ => rfl
  unfold State.endCell
  simp only []
  split
  · split
    · exact (hplay _ _).trans (s.markEnds_roster d p.sampled)
    · exact (State.noticeEmitted_roster _ j).trans ((hplay _ _).trans (s.markEnds_roster d p.sampled))
  · exact hplay _ _

theorem Job.countFrame_entry (j : Job) (kind : FrameKind) : (j.countFrame kind).entry = j.entry := by
  unfold Job.countFrame
  split <;> rfl

/-- A release keeps a waiting job waiting and a playing job playing (R97). -/
theorem Job.release_entry (j : Job) : j.release.entry = j.entry := by
  unfold Job.release
  split <;> simp [Job.entry, JobState.phase, *]

/-! ### Ends of jobs -/

/-- The record of a job leaves the queue (R106). -/
theorem State.finishJob_roster (s : State) (id : Nat) : (s.finishJob id).roster = s.roster.remove id := by
  have hjobs : (s.finishJob id).jobs = s.jobs.filter fun j => decide (j.id ≠ id) := by
    cases hj : s.job? id with
    | none =>
      have hother : ∀ j ∈ s.jobs, j.id ≠ id := by simpa [State.job?] using hj
      rw [List.filter_eq_self.mpr fun j hm => decide_eq_true (hother j hm)]
      simp [State.finishJob, hj]
    | some j => exact State.finishJob_jobs hj
  have hrest : (s.finishJob id).roster = { s.roster with entries := (s.finishJob id).jobs.map Job.entry } := by
    simp [State.roster, State.zone]
  rw [hrest, hjobs, entries_filter]
  rfl

/-- The zones and the generator that a job gives up, in terms of the roster (R104, steps 1 and 2). -/
theorem State.vacate_eq {s u : State} {j : Job} {es : List Entry} (hn : u.nextId = s.nextId) (he : u.jobs.map Job.entry = es)
    (hz : ∀ z, (u.zone z).state = s.stateWithout j z) (hg : u.generators = s.generatorsWithout j) :
    u.roster = { s.roster.vacate j.entry s.guardState with entries := es } := by
  have hnextId : s.nextId = (s.roster.vacate j.entry s.guardState).nextId := (s.roster.vacate_nextId j.entry s.guardState).symm
  have hgenerators : u.roster.generators = (s.roster.vacate j.entry s.guardState).generators := by
    funext g
    rw [Roster.vacate, Roster.changeGenerator_generators, State.roster_generators, hg]
    change _ = if j.generator = some g then dropUser s.generators[g] else s.generators[g]
    unfold State.generatorsWithout
    cases j.generator with
    | none => simp
    | some n =>
      simp only [Fin.getElem_fin, Vector.getElem_set, Option.some.injEq, Fin.ext_iff]
      split
      · simp only [‹n.val = g.val›]
        cases s.generators[g.val] <;> rfl
      · rfl
  have hzones : u.roster.zones = (s.roster.vacate j.entry s.guardState).zones :=
    funext fun z => (hz z).trans (s.roster.vacate_zones j.entry s.guardState z).symm
  exact Roster.ext (hn.trans hnextId) he hzones hgenerators

theorem State.guardState_on (s : State) : s.guardState ≠ .off := by
  unfold State.guardState
  split <;> nofun

theorem State.mem_roster {s : State} {j : Job} (hj : s.job? j.id = some j) : j.entry ∈ s.roster.entries :=
  List.mem_map_of_mem (List.mem_of_find?_eq_some hj)

/-- A job that has gone has left (R104, R106). -/
theorem State.shifts_of_jobGone {s u : State} {j : Job} (hj : s.job? j.id = some j) (h : s.jobGone j u) :
    s.roster.Shifts u.roster := by
  obtain ⟨hjobs, hgenerators, hstate, -, -, -, -, -, -, -, -, -, hnextId, -, -, -⟩ := h
  have hentries : u.jobs.map Job.entry = ((s.roster.vacate j.entry s.guardState).remove j.id).entries := by
    rw [hjobs, entries_filter, Roster.remove_entries, Roster.vacate_entries]
    rfl
  rw [State.vacate_eq hnextId hentries hstate hgenerators]
  exact .single (.leave (State.mem_roster hj) s.guardState_unowned s.guardState_on)

/-- A verdict is given on a SETTLING job, which is removed (R158, R159). -/
theorem State.checkSettled_shifts (s : State) (v : InputNo) : s.roster.Shifts (s.checkSettled v).roster := by
  unfold State.checkSettled
  split
  · exact .refl _
  · rename_i r _
    split
    case isTrue hs =>
      cases hj : s.job? r.job with
      | none => simp [State.settled, hj] at hs
      | some j =>
        obtain ⟨hsettling, -⟩ := (State.settled_iff hj).mp hs
        have hid : j.id = r.job := State.job?_id hj
        have hgiven : (s.giveVerdict v r).roster = s.roster.remove j.entry.id := by
          rw [State.giveVerdict, State.finishJob_roster, State.unbind_roster, State.setOutcome_roster, ← hid]
          rfl
        rw [hgiven]
        exact .single (.retire (State.mem_roster (hid ▸ hj)) (j.entry_phase_settling_iff.mpr hsettling))
    case isFalse => exact .refl _

/-- A job with a bound input that ends with a verdict allowed has entered SETTLING (R104, R105). -/
theorem State.shifts_of_jobSettles {s u : State} {j : Job} {reason : EndReason} (hj : s.job? j.id = some j)
    (h : s.jobSettles j reason u) : s.roster.Shifts u.roster := by
  intro ho
  obtain ⟨hjobs, hgenerators, hzone, hrest⟩ := h
  have hentries : u.jobs.map Job.entry = ((s.roster.vacate j.entry s.guardState).restate j.id .settling none).entries := by
    have hsettles : u.jobs = s.jobs.map fun k => if k.id = j.id then k.settles reason s.now else k :=
      hjobs.trans (State.map_ite_id_eq (f := fun k => k.settles reason s.now) hj (s.roster_ids ▸ ho.ids)).symm
    rw [hsettles, entries_map_ite (p := .settling) (g := none) fun _ => rfl, Roster.restate_entries, Roster.vacate_entries]
    rfl
  have hnextId : u.nextId = s.nextId := (congrArg State.nextId hrest :)
  rw [State.vacate_eq hnextId hentries (fun z => congrArg Zone.state (hzone z)) hgenerators]
  exact .single (.settle (State.mem_roster hj) s.guardState_unowned s.guardState_on)

theorem State.endJob_shifts (s : State) (id : Nat) (reason : EndReason) : s.roster.Shifts (s.endJob id reason).roster := by
  intro ho
  cases hj : s.job? id with
  | none =>
    simp only [State.endJob, hj]
    exact .refl
  | some j =>
    obtain rfl := State.job?_id hj
    obtain hb | ⟨v, r, hv, hr, hid⟩ := s.notBound_or_bound j
    · exact State.shifts_of_jobGone hj (State.endJob_of_notBound hj hb).1 ho
    · cases hreason : reason.allowsVerdict with
      | false => exact State.shifts_of_jobGone hj (State.endJob_jobGone hj hreason) ho
      | true =>
        obtain ⟨u, hsettles, hend⟩ := State.endJob_of_settling hj hv hr hid hreason (s.roster_ids ▸ ho.ids)
        rw [hend]
        exact (State.shifts_of_jobSettles hj hsettles).trans (u.checkSettled_shifts v) ho

theorem State.abandonSettling_shifts {s : State} {j : Job} (hj : s.job? j.id = some j) (hs : j.state = .settling) :
    s.roster.Shifts (s.abandonSettling j).roster := by
  have hremoved : (s.abandonSettling j).roster = s.roster.remove j.entry.id := by
    unfold State.abandonSettling
    split
    · rw [State.finishJob_roster, State.abandonVerify, State.unbind_roster, State.setOutcome_roster]
      rfl
    · rw [State.finishJob_roster]
      rfl
  rw [hremoved]
  exact .single (.retire (State.mem_roster hj) (j.entry_phase_settling_iff.mpr hs))

theorem State.cancelJob_shifts {s : State} {j : Job} (hj : s.job? j.id = some j) :
    s.roster.Shifts (s.cancelJob j).roster := by
  have hcut : s.roster.Shifts ((s.cutFrame j).endJob j.id .cancelled).roster :=
    .since (State.endJob_shifts (s.cutFrame j) _ _) (s.cutFrame_roster j)
  cases hs : j.state with
  | waiting => exact State.cancelJob_of_waiting hs ▸ s.endJob_shifts j.id .cancelled
  | running => exact State.cancelJob_of_playing (.inl hs) ▸ hcut
  | draining => exact State.cancelJob_of_playing (.inr hs) ▸ hcut
  | settling => exact State.cancelJob_of_settling hs ▸ State.abandonSettling_shifts hj hs

/-! ### Starts of jobs (R70, R71) -/

/-- A job that starts owns its zones and takes the generator it obtained (R71). -/
theorem State.startJob_roster (s : State) (j : Job) (h : Header) (g : Option (Fin 4)) :
    (s.startJob j h g).roster = (s.roster.occupy j.entry h g).restate j.id .playing g := by
  have hzones : ∀ z, ((s.startJob j h g).zone z).state = (s.roster.occupy j.entry h g).zones z := fun z => by
    rw [Roster.occupy_zones, State.startJob_zone]
    exact apply_ite Zone.state ..
  have hgenerators : ∀ n, (s.startJob j h g).generators[n] = (s.roster.occupy j.entry h g).generators n := fun n => by
    rw [Roster.occupy, Roster.changeGenerator_generators, State.startJob_generators]
    cases g with
    | none => simp
    | some m =>
      simp only [Fin.getElem_fin, Vector.getElem_set, Option.some.injEq, Fin.ext_iff, State.roster_generators]
      split
      · simp only [‹m.val = n.val›]
        cases s.generators[n.val] <;> rfl
      · rfl
  have hentries : (s.startJob j h g).jobs.map Job.entry =
      (s.jobs.map Job.entry).map fun e => if e.id = j.id then { e with phase := .playing, generator := g } else e := by
    rw [← entries_map_ite (f := fun k => k.started g s.now (s.params.holdLimit * 1000)) fun k => by
      rw [Job.started_eq]
      simp only [Job.entry]
      split <;> rfl]
    have hbegun := State.beginFrame_roster
      ((((s.ownZones j.id j.zones).takeGenerator h g).updateJob j.id fun k =>
        k.started g s.now (s.params.holdLimit * 1000)).bindVerify j |>.produce (.jobStart j.id j.slot j.zones s.now))
      j h.firstKind
    refine (congrArg Roster.entries hbegun).trans ?_
    simp [State.updateJob]
  refine Roster.ext ?_ ?_ (funext hzones) (funext hgenerators)
  · have hnextId : (s.startJob j h g).nextId = s.nextId := by simp
    exact hnextId.trans (s.roster.occupy_nextId j.entry h g).symm
  · exact hentries.trans (by simp)

theorem arbiterScan_shifts (js : List Job) (blocked : ZoneSet) (s : State) (hn : (js.map Job.id).Nodup)
    (hm : ∀ j ∈ js, j.entry ∈ s.roster.entries) : s.roster.Shifts (arbiterScan js blocked s).roster := by
  induction js generalizing blocked s with
  | nil => exact .refl _
  | cons j js ih =>
    rw [List.map_cons, List.nodup_cons] at hn
    obtain ⟨hj, hjs⟩ := List.forall_mem_cons.mp hm
    unfold arbiterScan
    split
    case isTrue hw =>
      split
      · rename_i h g hstart
        obtain ⟨hidle, -⟩ := State.startable_eq_some.mp hstart
        have hmove : s.roster.Move (s.startJob j h g).roster := by
          rw [State.startJob_roster]
          exact .start hj (by simp [Job.entry, hw, JobState.phase]) hidle h g
        refine .trans (.single hmove) (ih _ _ hn.2 fun k hk => ?_)
        rw [State.startJob_roster, Roster.restate_entries, Roster.occupy_entries]
        exact List.mem_map.mpr ⟨k.entry, hjs k hk, if_neg fun he => hn.1 (List.mem_map.mpr ⟨k, hk, he⟩)⟩
      · exact ih _ _ hn.2 hjs
    case isFalse => exact ih _ _ hn.2 hjs

theorem State.runArbiter_shifts (s : State) : s.roster.Shifts s.runArbiter.roster := fun ho =>
  arbiterScan_shifts _ _ _ (s.roster_ids ▸ ho.ids) (fun _ hj => List.mem_map_of_mem hj) ho

theorem State.arbiterAfter_shifts (s before : State) : s.roster.Shifts (s.arbiterAfter before).roster := by
  unfold State.arbiterAfter
  split
  · exact s.runArbiter_shifts
  · exact .refl _

theorem State.endThenArbitrate_shifts (s : State) (id : Nat) (reason : EndReason) :
    s.roster.Shifts (s.endJob id reason).runArbiter.roster :=
  (s.endJob_shifts id reason).trans (State.runArbiter_shifts _)

/-! ### Timers, boundaries and pauses -/

theorem State.lapseKeep_shifts {s : State} {j : Job} (hj : s.job? j.id = some j) :
    s.roster.Shifts (s.lapseKeep j).roster := by
  unfold State.lapseKeep
  cases hs : j.state with
  | waiting => exact s.endThenArbitrate_shifts _ _
  | running => exact State.updateJob_shifts hj (by simp [Job.entry, hs, JobState.phase])
  | draining | settling => exact .refl _

theorem State.reachHoldLimit_shifts {s : State} {j : Job} (hj : s.job? j.id = some j) :
    s.roster.Shifts (s.reachHoldLimit j).roster := by
  unfold State.reachHoldLimit
  cases hs : j.state with
  | running => exact State.updateJob_shifts hj (by simp [Job.entry, hs, JobState.phase])
  | waiting | draining | settling => exact .refl _

theorem State.decideBoundary_shifts (s : State) (j : Job) (h : Header) : s.roster.Shifts (s.decideBoundary j h).roster := by
  unfold State.decideBoundary
  split
  · exact s.endThenArbitrate_shifts _ _
  · split
    · exact s.endThenArbitrate_shifts _ _
    · split
      · exact .of_eq (s.pauseJob_roster j.id)
      · exact .of_eq (s.beginFrame_roster j .rep)

theorem State.checkPause_shifts (s : State) (id : Nat) : s.roster.Shifts (s.checkPause id).roster := by
  unfold State.checkPause
  split
  · rename_i j _
    split
    · split
      · exact .since (State.decideBoundary_shifts (s.updateJob j.id _) _ _)
          (State.updateJob_roster_of_entry fun _ _ _ => rfl)
      · exact .refl _
    · exact .refl _
  · exact .refl _

/-! ### Zones enabled and disabled (R60, R61) -/

theorem ZoneState.unowned_of_off {x : ZoneState} (h : x = .off) : x.Unowned :=
  fun _ ho => nomatch h.symm.trans ho

theorem State.enableZones_shifts (s : State) (zs : ZoneSet) : s.roster.Shifts (s.enableZones zs).roster := by
  refine foldl_shifts (fun u z => ?_) _ s
  split
  case isTrue hoff =>
    rw [State.setZone_roster]
    exact .single (.free (ZoneState.unowned_of_off (of_decide_eq_true hoff)))
  case isFalse => exact .refl _

/-- Zones that only SETTLING jobs name are turned off one behind another (R61, step 3). -/
theorem State.turnOff_shifts {s : State} {zs : ZoneSet}
    (h : ∀ j ∈ s.jobs, j.state ≠ .settling → ∀ z, ZoneSet.has zs z = true → ZoneSet.has j.zones z = false) :
    s.roster.Shifts (s.turnOff zs).roster := by
  have hall : ∀ (l : List ZoneNo) (u : State), u.jobs = s.jobs → (∀ z ∈ l, ZoneSet.has zs z = true) →
      u.roster.Shifts (l.foldl (fun u z => u.setZone z { u.zone z with state := .off }) u).roster := by
    intro l
    induction l with
    | nil => exact fun u _ _ => .refl _
    | cons z l ih =>
      intro u hu hl
      obtain ⟨hz, hl⟩ := List.forall_mem_cons.mp hl
      refine .trans ?_ (ih _ (by simpa using hu) hl)
      rw [State.setZone_roster]
      refine .single (.turnOff fun e he hs => ?_)
      rw [State.roster_entries, hu] at he
      obtain ⟨j, hj, rfl⟩ := List.mem_map.mp he
      exact h j hj (fun hstate => hs (j.entry_phase_settling_iff.mpr hstate)) z hz
  exact hall _ s rfl fun z hz => mem_zonesOf.mp hz

/-- A set that meets no zone of another has none in common with it. -/
theorem has_eq_false_of_not_meets {a b : ZoneSet} (h : a &&& b = 0#8) {z : ZoneNo} (hb : ZoneSet.has b z = true) :
    ZoneSet.has a z = false := by
  have hbit := congrArg (BitVec.getLsbD · z.val) h
  simp only [BitVec.getLsbD_and, BitVec.getLsbD_zero] at hbit
  unfold ZoneSet.has at hb ⊢
  rwa [hb, Bool.and_true] at hbit

theorem State.disableZones_shifts (s : State) (zs : ZoneSet) : s.roster.Shifts (s.disableZones zs).roster := by
  intro ho
  have hended : s.roster.Shifts ((s.jobsEnded zs).foldl State.disableJob s).roster :=
    foldl_shifts (fun u j => .since (State.endJob_shifts (u.cutFrame j) _ _) (u.cutFrame_roster j)) _ s
  refine hended.trans (State.turnOff_shifts fun j hj hs z hz => ?_) ho
  rw [State.jobsEnded_jobs (s.roster_ids ▸ ho.ids) zs, List.mem_filter] at hj
  have hkept : j.zones &&& zs = 0#8 := by simpa [Job.isEndedByDisable, meets, hs] using hj.2
  exact has_eq_false_of_not_meets hkept hz

/-! ### Admission (R39, R41, R48) -/

theorem joinQueue_perm (js : List Job) (j : Job) : (joinQueue js j).Perm (j :: js) := by
  unfold joinQueue
  split
  · have hsplit := List.perm_middle (a := j) (l₁ := js.takeWhile Job.isUrgent) (l₂ := js.dropWhile Job.isUrgent)
    rwa [List.takeWhile_append_dropWhile] at hsplit
  · exact List.perm_append_singleton j js

theorem has_shiftLeft (z w : ZoneNo) : BitVec.getLsbD (1#8 <<< z.val) w.val = decide (w = z) := by
  revert z w
  decide

/-- A zone is in the set of the zones that pass a test when it passes (R60). -/
theorem has_zoneSetWhere (p : ZoneNo → Bool) (z : ZoneNo) : ZoneSet.has (zoneSetWhere p) z = p z := by
  have hfold : ∀ (l : List ZoneNo) (zs : ZoneSet),
      ZoneSet.has (l.foldl (fun acc z => if p z then acc ||| (1#8 <<< z.val) else acc) zs) z =
        (ZoneSet.has zs z || (decide (z ∈ l) && p z)) := by
    intro l
    induction l with
    | nil => simp
    | cons w l ih =>
      intro zs
      rw [List.foldl_cons, ih]
      by_cases hz : z = w
      · subst hz
        cases hp : p z
        · simp
        · simp [ZoneSet.has]
      · have hbit : ZoneSet.has (if p w then zs ||| (1#8 <<< w.val) else zs) z = ZoneSet.has zs z := by
          split
          · rw [ZoneSet.has, BitVec.getLsbD_or, has_shiftLeft, decide_eq_false hz, Bool.or_false]
            rfl
          · rfl
        simp [hbit, hz]
  rw [zoneSetWhere, hfold]
  simp [ZoneSet.has, mem_allZones]

/-- Zones that meet no zone in OFF are not in OFF (R39, check 3). -/
theorem State.on_of_not_meets {s : State} {zs : ZoneSet} (h : meets zs s.offZones = false) {z : ZoneNo}
    (hz : ZoneSet.has zs z = true) : (s.zone z).state ≠ .off := by
  intro hoff
  have hzero : zs &&& s.offZones = 0#8 := by simpa [meets] using h
  have hin : ZoneSet.has s.offZones z = true := (has_zoneSetWhere _ z).trans (decide_eq_true hoff)
  exact Bool.false_ne_true ((has_eq_false_of_not_meets hzero hin).symm.trans hz)

theorem State.markFor_shifts (s : State) (j : Job) : s.roster.Shifts (s.markFor j).roster := by
  unfold State.markFor
  split
  · refine foldl_shifts (fun u k => ?_) _ s
    have hu : (u.updateJob k.id fun k => { k with preemptPending := true }).roster = u.roster :=
      State.updateJob_roster_of_entry fun _ _ _ => rfl
    unfold State.markJob
    simp only []
    split
    · exact .since (State.endJob_shifts _ _ _) hu
    · exact .of_eq hu
  · exact .refl _

/-- An admission that has passed the checks of EMIT (R39, R41). -/
theorem State.admitJob_shifts {s : State} {r : EmitRequest} (hroom : s.jobs.length < 16)
    (hon : meets r.zones s.offZones = false) : s.roster.Shifts (s.admitJob r).roster := by
  intro ho
  obtain ⟨-, hfree⟩ := State.allocateId_fresh ho.nextRange hroom
  have hjoined : s.roster.Move (((s.raiseReference r.slot).setJobs (joinQueue s.jobs (s.newJob r))).setNextId
      (nextIdAfter (s.newJob r).id)).roster := by
    have hraised : (s.raiseReference r.slot).zones = s.zones ∧ (s.raiseReference r.slot).generators = s.generators := by
      unfold State.raiseReference
      split <;> simp
    obtain ⟨hzones, hgenerators⟩ := hraised
    have hroster : (((s.raiseReference r.slot).setJobs (joinQueue s.jobs (s.newJob r))).setNextId
        (nextIdAfter (s.newJob r).id)).roster =
        { s.roster with
          entries := (joinQueue s.jobs (s.newJob r)).map Job.entry, nextId := nextIdAfter (s.newJob r).entry.id } := by
      simp [State.roster, State.zone, hzones, hgenerators, Job.entry]
    rw [hroster]
    refine .enter ((joinQueue_perm s.jobs (s.newJob r)).map Job.entry) (List.forall_mem_map.mpr hfree) rfl rfl ?_
    exact fun z hz => State.on_of_not_meets hon hz
  exact (Roster.Shifts.single hjoined).trans (State.markFor_shifts _ _) ho

/-! ### Resets (R16, R53, R65, R68) -/

theorem ZoneState.afterRestart_unowned (x : ZoneState) : x.afterRestart.Unowned := by
  intro o
  cases x <;> nofun

theorem State.restartActivity_shifts (s : State) : s.roster.Shifts s.restartActivity.roster := by
  refine .single (.clear rfl rfl (fun z => ?_) fun g => ?_)
  · rw [State.roster_zones, State.restartActivity_zone]
    exact ZoneState.afterRestart_unowned _
  · rw [State.roster_generators, State.restartActivity_generators]
    simp

theorem State.restartFull_shifts (s : State) : s.roster.Shifts s.restartFull.roster := by
  refine .single (.clear ?_ s.restartFull_nextId (fun z => ?_) fun g => ?_)
  · rw [State.roster_entries, State.restartFull_jobs]
    rfl
  · rw [State.roster_zones, State.restartFull_zone]
    exact fun o => nofun
  · rw [State.roster_generators, State.restartFull_generators]
    simp

theorem State.powered_shifts (R : Roster) (straps : BitVec 2) (a b : Level) (cause : Byte) (draw : Nat)
    (pending : List Instr) : R.Shifts (State.powered straps a b cause draw pending).roster := by
  refine .single (.clear rfl rfl (fun z => ?_) fun g => ?_)
  · rw [State.roster_zones, State.powered_zone]
    exact fun o => nofun
  · rw [State.roster_generators]
    simp [State.powered]

end Sys2Proof.Machine
end

section
/-! PROOFS. What the capture queue, the capture engines and the host line's receiver do to the roster: they start and end jobs
only by the checks they make. -/

namespace Sys2Proof.Machine

/-! ### The capture queue (R134, R170) -/

@[simp] theorem State.recheckRunEnd_roster (s : State) (v : InputNo) : (s.recheckRunEnd v).roster = s.roster :=
  State.roster_of_kept (by simp)

@[simp] theorem State.retryRunEnd_roster (s : State) (v : InputNo) : (s.retryRunEnd v).roster = s.roster :=
  State.roster_of_kept (by simp)

@[simp] theorem State.endLearn_roster (s : State) (c : LearnContext) (result : LearnResult) (lead rep : Nat) :
    (s.endLearn c result lead rep).roster = s.roster :=
  State.roster_of_kept (by simp)

theorem State.consume_roster {s t : State} {f : CapturedFrame} (h : s.consume f = some t) : t.roster = s.roster := by
  obtain ⟨-, -, -, hjobs, hnextId, hzones, hgenerators, -⟩ := State.consume_keeps h
  exact State.roster_of_kept ⟨hnextId, hjobs, hzones, hgenerators⟩

theorem State.leaveQueue_shifts (s : State) (f : CapturedFrame) : s.roster.Shifts (s.leaveQueue f).roster := by
  have hs : ((s.setCaptures s.captures.tail).checkRunEnd f.input).roster = s.roster := by simp
  unfold State.leaveQueue
  simp only []
  split
  · exact .since (State.checkSettled_shifts _ _) hs
  all_goals exact .of_eq hs

theorem State.tryHead_shifts {s t : State} (h : s.tryHead = some t) : s.roster.Shifts t.roster := by
  unfold State.tryHead at h
  split at h
  · cases h
  · obtain ⟨u, hu, rfl⟩ := Option.map_eq_some_iff.mp h
    exact .since (u.leaveQueue_shifts _) (State.consume_roster hu)

theorem tryHeads_shifts (n : Nat) (s : State) : s.roster.Shifts (tryHeads n s).roster := by
  induction n generalizing s with
  | zero => exact .refl _
  | succ n ih =>
    unfold tryHeads
    split
    · exact (State.tryHead_shifts ‹_›).trans (ih _)
    · exact .refl _

theorem State.dispatch_shifts (s : State) : s.roster.Shifts s.dispatch.roster :=
  (tryHeads_shifts _ s).trans (State.arbiterAfter_shifts _ s)

theorem State.retryProducers_shifts (s : State) : s.roster.Shifts s.retryProducers.roster :=
  s.dispatch_shifts.trans (.of_eq (by simp [State.retryProducers]))

theorem State.recheckProducers_shifts (s : State) : s.roster.Shifts s.recheckProducers.roster :=
  s.dispatch_shifts.trans (.of_eq (by simp [State.recheckProducers]))

/-! ### The capture engines (R124, R127 to R133) -/

@[simp] theorem State.noteDrop_roster (s : State) (v : InputNo) (reason : DropReason) :
    (s.noteDrop v reason).roster = s.roster := by
  unfold State.noteDrop
  simp only []
  split <;> rfl

@[simp] theorem State.markStart_roster (s : State) (v : InputNo) (edge : Nat) : (s.markStart v edge).roster = s.roster := by
  unfold State.markStart
  simp only []
  split
  · rfl
  · split
    · rfl
    · split
      · exact s.noteDrop_roster v _
      · split
        · exact s.noteDrop_roster v _
        · rfl

@[simp] theorem State.endDiscard_roster (s : State) (v : InputNo) : (s.endDiscard v).roster = s.roster := by
  unfold State.endDiscard
  repeat' split
  all_goals rfl

theorem State.dropOpen_shifts (s : State) (v : InputNo) : s.roster.Shifts (s.dropOpen v).roster :=
  .since ((State.checkSettled_shifts ((s.noteDrop v .bufferFull).checkRunEnd v) v).trans (State.arbiterAfter_shifts _ s))
    (by simp)

theorem State.closeFrame_shifts (s : State) (v : InputNo) (f : OpenFrame) (flags : FrameFlags) (after : Engine) :
    s.roster.Shifts (s.closeFrame v f flags after).roster := by
  unfold State.closeFrame
  simp only []
  split
  · exact .refl _
  · split
    · exact State.dispatch_shifts ((s.setInput v _).setCaptures _)
    · exact .refl _

theorem State.storeCell_shifts (s : State) (v : InputNo) (f : OpenFrame) (d : Nat) :
    s.roster.Shifts (s.storeCell v f d).roster := by
  unfold State.storeCell
  simp only []
  split
  · split
    · exact .refl _
    · exact s.closeFrame_shifts _ _ _ _
  · exact s.dropOpen_shifts v

theorem State.acceptChange_shifts (s : State) (v : InputNo) (edge : Nat) :
    s.roster.Shifts (s.acceptChange v edge).roster := by
  unfold State.acceptChange
  simp only []
  split
  · split
    · exact .of_eq (State.markStart_roster (s.setInput v _) v edge)
    · exact .refl _
  · exact State.storeCell_shifts (s.setInput v _) v _ _
  · exact .refl _

theorem State.closeAtEndGap_shifts (s : State) (v : InputNo) : s.roster.Shifts (s.closeAtEndGap v).roster := by
  unfold State.closeAtEndGap
  split
  · split
    · exact s.closeFrame_shifts _ _ _ _
    · exact .refl _
  all_goals exact .refl _

theorem State.closeStuck_shifts (s : State) (v : InputNo) : s.roster.Shifts (s.closeStuck v).roster := by
  unfold State.closeStuck
  split
  · split
    · split
      · exact s.closeFrame_shifts _ _ _ _
      · exact s.dropOpen_shifts v
    · exact .refl _
  all_goals exact .refl _

theorem State.takeWaitingClosing_shifts (s : State) (v : InputNo) : s.roster.Shifts (s.takeWaitingClosing v).roster := by
  unfold State.takeWaitingClosing
  split
  · split
    · exact s.closeAtEndGap_shifts v
    · exact s.closeStuck_shifts v
  · exact .of_eq (s.endDiscard_roster v)
  · exact .refl _

theorem State.acceptDue_shifts (s : State) (v : InputNo) : s.roster.Shifts (s.acceptDue v).roster := by
  unfold State.acceptDue
  split
  · split
    · exact s.acceptChange_shifts _ _
    · exact .refl _
  · exact .refl _

theorem State.rawEdge_shifts (s : State) (v : InputNo) (level : Level) : s.roster.Shifts (s.rawEdge v level).roster := by
  unfold State.rawEdge
  simp only []
  split
  · exact State.takeWaitingClosing_shifts (s.setInput v _) v
  · exact State.acceptDue_shifts (s.setInput v _) v

/-! ### Receiving (R164) -/

@[simp] theorem State.setFramer_roster (s : State) (f : Framer) : (s.setFramer f).roster = s.roster := rfl
@[simp] theorem State.endHeld_roster (s : State) : s.endHeld.roster = s.roster := rfl

@[simp] theorem State.linkError_roster (s : State) (e : LinkFault) (tag : Byte) : (s.linkError e tag).roster = s.roster :=
  State.roster_of_kept (by simp)

@[simp] theorem State.discardPartial_roster (s : State) : s.discardPartial.roster = s.roster := by
  simp [State.discardPartial]

@[simp] theorem State.admitCommand_roster (s : State) (c : CommandFrame) : (s.admitCommand c).roster = s.roster := by
  unfold State.admitCommand
  split <;> simp

theorem State.acknowledge_shifts (s : State) (tag : Byte) : s.roster.Shifts (s.acknowledge tag).roster := by
  unfold State.acknowledge
  split
  · rename_i left _
    have hfreed := State.retryProducers_shifts
      ((s.setLine (s.line.acknowledged left (s.timer s.params.ackTimeout))).setLine
        (s.line.acknowledged left (s.timer s.params.ackTimeout)).reportLost)
    exact hfreed
  · exact .refl _

theorem State.checkFrame_shifts (s : State) (len kind tag type : Byte) (payload : List Byte) (crc : Word16) :
    s.roster.Shifts (s.checkFrame len kind tag type payload crc).roster := by
  unfold State.checkFrame
  split
  · exact .of_eq (by simp)
  · split
    · exact s.acknowledge_shifts tag
    · split <;> exact .of_eq (by simp)

theorem State.checkBytes_shifts (s : State) (len : Byte) (bytes : List Byte) (crc : Word16) :
    s.roster.Shifts (s.checkBytes len bytes crc).roster := by
  unfold State.checkBytes
  split
  · exact s.checkFrame_shifts _ _ _ _ _ _
  all_goals exact .refl _

theorem State.frameByte_shifts (s : State) (b : Byte) : s.roster.Shifts (s.frameByte b).roster := by
  unfold State.frameByte
  split
  · split <;> exact .refl _
  · split <;> exact .of_eq (by simp)
  · split <;> exact .refl _
  · exact .refl _
  · exact State.checkBytes_shifts (s.setFramer .hunt) _ _ _

theorem State.receiveByte_shifts (s : State) (b : Byte) : s.roster.Shifts (s.receiveByte b).roster := by
  have hs : (if s.gapPassed then s.discardPartial else s).roster = s.roster := by split <;> simp
  unfold State.receiveByte
  simp only []
  generalize (if s.gapPassed then s.discardPartial else s) = u at hs
  exact .since (State.frameByte_shifts (u.setLine { u.line with lastByte := s.clock }) b) hs

end Sys2Proof.Machine
end

section
/-! PROOFS. Every command, and so every step, is a run of moves of the roster; the statements about the owners of zones and the
users of generators. -/

namespace Sys2Proof.Machine

/-! ### The command interpreter (R166) -/

/-- Creating and recording a reply leaves the roster; a run of the arbiter may follow (R166). -/
theorem State.finish_shifts (a : Answer) (c : CommandFrame) : a.state.roster.Shifts (State.finish a c).roster := by
  obtain ⟨u, hu, hfinish⟩ : ∃ u : State, u.roster = a.state.roster ∧
      State.finish a c = if a.arbiter then u.runArbiter else u := ⟨_, by split <;> rfl, rfl⟩
  rw [hfinish]
  split
  · exact .since u.runArbiter_shifts hu
  · exact .of_eq hu

theorem State.takeCommand_shifts {i : Instr} {form : List Byte → Bool} {act : List Byte → State → Answer}
    (h : ∀ (p : List Byte) (u : State), u.roster.Shifts (act p u).state.roster) (s : State) :
    s.roster.Shifts (s.takeCommand i form act).roster := by
  unfold State.takeCommand
  split
  · exact .refl _
  · rename_i c _ _
    split
    · unfold State.interpret
      split
      · exact .refl _
      · split
        · exact .trans (h c.payload s.popCommand) (State.finish_shifts _ c)
        · exact State.finish_shifts (s.popCommand.refuse .badMessage []) c
    · exact .refl _

/-! ### Commands that leave the roster -/

theorem actGetParam_roster (p : List Byte) (s : State) : (actGetParam p s).state.roster = s.roster := by
  unfold actGetParam
  split <;> rfl

theorem actCodeOpen_roster (p : List Byte) (s : State) : (actCodeOpen p s).state.roster = s.roster := by
  unfold actCodeOpen
  repeat' split
  all_goals rfl

theorem actCodeData_roster (p : List Byte) (s : State) : (actCodeData p s).state.roster = s.roster := by
  have hstored : ∀ (l : LoadContext) (cells : List Nat), (s.storeSegment l cells).roster = s.roster := fun l cells => by
    unfold State.storeSegment State.extendSlot
    split <;> rfl
  unfold actCodeData
  simp only []
  repeat' split
  all_goals simp [hstored]

@[simp] theorem State.abandonLoad_roster (s : State) (i : SlotNo) : (s.abandonLoad i).roster = s.roster := by
  unfold State.abandonLoad
  split <;> rfl

theorem actCodeClose_roster (p : List Byte) (s : State) : (actCodeClose p s).state.roster = s.roster := by
  have hcompleted : ∀ l : LoadContext, (s.completeLoad l).roster = s.roster := fun l => by
    unfold State.completeLoad
    split <;> rfl
  unfold actCodeClose
  repeat' split
  all_goals simp [hcompleted]

theorem State.eraseSlot_roster (s : State) (i : SlotNo) : (s.eraseSlot i).roster = s.roster := by
  unfold State.eraseSlot
  split
  · rfl
  · exact s.abandonLoad_roster i
  · unfold State.eraseLearning
    split
    · split
      · exact s.endLearn_roster _ _ _ _
      · rfl
    · rfl
  · split <;> rfl
  · rfl

theorem actCodeErase_roster (p : List Byte) (s : State) : (actCodeErase p s).state.roster = s.roster := by
  unfold actCodeErase
  split
  · rfl
  · exact s.eraseSlot_roster _

theorem actCodeAmend_roster (p : List Byte) (s : State) : (actCodeAmend p s).state.roster = s.roster := by
  unfold actCodeAmend
  repeat' split
  all_goals rfl

theorem actCodeInfo_roster (p : List Byte) (s : State) : (actCodeInfo p s).state.roster = s.roster := by
  unfold actCodeInfo
  split <;> rfl

theorem actCodeRead_roster (p : List Byte) (s : State) : (actCodeRead p s).state.roster = s.roster := by
  unfold actCodeRead
  simp only []
  repeat' split
  all_goals rfl

theorem actJobKeep_roster (p : List Byte) (s : State) : (actJobKeep p s).state.roster = s.roster := by
  have hkept : ∀ id, (s.restartKeep id).roster = s.roster := fun _ => State.updateJob_roster_of_entry fun _ _ _ => rfl
  unfold actJobKeep
  repeat' split
  all_goals simp [hkept]

theorem actJobRelease_roster (p : List Byte) (s : State) : (actJobRelease p s).state.roster = s.roster := by
  have hreleased : ∀ id, (s.updateJob id Job.release).roster = s.roster := fun _ =>
    State.updateJob_roster_of_entry fun j _ _ => j.release_entry
  unfold actJobRelease
  repeat' split
  all_goals simp [hreleased]

theorem actJobInfo_roster (p : List Byte) (s : State) : (actJobInfo p s).state.roster = s.roster := by
  unfold actJobInfo
  split <;> rfl

theorem actZoneInfo_roster (p : List Byte) (s : State) : (actZoneInfo p s).state.roster = s.roster := by
  unfold actZoneInfo
  split <;> rfl

theorem actDerateSet_roster (p : List Byte) (s : State) : (actDerateSet p s).state.roster = s.roster := by
  unfold actDerateSet
  repeat' split
  all_goals rfl

theorem actDerateGet_roster (p : List Byte) (s : State) : (actDerateGet p s).state.roster = s.roster := by
  unfold actDerateGet
  split <;> rfl

theorem State.setMode_roster (s : State) (v : InputNo) (m : InputMode) (mask : ZoneSet) :
    (s.setMode v m mask).roster = s.roster := by
  unfold State.setMode
  simp only []
  split
  · exact State.roster_of_kept (by simp)
  · rfl

theorem actInputMode_roster (p : List Byte) (s : State) : (actInputMode p s).state.roster = s.roster := by
  unfold actInputMode
  split
  · rfl
  · split
    · rfl
    · simp only []
      split
      · rfl
      · exact s.setMode_roster _ _ _

theorem actInputInfo_roster (p : List Byte) (s : State) : (actInputInfo p s).state.roster = s.roster := by
  unfold actInputInfo
  split <;> rfl

theorem actLearn_roster (p : List Byte) (s : State) : (actLearn p s).state.roster = s.roster := by
  unfold actLearn
  split
  · unfold State.learnOn
    repeat' split
    all_goals rfl
  · rfl

theorem actLearnCancel_roster (p : List Byte) (s : State) : (actLearnCancel p s).state.roster = s.roster := by
  unfold actLearnCancel
  split
  · rfl
  · exact s.endLearn_roster _ _ _ _

/-! ### Commands that may move the roster -/

theorem actSetParam_shifts (p : List Byte) (s : State) : s.roster.Shifts (actSetParam p s).state.roster := by
  have hwindow : ∀ (u : State) (v : InputNo), (u.moveWindow v).roster = u.roster := fun u v => by
    unfold State.moveWindow
    split
    · rfl
    · split
      · exact State.checkRunEnd_roster (u.setRun v _) v
      · rfl
  have hafter : ∀ (u : State) (q : ParamId), u.roster.Shifts (u.afterParam q).roster := fun u q => by
    unfold State.afterParam
    split
    · exact .of_eq ((hwindow _ 1).trans (hwindow u 0))
    · split
      · exact u.dispatch_shifts
      · exact .refl _
  unfold actSetParam
  split
  · exact .refl _
  · rename_i q _
    split
    · exact hafter (s.setParams (s.params.set q (wordAt p 1))) q
    · exact .refl _

theorem actReportSelect_shifts (p : List Byte) (s : State) : s.roster.Shifts (actReportSelect p s).state.roster := by
  unfold actReportSelect
  simp only []
  split
  · exact State.recheckProducers_shifts (s.setLine { s.line with categories := p.getD 0 0#8 })
  · exact .refl _

theorem actRestartLink_shifts (p : List Byte) (s : State) : s.roster.Shifts (actRestartLink p s).state.roster := by
  unfold actRestartLink
  split
  · exact State.retryProducers_shifts (s.setLine (s.line.restarted .link s.now))
  · exact .refl _

/-- Every check of EMIT that fails leaves the roster, and the job admitted names no zone in OFF (R39). -/
theorem actEmit_shifts (p : List Byte) (s : State) : s.roster.Shifts (actEmit p s).state.roster := by
  have hlast : ∀ (r : EmitRequest) (c : Code), meets r.zones s.offZones = false →
      s.roster.Shifts (s.emitLast r c).state.roster := fun r c hon => by
    have hadmitted : s.roster.Shifts
        (if s.jobs.length < Config.jobPlaces then
          (s.admitJob r).answerThenArbitrate (reply .ok (u8 (s.newJob r).id ++ u8 (s.admitJob r).jobs.length))
        else s.refuse .queueFull (u8 r.slot.val ++ u8 s.jobs.length)).state.roster := by
      split
      · exact State.admitJob_shifts ‹_› hon
      · exact .refl _
    unfold State.emitLast
    simp only []
    split
    · exact hadmitted
    · split
      · exact .refl _
      · split
        · exact .refl _
        · exact hadmitted
  unfold actEmit
  split
  · exact .refl _
  · split
    · unfold State.emitOn
      split
      · exact .refl _
      · split
        · exact .refl _
        · rename_i hon
          split
          · exact .refl _
          · split
            · exact .refl _
            · exact hlast _ _ (Bool.eq_false_iff.mpr hon)
    all_goals exact .refl _

theorem actJobCancel_shifts (p : List Byte) (s : State) : s.roster.Shifts (actJobCancel p s).state.roster := by
  unfold actJobCancel
  split
  · exact .refl _
  · rename_i j hj
    exact State.cancelJob_shifts ((State.job?_id hj).symm ▸ hj)

theorem actZoneEnable_shifts (p : List Byte) (s : State) : s.roster.Shifts (actZoneEnable p s).state.roster := by
  unfold actZoneEnable
  simp only []
  split
  · exact .refl _
  · split <;> exact s.enableZones_shifts _

theorem actZoneDisable_shifts (p : List Byte) (s : State) : s.roster.Shifts (actZoneDisable p s).state.roster := by
  unfold actZoneDisable
  simp only []
  split
  · exact .refl _
  · exact s.disableZones_shifts _

/-! ### The events of jobs, zones and inputs -/

theorem execLoadIdleTimerExpiry_shifts (s : State) :
    ∃ t, execLoadIdleTimerExpiry s = .next t ∧ s.roster.Shifts t.roster := by
  refine ⟨_, rfl, .of_eq ?_⟩
  repeat' split
  all_goals simp

theorem execKeepTimerExpiry_shifts (id : Nat) (s : State) :
    ∃ t, execKeepTimerExpiry id s = .next t ∧ s.roster.Shifts t.roster := by
  refine ⟨_, rfl, ?_⟩
  split
  · rename_i j hj
    split
    · exact State.lapseKeep_shifts ((State.job?_id hj).symm ▸ hj)
    · exact .refl _
  · exact .refl _

theorem execHoldLimitExpiry_shifts (id : Nat) (s : State) :
    ∃ t, execHoldLimitExpiry id s = .next t ∧ s.roster.Shifts t.roster := by
  refine ⟨_, rfl, ?_⟩
  split
  · rename_i j hj
    split
    · exact State.reachHoldLimit_shifts ((State.job?_id hj).symm ▸ hj)
    · exact .refl _
  · exact .refl _

theorem execPauseLimitExpiry_shifts (id : Nat) (s : State) :
    ∃ t, execPauseLimitExpiry id s = .next t ∧ s.roster.Shifts t.roster := by
  refine ⟨_, rfl, ?_⟩
  split
  · split
    · exact s.endThenArbitrate_shifts _ _
    · exact .refl _
  · exact .refl _

/-- A zone in GUARD has no owner, and becomes IDLE (R58). -/
theorem execGuardExpiry_shifts (z : ZoneNo) (s : State) :
    ∃ t, execGuardExpiry z s = .next t ∧ s.roster.Shifts t.roster := by
  refine ⟨_, rfl, ?_⟩
  split
  · rename_i hguard
    split
    · have hfreed : s.roster.Move (s.setZone z { s.zone z with state := .idle }).roster := by
        rw [State.setZone_roster]
        exact .free fun o ho => nomatch hguard.symm.trans ho
      exact .trans (.single hfreed) (State.runArbiter_shifts _)
    · exact .refl _
  all_goals exact .refl _

/-- The first job that a run of the arbiter would start is WAITING, and its zones are IDLE (R70). -/
theorem State.firstStart_idle {s : State} {js : List Job} {blocked : ZoneSet} {j : Job} {h : Header} {g : Option (Fin 4)}
    (hf : s.firstStart js blocked = some (j, h, g)) : ∀ z, ZoneSet.has j.zones z = true → (s.zone z).state = .idle := by
  induction js generalizing blocked with
  | nil => cases hf
  | cons k js ih =>
    unfold State.firstStart at hf
    split at hf
    · split at hf
      · rename_i hstart
        cases hf
        obtain ⟨hidle, -⟩ := State.startable_eq_some.mp hstart
        exact hidle
      · exact ih hf
    · exact ih hf

theorem execJobStart_shifts (id : Nat) (s : State) : ∃ t, execJobStart id s = .next t ∧ s.roster.Shifts t.roster := by
  refine ⟨_, rfl, ?_⟩
  split
  · rename_i j h g hf
    split
    · obtain ⟨hmem, hwaits⟩ := State.firstStart_mem hf
      rw [State.startJob_roster]
      exact .single (.start (List.mem_map_of_mem hmem) (by simp [Job.entry, hwaits, JobState.phase])
        (State.firstStart_idle hf) h g)
    · exact .refl _
  · exact .refl _

theorem execCellEnd_shifts (id : Nat) (s : State) : ∃ t, execCellEnd id s = .next t ∧ s.roster.Shifts t.roster := by
  refine ⟨_, rfl, .of_eq ?_⟩
  split
  · rfl
  · split
    · split
      · split
        · split
          · exact s.endCell_roster _ _ _ _ _
          · rfl
        · rfl
      all_goals rfl
    · rfl

theorem execFrameBoundary_shifts (id : Nat) (s : State) :
    ∃ t, execFrameBoundary id s = .next t ∧ s.roster.Shifts t.roster := by
  have hcounted : ∀ kind, (s.updateJob id fun j => j.countFrame kind).roster = s.roster := fun kind =>
    State.updateJob_roster_of_entry fun j _ _ => j.countFrame_entry kind
  refine ⟨_, rfl, ?_⟩
  split
  · exact .refl _
  · split
    · split
      · split
        · exact .since (State.decideBoundary_shifts _ _ _) (hcounted _)
        · exact .refl _
      all_goals exact .refl _
    · exact .refl _

theorem execCodeRetired_shifts (i : SlotNo) (s : State) :
    ∃ t, execCodeRetired i s = .next t ∧ s.roster.Shifts t.roster := by
  refine ⟨_, rfl, .of_eq ?_⟩
  split
  · split <;> rfl
  all_goals rfl

theorem execDecayStep_shifts (z : ZoneNo) (s : State) : ∃ t, execDecayStep z s = .next t ∧ s.roster.Shifts t.roster := by
  refine ⟨_, rfl, ?_⟩
  split
  · split
    · exact .since (State.checkPause_shifts _ _) (s.decay_roster z)
    all_goals exact .of_eq (s.decay_roster z)
  · exact .refl _

theorem execRxRawEdge_shifts (v : InputNo) (level : Level) (s : State) :
    ∃ t, execRxRawEdge v level s = .next t ∧ s.roster.Shifts t.roster := by
  refine ⟨_, rfl, ?_⟩
  split
  · exact .refl _
  · exact (s.acceptDue_shifts v).trans (State.rawEdge_shifts _ v level)

theorem execLearnDeadline_shifts (s : State) : ∃ t, execLearnDeadline s = .next t ∧ s.roster.Shifts t.roster := by
  refine ⟨_, rfl, .of_eq ?_⟩
  repeat' split
  all_goals simp

theorem execRepeatWindowElapse_shifts (v : InputNo) (s : State) :
    ∃ t, execRepeatWindowElapse v s = .next t ∧ s.roster.Shifts t.roster := by
  refine ⟨_, rfl, .of_eq ?_⟩
  split
  · split
    · exact State.checkRunEnd_roster (s.setRun v _) v
    · rfl
  · rfl

theorem execByteTimeout_shifts (s : State) : ∃ t, execByteTimeout s = .next t ∧ s.roster.Shifts t.roster :=
  ⟨_, rfl, .of_eq (by split <;> simp)⟩

theorem execHrxByte_shifts (b : Byte) (stopHigh : Bool) (s : State) :
    ∃ t, execHrxByte b stopHigh s = .next t ∧ s.roster.Shifts t.roster := by
  refine ⟨_, rfl, ?_⟩
  split
  · exact s.receiveByte_shifts b
  · exact .refl _

theorem execHtxFrameSent_shifts (s : State) : ∃ t, execHtxFrameSent s = .next t ∧ s.roster.Shifts t.roster :=
  ⟨_, rfl, .of_eq (by split <;> rfl)⟩

theorem execReportSend_shifts (s : State) : ∃ t, execReportSend s = .next t ∧ s.roster.Shifts t.roster :=
  ⟨_, rfl, .of_eq (by split <;> rfl)⟩

theorem execAckTimerExpiry_shifts (s : State) : ∃ t, execAckTimerExpiry s = .next t ∧ s.roster.Shifts t.roster :=
  ⟨_, rfl, .of_eq (by split <;> rfl)⟩

/-! ### Every command, and every step -/

theorem shifts_of_act {i : Instr} {form : List Byte → Bool} {act : List Byte → State → Answer} (s : State)
    (h : ∀ (p : List Byte) (u : State), u.roster.Shifts (act p u).state.roster) :
    ∃ t, (.next (s.takeCommand i form act) : Host.Outcome State Fault Refusal) = .next t ∧ s.roster.Shifts t.roster :=
  ⟨_, rfl, State.takeCommand_shifts h s⟩

theorem shifts_of_inquiry {i : Instr} {form : List Byte → Bool} {act : List Byte → State → Answer} (s : State)
    (h : ∀ (p : List Byte) (u : State), (act p u).state.roster = u.roster) :
    ∃ t, (.next (s.takeCommand i form act) : Host.Outcome State Fault Refusal) = .next t ∧ s.roster.Shifts t.roster :=
  shifts_of_act s fun p u => .of_eq (h p u)

/-- Every command answers a next state, to whose roster a run of moves leads. -/
theorem exec_shifts (i : Instr) (s : State) : ∃ t, exec i s = .next t ∧ s.roster.Shifts t.roster := by
  cases i with
  | powerOn straps a b => exact ⟨_, rfl, State.powered_shifts _ _ _ _ _ _ _⟩
  | resetPin straps a b => exact ⟨_, rfl, State.powered_shifts _ _ _ _ _ _ _⟩
  | messageFrame f => exact ⟨_, rfl, foldl_shifts State.receiveByte_shifts _ s⟩
  | byteTimeout => exact execByteTimeout_shifts s
  | badMessage => exact shifts_of_inquiry s fun _ _ => rfl
  | identify => exact shifts_of_inquiry s fun _ _ => rfl
  | time => exact shifts_of_inquiry s fun _ _ => rfl
  | setParam => exact shifts_of_act s actSetParam_shifts
  | getParam => exact shifts_of_inquiry s actGetParam_roster
  | reportSelect => exact shifts_of_act s actReportSelect_shifts
  | restartLink => exact shifts_of_act s actRestartLink_shifts
  | restartActivity => exact shifts_of_act s fun _ u => u.restartActivity_shifts
  | restartFull => exact shifts_of_act s fun _ u => u.restartFull_shifts
  | codeOpen => exact shifts_of_inquiry s actCodeOpen_roster
  | codeData => exact shifts_of_inquiry s actCodeData_roster
  | codeClose => exact shifts_of_inquiry s actCodeClose_roster
  | codeErase => exact shifts_of_inquiry s actCodeErase_roster
  | codeAmend => exact shifts_of_inquiry s actCodeAmend_roster
  | codeInfo => exact shifts_of_inquiry s actCodeInfo_roster
  | codeRead => exact shifts_of_inquiry s actCodeRead_roster
  | poolInfo => exact shifts_of_inquiry s fun _ _ => rfl
  | emit => exact shifts_of_act s actEmit_shifts
  | jobKeep => exact shifts_of_inquiry s actJobKeep_roster
  | jobRelease => exact shifts_of_inquiry s actJobRelease_roster
  | jobCancel => exact shifts_of_act s actJobCancel_shifts
  | jobInfo => exact shifts_of_inquiry s actJobInfo_roster
  | jobList => exact shifts_of_inquiry s fun _ _ => rfl
  | zoneEnable => exact shifts_of_act s actZoneEnable_shifts
  | zoneDisable => exact shifts_of_act s actZoneDisable_shifts
  | zoneInfo => exact shifts_of_inquiry s actZoneInfo_roster
  | derateSet => exact shifts_of_inquiry s actDerateSet_roster
  | derateGet => exact shifts_of_inquiry s actDerateGet_roster
  | inputMode => exact shifts_of_inquiry s actInputMode_roster
  | inputInfo => exact shifts_of_inquiry s actInputInfo_roster
  | learn => exact shifts_of_inquiry s actLearn_roster
  | learnCancel => exact shifts_of_inquiry s actLearnCancel_roster
  | htxFrameSent => exact execHtxFrameSent_shifts s
  | reportSend => exact execReportSend_shifts s
  | ackTimerExpiry => exact execAckTimerExpiry_shifts s
  | loadIdleTimerExpiry => exact execLoadIdleTimerExpiry_shifts s
  | keepTimerExpiry id => exact execKeepTimerExpiry_shifts id s
  | holdLimitExpiry id => exact execHoldLimitExpiry_shifts id s
  | pauseLimitExpiry id => exact execPauseLimitExpiry_shifts id s
  | guardExpiry z => exact execGuardExpiry_shifts z s
  | jobStart id => exact execJobStart_shifts id s
  | cellEnd id => exact execCellEnd_shifts id s
  | frameBoundary id => exact execFrameBoundary_shifts id s
  | codeRetired k => exact execCodeRetired_shifts k s
  | decayStep z => exact execDecayStep_shifts z s
  | pauseClear id => exact ⟨_, rfl, s.checkPause_shifts id⟩
  | rxRawEdge v level => exact execRxRawEdge_shifts v level s
  | acceptedChange v => exact ⟨_, rfl, s.acceptDue_shifts v⟩
  | endGapClose v => exact ⟨_, rfl, s.closeAtEndGap_shifts v⟩
  | stuckMark v => exact ⟨_, rfl, s.closeStuck_shifts v⟩
  | discardEnd v => exact ⟨_, rfl, .of_eq (s.endDiscard_roster v)⟩
  | captureDispatch => exact ⟨_, rfl, s.dispatch_shifts⟩
  | verifyVerdict v => exact ⟨_, rfl, (s.checkSettled_shifts v).trans (State.arbiterAfter_shifts _ s)⟩
  | learnDeadline => exact execLearnDeadline_shifts s
  | repeatWindowElapse v => exact execRepeatWindowElapse_shifts v s
  | rxRunEnd v => exact ⟨_, rfl, .of_eq (s.retryRunEnd_roster v)⟩
  | hrxByte b stopHigh => exact execHrxByte_shifts b stopHigh s

theorem State.chooseDue_roster {s t : State} {i : Instr} (h : s.chooseDue = some (i, t)) : t.roster = s.roster := by
  unfold State.chooseDue at h
  split at h <;> cases h <;> rfl

/-- A step, of a command or of the part itself, is a run of moves of the roster. -/
theorem step_shifts {s t : State} (h : step s = .next t) : s.roster.Shifts t.roster := by
  have hexec : ∀ {i : Instr} {u : State}, exec i u = .next t → u.roster.Shifts t.roster := fun {i u} hu => by
    obtain ⟨w, hw, hshifts⟩ := exec_shifts i u
    obtain rfl : w = t := Host.Outcome.next.inj (hw.symm.trans hu)
    exact hshifts
  unfold step at h
  split at h
  · exact .since (hexec h) rfl
  · split at h
    · exact .since (hexec h) (State.chooseDue_roster ‹_›)
    · obtain rfl := Host.Outcome.next.inj h
      exact .refl _

theorem step_keeps_queueOrdered {s t : State} (h : step s = .next t) (hs : s.queueOrdered) : t.queueOrdered :=
  t.queueOrdered_iff.mpr (step_keeps (P := Ledger.Ordered) (fun _ _ ho hP => ho.keeps_ordered hP)
    (fun _ _ hm hP => hm.keeps_ordered hP) h (s.queueOrdered_iff.mp hs))

end Sys2Proof.Machine

/-! ### The statements about the owners of zones and the users of generators -/

section

open Sys2Proof Sys2Proof.Machine

/-- Settles O57: a step is a run of moves of the roster, and each move keeps the zones owned. -/
theorem stepKeepsZonesOwned : Obligations.StepKeepsZonesOwned := fun s t hs h => by
  obtain ⟨hqueue, howned⟩ := s.zonesOwned_iff.mp hs
  exact t.zonesOwned_iff.mpr ⟨step_keeps_queueOrdered h hqueue,
    (step_shifts h).keeps (fun _ _ hm ho hR => hm.keeps_owned ho hR) (State.roster_ordered hqueue) howned⟩

/-- Settles O58: a step is a run of moves of the roster, and each move keeps the generators counted. -/
theorem stepKeepsGeneratorsCounted : Obligations.StepKeepsGeneratorsCounted := fun s t hs h => by
  obtain ⟨hqueue, hcounted⟩ := s.generatorsCounted_iff.mp hs
  exact t.generatorsCounted_iff.mpr ⟨step_keeps_queueOrdered h hqueue,
    (step_shifts h).keeps (fun _ _ hm ho hR => hm.keeps_counted ho hR) (State.roster_ordered hqueue) hcounted⟩

end

end
